-- ==== Sys2Proof/Word.lean ====
section
/-! DEFINITION. The widths of the LK-7260's numbered quantities (00_scope.md "Identifiers", R1).
Bit vectors stand only where the manual wraps or lays a quantity out in bits; cells, stations,
positions and counts are plain numbers. -/
namespace Sys2Proof

/-- One byte of a port message, a trunk frame or segment memory. -/
abbrev Byte := BitVec 8
/-- Sector time: a 32-bit count of 4 ms units (R1). -/
abbrev Time := BitVec 32
/-- A mark count or a release mark: 16 bits (R155). -/
abbrev Mark := BitVec 16
/-- A segment sequence number: 16 bits (R153). -/
abbrev Seq := BitVec 16
/-- The 16-bit tag of a command and of its response (R8). -/
abbrev Tag := BitVec 16
/-- A ticket token: 64 bits, 0 not valid (00_scope.md "Identifiers"). -/
abbrev Token := BitVec 64
/-- A phone's 48-bit radio address (00_scope.md "Identifiers"). -/
abbrev Address := BitVec 48
/-- A row trunk, 0..7. -/
abbrev TrunkId := Fin 8
/-- A replay stream that exists, 0..15. -/
abbrev StreamId := Fin 16
/-- A cell id, 0..255: 32 × trunk + position. -/
abbrev CellId := Nat
/-- A place 0..16383 of the Station Table. -/
abbrev StationIx := Nat
/-- A place 0..255 of the descriptor pool. -/
abbrev DescIx := Nat

end Sys2Proof
end

