-- ==== Sys2Proof/Syntax.lean ====
section
/-! DEFINITION. The commands of the block: one constructor of `Instr` for each row of
spec/opcode_table.json. A row is one whole step of the part (95_what_each_step_holds.md).

A row that is a master-port command (CELL_SET … PART_STATUS) carries the port on which the command
is acted on. Its fields are not repeated in the row: they are the body of the command message that
waits at the head of that port's intake (R6, R7), put there by COMMAND_RECEIVED. -/
namespace Sys2Proof

/-- The three master ports (R2, R9): W the network controller, T the ticketing server, V the replay
server. -/
inductive PortId where
  | W | T | V
deriving DecidableEq, Repr

/-- A message on a master port: the 12-byte header of Chapter 12.1, field by field, and the body
bytes that follow it. Commands, responses and notices all have this form. -/
structure PortMessage where
  /-- offset 0: 1 command, 2 response, 3 notice -/
  kind : Byte
  /-- offset 1 -/
  code : Byte
  /-- offset 2, 2 bytes: reserved in a notice -/
  tag : Tag
  /-- offset 4, 2 bytes: the body length the header claims -/
  bodyLength : BitVec 16
  /-- offset 6: reserved in a command; the result code of a response; bit 0 of a notice is overflow -/
  resultFlags : Byte
  /-- offset 7: reserved -/
  spare : Byte
  /-- offset 8, 4 bytes: the sector time of a notice, reserved otherwise -/
  sectorTime : BitVec 32
  /-- the bytes that follow the header -/
  body : List Byte
deriving DecidableEq, Repr

/-- What the line brought in the report slot of an upstream frame (R39). The report check and the
arbitration belong to the line and are taken by their outcome (Chapter 12.4). -/
inductive SlotInput where
  /-- no cell transmitted -/
  | silent
  /-- a transmission that forms no whole report that passes its check -/
  | damaged
  /-- the bytes of a whole report that passes its check -/
  | report (bytes : List Byte)
deriving DecidableEq, Repr

/-- An upstream frame as the Trunk Head receives it (R19). -/
structure UpFrame where
  /-- the multiframe marker was found; looked at in frame 0 only -/
  marker : Bool
  /-- the closing frame check was received and passes -/
  checkOk : Bool
  /-- the report slot -/
  slot : SlotInput
  /-- the bytes received in the poll answer slot, none when it stayed silent -/
  answer : List Byte
  /-- for each report of the answer, in order, whether its own report check passes; a report with no
  entry fails -/
  reportOk : List Bool
deriving DecidableEq, Repr

/-- The steps of the part, one constructor for each row of spec/opcode_table.json. -/
inductive Instr where
  -- device and links (Chapter 1)
  | deviceReset
  | linkSignalDetected (p : PortId)
  | linkAligned (p : PortId)
  | linkSignalLost (p : PortId)
  | linkTrainingReceived (p : PortId)
  | linkFramingFailure (p : PortId)
  | commandWithoutCredit (p : PortId)
  | commandReceived (p : PortId) (m : PortMessage)
  | malformedMessage (p : PortId)
  | outboundSend (p : PortId)
  -- master-port commands
  | cellSet (p : PortId)
  | pollListSet (p : PortId)
  | pollUrgent (p : PortId)
  | cellQuery (p : PortId)
  | loadSet (p : PortId)
  | trunkSet (p : PortId)
  | trunkStart (p : PortId)
  | trunkStandby (p : PortId)
  | trunkReset (p : PortId)
  | trunkQuery (p : PortId)
  | stationDetach (p : PortId)
  | stationClear (p : PortId)
  | timersSet (p : PortId)
  | ticketLoad (p : PortId)
  | gateAdmit (p : PortId)
  | gateExit (p : PortId)
  | ticketVoid (p : PortId)
  | ticketQuery (p : PortId)
  | ticketClear (p : PortId)
  | streamOpen (p : PortId)
  | streamClose (p : PortId)
  | segBegin (p : PortId)
  | segData (p : PortId)
  | segEnd (p : PortId)
  | segAbort (p : PortId)
  | mark (p : PortId)
  | markSet (p : PortId)
  | streamQuery (p : PortId)
  | replayClear (p : PortId)
  | fanoutQuery (p : PortId)
  | stationQuery (p : PortId)
  | partStatus (p : PortId)
  -- trunk events (Chapters 2, 3, 4, 11)
  | wakeSignal (t : TrunkId)
  | upstreamSignalDetected (t : TrunkId)
  | wakeTimeout (t : TrunkId)
  | alignTimeout (t : TrunkId)
  | lostGiveUp (t : TrunkId)
  | idleTimerExpiry (t : TrunkId)
  | frameStart (t : TrunkId)
  | multiframeStart (t : TrunkId)
  | upstreamFrameReceived (t : TrunkId) (u : UpFrame)
  -- the Report Processor and the expiries of the tables
  | reportTake
  | roamTimeout (i : StationIx)
  | ageExpiry (i : StationIx)
  | seatGraceExpiry (i : StationIx)
  | steerHoldExpiry (i : StationIx)
  | generatorExpiry
  | portVGraceExpiry
  -- the outbound line, the receiver, the RESET line and the clock
  | outboundMessageSent (p : PortId)
  | linkReceiverAligned (p : PortId)
  | resetLineAsserted
  | sectorTimeTick
deriving DecidableEq, Repr

end Sys2Proof
end

