-- ==== Sys2Proof/Decode.lean ====
section
/-! DEFINITION. The command that a word spells by the bits of spec/opcode_table.json. No row of this
hardware's table gives bits (every row's "fields" is empty and none has "fixed"), so no word spells a
command. The port messages, frames and reports do have byte layouts (Chapter 12): those are read in
Machine/Operands.lean and written in Machine/Layout.lean. -/
namespace Sys2Proof

/-- No row gives bits, so every word is rejected. -/
def decodeTableWord (_nbits _w : Nat) : Option Instr := none

end Sys2Proof
end

