-- ==== Sys2Proof/Machine/State.lean ====
section
/-! DEFINITION. Everything the spec gives the LK-7260 to hold, as plain data, and its value after
device reset. Where a record of the manual has fields that are present under a condition, the
condition is built into the type where that is simple (`Option Roam`, `TicketState.seated`,
`DescState`). -/
namespace Sys2Proof.Machine

/-- Why the part would stop. The manual stops the part on no command: every step has an outcome
(R1 to R182), so there is no fault. -/
inductive Fault where
deriving DecidableEq, Repr

/-- Why a command has no meaning here. -/
inductive Refusal where
  /-- Raised by `exec` alone, for a row that has no meaning yet; safe. No arm raises it now. -/
  | notModelled (mnemonic : String)
deriving DecidableEq, Repr

/-! ### Tables -/

/-- A sparse table: entries with rising keys. An unlisted key holds what the table's owner says. -/
structure Table (α : Type) where
  entries : List (Nat × α)
deriving DecidableEq, Repr

/-- A table with nothing listed. -/
def Table.empty {α : Type} : Table α := ⟨[]⟩

/-! ### Enumerations of Chapter 12 -/

/-- Result codes of responses (00_scope.md, Chapter 12.1). -/
inductive Result where
  | ok | notPermitted | malformed | badValue | noSuch | exists_ | full | wrongState | busy | noSpace
  | badSequence | incomplete | stale
deriving DecidableEq, Repr

/-- Link states (R2). -/
inductive Link where
  | down | training | up
deriving DecidableEq, Repr

/-- Trunk states (R21). -/
inductive TrunkState where
  | off | standby | waking | aligning | active | lost
deriving DecidableEq, Repr

/-- Reasons of TRUNK_STATE (R31). -/
inductive TrunkReason where
  | wakeSignal | answered | noAnswer | aligned | alignTimeout | alignLoss | regained | gaveUp | idle
deriving DecidableEq, Repr

/-- The four trunk error flags (R35). -/
inductive ErrorFlag where
  | unknownCell | garbledReport | controlOverflow | alignLoss
deriving DecidableEq, Repr

/-- NONE, LEAN or FULL: a tier, a demand or a rendition (Chapter 12.1). -/
inductive Level where
  | none | lean | full
deriving DecidableEq, Repr

/-- The tier of a ticket: LEAN or FULL (R120). -/
inductive TicketTier where
  | lean | full
deriving DecidableEq, Repr

/-- Kind of a cell (R55). -/
inductive CellKind where
  | seat | concourse
deriving DecidableEq, Repr

/-- Liveness of a cell (R64 to R67). -/
inductive Liveness where
  | unheard | live | silent
deriving DecidableEq, Repr

/-- Condition codes (R68). -/
inductive Condition where
  | run | degraded | overtemp | rebooting | radioOff
deriving DecidableEq, Repr

/-- Load states (R78). -/
inductive LoadState where
  | normal | crowded
deriving DecidableEq, Repr

/-- Binding of a station (R85, R98). The ticket's token is part of BOUND. -/
inductive Binding where
  | unbound | bound (token : Token) | fenced
deriving DecidableEq, Repr

/-- Ticket states (R120). The bound station is part of SEATED: it is present exactly then. -/
inductive TicketState where
  | issued | admitted | seated (holder : StationIx) | exited | void
deriving DecidableEq, Repr

/-- Removal causes (R90). -/
inductive Cause where
  | departed | aged | detached | cleared | left
deriving DecidableEq, Repr

/-- Reasons of ASSOC_DENY (R103). -/
inductive DenyReason where
  | cellDown | fenced | full | tableFull | busy
deriving DecidableEq, Repr

/-- Reasons of DETACH (Chapter 12.3). -/
inductive DetachReason where
  | aged | detached | cleared | roamed | left
deriving DecidableEq, Repr

/-- Values of TICKET_RESULT (R134). -/
inductive TicketResult where
  | unknown | void | notAdmitted | alreadyBound | bound | boundWrongSection | already | conflict
deriving DecidableEq, Repr

/-- Values of SUB_RESULT (R142). -/
inductive SubResult where
  | ok | okNoTier | closed | full | notAttached
deriving DecidableEq, Repr

/-- Outcome of the admission check (R103). `byLoad` marks a steer of step 4, the one that sets the
steer-hold. -/
inductive Admission where
  | accept | deny (reason : DenyReason) | steer (cell : CellId) (byLoad : Bool)
deriving DecidableEq, Repr

/-- Stream states (R151). -/
inductive StreamState where
  | closed | opened | draining
deriving DecidableEq, Repr

/-- Sources of the mark counter (R155). -/
inductive MarkSource where
  | internal | portV
deriving DecidableEq, Repr

/-- Modes of the internal generator (R155). -/
inductive GenMode where
  | periodic | single | stopped
deriving DecidableEq, Repr

/-- The commands of the three ports (R9, Chapter 12.1). -/
inductive Command where
  | cellSet | loadSet | trunkSet | trunkStart | trunkStandby | trunkReset | pollListSet | pollUrgent
  | timersSet | stationDetach | stationClear | cellQuery | trunkQuery
  | ticketLoad | gateAdmit | gateExit | ticketVoid | ticketQuery | ticketClear
  | streamOpen | streamClose | segBegin | segData | segEnd | segAbort | mark | markSet | streamQuery
  | fanoutQuery | replayClear
  | stationQuery | partStatus
deriving DecidableEq, Repr

/-! ### Messages the part forms -/

/-- One field of a message body: its width in bytes and its value. No value stands for the bytes of
an optional field that is absent: they are sent and the manual states no value (log entry 3). -/
structure Field where
  width : Nat
  value : Option Nat
deriving DecidableEq, Repr

/-- Notices with the fields their rules give them (R11 and the rules named there). -/
inductive Notice where
  | trunkState (t : TrunkId) (before after : TrunkState) (reason : TrunkReason)
  | trunkError (t : TrunkId) (flag : ErrorFlag) (flags : Nat)
  | cellSilent (c : CellId) (left : Liveness) (misses : Nat)
  | cellHeard (c : CellId)
  | cellCondition (c : CellId) (before after : Condition) (ceff : Nat)
  | cellLoad (c : CellId) (state : LoadState) (score : Nat)
  | roamForced (i : StationIx) (old new : CellId)
  | ticketBound (token : Token) (i : StationIx) (cell : CellId) (result : TicketResult)
      (section_ : Nat) (home : Option CellId)
  | ticketConflict (token : Token) (holder : StationIx) (holderCell : CellId) (elapsed : Nat)
      (presenter : StationIx) (cell : CellId)
  | ticketTransferred (token : Token) (former : StationIx) (formerCell : CellId) (elapsed : Nat)
      (i : StationIx) (cell : CellId) (result : TicketResult)
  | ticketReleased (token : Token) (i : StationIx) (cause : Cause) (home : Option CellId)
  | ticketRefused (token : Token) (i : StationIx) (cell : CellId) (result : TicketResult)
      (state : TicketState)
  | streamDemand (k : StreamId) (before after : Level)
  | streamDrained (k : StreamId)
  | segmentStale (k : StreamId) (sequence : Seq) (trunks : List TrunkId)
deriving DecidableEq, Repr

/-- A notice in its queue: the sector time at which it was queued (R11) and its place in the port's
order of readiness (R10). -/
structure QueuedNotice where
  time : Time
  notice : Notice
  ready : Nat
deriving DecidableEq, Repr

/-- A completed command's response in the response path (R8), with its place in the order of
readiness (R10). -/
structure Response where
  code : Byte
  tag : Tag
  result : Result
  body : List Field
  ready : Nat
deriving DecidableEq, Repr

/-- Control messages for cells (R170). -/
inductive CtlBody where
  | assocAccept (i : StationIx) (tier : Level)
  | assocDeny (address : Address) (reason : DenyReason)
  | steer (address : Address) (cell : CellId)
  | roamRelease (i : StationIx)
  /-- no index stands for the all-stations value -/
  | detach (i : Option StationIx) (reason : DetachReason)
  | tierUpdate (i : StationIx) (tier : Level)
  | ticketResult (i : StationIx) (result : TicketResult)
  | subResult (i : StationIx) (stream : Nat) (result : SubResult)
  | streamEnd (stream : StreamId)
deriving DecidableEq, Repr

/-- A message of a control queue: its target is one position of the trunk, or ALL (`none`) (R170). -/
structure Ctl where
  target : Option Nat
  body : CtlBody
deriving DecidableEq, Repr

/-- Kind and fields of a report (R42). The stream id of a SUBSCRIBE may be one that does not exist. -/
inductive ReportBody where
  | assoc (address : Address) (token : Option Token)
  | depart (i : StationIx)
  | presentTicket (i : StationIx) (token : Token)
  | subscribe (i : StationIx) (stream : Nat)
  | unsubscribe (i : StationIx) (stream : Nat)
  | urgent
deriving DecidableEq, Repr

/-- A report with its reporting cell (R42, R45). -/
structure Report where
  cell : CellId
  body : ReportBody
  /-- the reporting cell has been removed since the report was placed (R59) -/
  orphan : Bool
deriving DecidableEq, Repr

/-- A poll whose outcome is still to come (R64). -/
structure Poll where
  position : Nat
  /-- the polled cell has been removed since the poll was issued (R59, R64) -/
  orphan : Bool
deriving DecidableEq, Repr

/-- Report echo (R40). -/
inductive Echo where
  | idle | position (pos : Nat) | garbled
deriving DecidableEq, Repr

/-- Contents of one carriage slot (R177, R178). -/
inductive Slot where
  | empty
  | control (m : Ctl)
  | replay (stream : StreamId) (rendition : Level) (sequence : Seq) (chunk : Nat) (mark : Mark)
      (count : Nat) (data : List Byte)
deriving DecidableEq, Repr

/-- A downstream frame (R17, Chapter 12.3). `mark` is absent outside frame 0; inside, no count is
NO_MARK. -/
structure DownFrame where
  number : Nat
  hold : Bool
  echo : Echo
  poll : Option Nat
  ack : Nat
  mark : Option (Option Mark)
  slots : List Slot
deriving DecidableEq, Repr

/-- What the part sends on a trunk's downstream line. A wake frame is one fixed frame with no header
fields and no slots (R23): there is one, and it carries nothing. -/
inductive LineSignal where
  | nothing
  | wakeFrames
  | frame (bytes : List Byte)
deriving DecidableEq, Repr

/-- What the part sends on a port's outbound line: its training pattern, with or without the ready
indication (R2), a message's bytes, or no message. -/
inductive PortSignal where
  | training (ready : Bool)
  | idle
  | message (bytes : List Byte)
deriving DecidableEq, Repr

/-! ### Records -/

/-- A master port (R2 to R12). -/
structure Port where
  link : Link
  /-- the part's receiver is aligned, and its training pattern carries the ready indication (R2) -/
  aligned : Bool
  /-- commands received and not yet begun, oldest first (R6, R7) -/
  waiting : List PortMessage
  /-- the response path (R8) -/
  responses : List Response
  /-- the notice queue (R11) -/
  notices : List QueuedNotice
  /-- the overflow flag (R12) -/
  overflow : Bool
  /-- the message whose transmission is under way (R3, R10) -/
  sending : Option PortMessage
  /-- the credits the controller holds, as the part has advertised and signalled them (R6) -/
  credit : Nat
  /-- MODEL: the place the next message to become ready takes in the order of R10 (log entry 5) -/
  ready : Nat
deriving DecidableEq, Repr

/-- The three master ports. -/
structure Ports where
  w : Port
  t : Port
  v : Port
deriving DecidableEq, Repr

/-- The six values of TIMERS_SET in effect (R13), in the unit each is programmed in. -/
structure Timers where
  roamTimeout : Nat
  ageLimit : Nat
  seatGrace : Nat
  window : Nat
  steerHold : Nat
  silence : Nat
deriving DecidableEq, Repr

/-- The four error flags of a trunk (R35). -/
structure ErrorFlags where
  unknownCell : Bool
  garbledReport : Bool
  controlOverflow : Bool
  alignLoss : Bool
deriving DecidableEq, Repr

/-- A planned replay chunk: the descriptor and the chunk number (R175). -/
structure PlanEntry where
  desc : DescIx
  chunk : Nat
deriving DecidableEq, Repr

/-- The allocation of the current multiframe (R175). A plan entry that is `none` names a descriptor
that has left the trunk's replay queue since the multiframe start: its slot goes out EMPTY (R177). -/
structure Allocation where
  control : Nat
  replay : Nat
  plan : List (Option PlanEntry)
deriving DecidableEq, Repr

/-- A row trunk: Trunk Head, Report Intake, Poll Sequencer and Carriage Scheduler (Chapters 2, 3, 4
and 11). -/
structure Trunk where
  state : TrunkState
  -- settings (R33)
  enable : Bool
  autoWake : Bool
  idlePeriod : Nat
  markCarriage : Bool
  rmin : Nat
  flags : ErrorFlags
  good : Nat
  bad : Nat
  /-- the entry stamp of WAKING, ALIGNING or LOST (R23, R24, R27) -/
  entry : Option Time
  /-- the stamp of the auto-standby idle timer while it runs (R30) -/
  idle : Option Time
  -- framing (R17 to R20)
  /-- the number of the next frame to start -/
  nextFrame : Nat
  /-- the multiframe start of the frame 0 due next has been taken -/
  mfTaken : Bool
  /-- the mark field fixed at the multiframe start, NO_MARK when absent (R18) -/
  markField : Option Mark
  /-- a downstream frame has been sent and its upstream frame is still to come -/
  awaiting : Bool
  /-- the poll issued by the frame last sent (R64) -/
  polled : Option Poll
  /-- the multiframe marker was found in this upstream multiframe (R19) -/
  marker : Bool
  /-- the frames of this upstream multiframe that failed their frame check (R20) -/
  fails : Nat
  -- Report Intake (R38 to R49)
  /-- the echo held for the next header -/
  echo : Echo
  /-- the poll ack count held for the next header -/
  ack : Nat
  /-- the hold flag as last sent -/
  holdSent : Bool
  /-- the intake queue -/
  intake : List Report
  -- Poll Sequencer (R61 to R63)
  pollList : List Nat
  regular : Nat
  urgent : List Nat
  -- Carriage Scheduler (R170 to R177)
  control : List Ctl
  /-- the replay queue: its descriptors from head to tail -/
  replay : List DescIx
  allocation : Option Allocation
  /-- the downstream frame on the line: the last one sent since framing began -/
  frame : Option DownFrame
deriving DecidableEq, Repr

/-- A configured cell's record (R55). A cell id that `State.cells` does not list is not configured and
holds the values of R72. -/
structure Cell where
  kind : CellKind
  section_ : Nat
  cmax : Nat
  neighbours : List CellId
  /-- H and Lo -/
  override : Option (Nat × Nat)
  live : Liveness
  miss : Nat
  accepted : Condition
  candidate : Option Condition
  lastA : Nat
  /-- the attached count S -/
  attached : Nat
  incoming : Nat
  /-- the smoothed score L -/
  score : Nat
  load : LoadState
deriving DecidableEq, Repr

/-- The part-wide settings of the load arithmetic (R81, R84). -/
structure LoadSettings where
  wa : Nat
  ws : Nat
  wr : Nat
  k : Nat
  seatH : Nat
  seatLo : Nat
  concH : Nat
  concLo : Nat
deriving DecidableEq, Repr

/-- A roam in flight: pending cell and roam start (R109). A station is ROAMING exactly when it has
one. -/
structure Roam where
  pending : CellId
  start : Time
deriving DecidableEq, Repr

/-- A live station record (R85). Its index is its key in `State.stations`. -/
structure Station where
  address : Address
  cell : CellId
  roam : Option Roam
  binding : Binding
  subs : List StreamId
  tier : Level
  lastHeard : Time
  /-- the seat-grace start -/
  grace : Option Time
  /-- the steer-hold's end time -/
  steerHold : Option Time
deriving DecidableEq, Repr

/-- A ticket record (R120). Its token is its key in `State.tickets`, as a number. -/
structure Ticket where
  section_ : Nat
  home : Option CellId
  tier : TicketTier
  state : TicketState
  entries : Nat
deriving DecidableEq, Repr

/-- The fan-out counts of one cell and stream (R141). -/
structure Counts where
  full : Nat
  lean : Nat
deriving DecidableEq, Repr

/-- A stream record (R151) -/
structure Stream where
  state : StreamState
  lastSeq : Option Seq
  inUse : Nat
  unwatched : Nat
deriving DecidableEq, Repr

/-- A descriptor's rendition and chunks remaining on one trunk (R153). -/
structure Carry where
  rendition : Level
  remaining : Nat
deriving DecidableEq, Repr

/-- State of a descriptor that is not FREE, with the fields present in it (R153). -/
inductive DescState where
  | uploading (next : Nat)
  | held
  | released (refs : Nat) (carries : Vector Carry 8)
deriving DecidableEq, Repr

/-- A descriptor that is not FREE (R153). Its index is its key in `State.descs`. -/
structure Desc where
  state : DescState
  stream : StreamId
  sequence : Seq
  mark : Mark
  nL : Nat
  nX : Nat
  blocks : List Nat
deriving DecidableEq, Repr

/-- The mark counter and its generator (R155). -/
structure MarkCounter where
  count : Mark
  source : MarkSource
  mode : GenMode
  period : Nat
  next : Option Time
  stale : Nat
deriving DecidableEq, Repr

/-- The LK-7260. -/
structure State where
  /-- sector time (R1) -/
  now : Time
  /-- the RESET line is asserted (R16) -/
  held : Bool
  ports : Ports
  timers : Timers
  trunks : Vector Trunk 8
  /-- the Report Processor's pointer (R50) -/
  pointer : TrunkId
  /-- the Cell Table: the configured cells by id (R55) -/
  cells : Table Cell
  load : LoadSettings
  /-- the Station Table: the live records by index (R85) -/
  stations : Table Station
  /-- the Ticket Table: the records by token (R120) -/
  tickets : Table Ticket
  /-- the fan-out counts that are not both 0, by 16 × cell + stream (R141) -/
  fan : Table Counts
  /-- the stored sector demand of each stream (R146) -/
  demand : Vector Level 16
  /-- the Stream Table (R151) -/
  streams : Vector Stream 16
  /-- the descriptors that are not FREE, by index (R153) -/
  descs : Table Desc
  /-- the blocks outside the free set, rising (R153) -/
  used : List Nat
  /-- segment memory: 16,384 blocks of 256 bytes, byte address 256 × block + offset -/
  segMem : List Host.Cell
  /-- the release queue: the HELD descriptors in release order (R158) -/
  release : List DescIx
  marks : MarkCounter
  /-- the stamp of the Port V grace timer while it runs (R166) -/
  grace : Option Time
  /-- MODEL: how many outbound messages have begun transmission; it indexes the free values of
  Config (log entry 3) -/
  fresh : Nat
  /-- MODEL: the commands that wait to be taken, first in, first out -/
  pending : List Instr
deriving DecidableEq, Repr

/-- What a command's own rule leaves: the part, the result code and the response body (R8). -/
structure Answer where
  state : State
  result : Result
  body : List Field
deriving DecidableEq, Repr

/-- The parts of a poll answer that fits its slot (R19, Chapter 12.4). -/
structure PollAnswer where
  position : Nat
  airtime : Nat
  code : Nat
  heard : List StationIx
  /-- the bytes of each report -/
  reports : List (List Byte)
deriving DecidableEq, Repr

/-! ### Device reset -/

/-- R16. -/
def Port.reset : Port where
  link := .training
  aligned := false
  waiting := []
  responses := []
  notices := []
  overflow := false
  sending := none
  credit := 0
  ready := 0

/-- R13, the defaults. -/
def Timers.reset : Timers where
  roamTimeout := 200
  ageLimit := 120
  seatGrace := 60
  window := 30
  steerHold := 20
  silence := 4

/-- R35, R37. -/
def ErrorFlags.clear : ErrorFlags where
  unknownCell := false
  garbledReport := false
  controlOverflow := false
  alignLoss := false

/-- R37, R54, R72, R179. -/
def Trunk.reset : Trunk where
  state := .off
  enable := false
  autoWake := false
  idlePeriod := 0
  markCarriage := true
  rmin := 96
  flags := .clear
  good := 0
  bad := 0
  entry := none
  idle := none
  nextFrame := 0
  mfTaken := false
  markField := none
  awaiting := false
  polled := none
  marker := false
  fails := 0
  echo := .idle
  ack := 0
  holdSent := false
  intake := []
  pollList := []
  regular := 0
  urgent := []
  control := []
  replay := []
  allocation := none
  frame := none

/-- The record of a cell id that is not configured (R72). -/
def Cell.reset : Cell where
  kind := .seat
  section_ := 0
  cmax := 160
  neighbours := []
  override := none
  live := .unheard
  miss := 0
  accepted := .radioOff
  candidate := none
  lastA := 0
  attached := 0
  incoming := 0
  score := 0
  load := .normal

/-- R84. -/
def LoadSettings.reset : LoadSettings where
  wa := 6
  ws := 6
  wr := 2
  k := 2
  seatH := 3000
  seatLo := 2400
  concH := 3400
  concLo := 2800

/-- R169. -/
def Stream.reset : Stream where
  state := .closed
  lastSeq := none
  inUse := 0
  unwatched := 0

/-- R155, R169: INTERNAL, PERIODIC, P 10, the first expiry at sector time 10, stale limit 8. -/
def MarkCounter.reset : MarkCounter where
  count := 0
  source := .internal
  mode := .periodic
  period := 10
  next := some 10
  stale := 8

/-- The part right after device reset (R16, R37, R54, R72, R84, R101, R138, R150, R169, R179). -/
def State.reset : State where
  now := 0
  held := false
  ports := ⟨.reset, .reset, .reset⟩
  timers := .reset
  trunks := Vector.replicate 8 .reset
  pointer := 0
  cells := .empty
  load := .reset
  stations := .empty
  tickets := .empty
  fan := .empty
  demand := Vector.replicate 16 .none
  streams := Vector.replicate 16 .reset
  descs := .empty
  used := []
  segMem := []
  release := []
  marks := .reset
  grace := none
  fresh := 0
  pending := []

end Sys2Proof.Machine
end

