-- ==== Sys2Proof/Machine/Ops.lean ====
section
/-! DEFINITION. The shared operations: sparse tables, segment memory, modular time and marks, and the
one place where each record of the state is read and written. -/
namespace Sys2Proof.Machine

/-! ### Sparse tables -/

/-- The entry at a key, in a list of entries. -/
def assocGet {α : Type} : List (Nat × α) → Nat → Option α
  | [], _ => none
  | (k, v) :: rest, i => if k = i then some v else assocGet rest i

/-- Entries with the key set to the value, keeping rising keys. -/
def assocPut {α : Type} : List (Nat × α) → Nat → α → List (Nat × α)
  | [], i, v => [(i, v)]
  | (k, w) :: rest, i, v =>
    if i < k then (i, v) :: (k, w) :: rest
    else if i = k then (i, v) :: rest
    else (k, w) :: assocPut rest i v

/-- Entries without the key. -/
def assocDel {α : Type} : List (Nat × α) → Nat → List (Nat × α)
  | [], _ => []
  | (k, w) :: rest, i => if k = i then rest else (k, w) :: assocDel rest i

/-- Every key of the entries is above the bound and the keys rise. -/
def risingFrom {α : Type} : Option Nat → List (Nat × α) → Bool
  | _, [] => true
  | none, (k, _) :: rest => risingFrom (some k) rest
  | some b, (k, _) :: rest => decide (b < k) && risingFrom (some k) rest

/-- The record at a key. -/
def Table.get? {α : Type} (t : Table α) (i : Nat) : Option α := assocGet t.entries i
/-- The table with a record at a key. -/
def Table.put {α : Type} (t : Table α) (i : Nat) (v : α) : Table α := ⟨assocPut t.entries i v⟩
/-- The table without a key. -/
def Table.del {α : Type} (t : Table α) (i : Nat) : Table α := ⟨assocDel t.entries i⟩
/-- The listed keys, rising. -/
def Table.keys {α : Type} (t : Table α) : List Nat := t.entries.map Prod.fst
/-- How many keys are listed. -/
def Table.size {α : Type} (t : Table α) : Nat := t.entries.length
/-- The canonical form: strictly rising keys. -/
def Table.wf {α : Type} (t : Table α) : Bool := risingFrom none t.entries

/-- The lowest number from `k` on that a rising list does not hold. -/
def firstFree : Nat → List Nat → Nat
  | k, [] => k
  | k, u :: us => if u = k then firstFree (k + 1) us else k

/-- The `n` lowest numbers from `k` on that a rising list does not hold. `fuel` bounds the walk: `n`
plus the length of the list is enough. -/
def freeFrom : Nat → Nat → Nat → List Nat → List Nat
  | 0, _, _, _ => []
  | _ + 1, 0, _, _ => []
  | fuel + 1, n + 1, k, [] => k :: freeFrom fuel n (k + 1) []
  | fuel + 1, n + 1, k, u :: us =>
    if u = k then freeFrom fuel (n + 1) (k + 1) us else k :: freeFrom fuel n (k + 1) (u :: us)

/-- A number put in its place in a rising list; one already there is not repeated. -/
def insertRising : List Nat → Nat → List Nat
  | [], i => [i]
  | k :: rest, i => if i < k then i :: k :: rest else if i = k then k :: rest else k :: insertRising rest i

/-! ### Segment memory (R153, R161) -/

/-- What an address of segment memory that nothing has written reads as: DESIGN CHOICE (log
entry 1). No step carries such a byte. -/
def unwrittenByte : Byte := 0

/-- The byte at an address. -/
def Memory.read (m : List Host.Cell) (a : Nat) : Byte := (assocGet m a).getD unwrittenByte

/-- A byte written at an address, in the canonical form: a byte equal to what an unlisted address
reads as is not listed. -/
def Memory.write (m : List Host.Cell) (a : Nat) (b : Byte) : List Host.Cell :=
  if b = unwrittenByte then assocDel m a else assocPut m a b

/-- Bytes written at rising addresses. -/
def Memory.writeAll : List Host.Cell → Nat → List Byte → List Host.Cell
  | m, _, [] => m
  | m, a, b :: bs => Memory.writeAll (Memory.write m a b) (a + 1) bs

/-- `n` bytes read from an address on. -/
def Memory.readAll (m : List Host.Cell) : Nat → Nat → List Byte
  | _, 0 => []
  | a, n + 1 => Memory.read m a :: Memory.readAll m (a + 1) n

/-- The canonical form of segment memory. -/
def Memory.wf (m : List Host.Cell) : Bool :=
  risingFrom none m && m.all fun c => decide (c.2 ≠ unwrittenByte)

/-! ### Sector time and marks -/

/-- The time elapsed since a stamp, modulo 2^32 (R1). -/
def elapsed (now stamp : Time) : Nat := (now - stamp).toNat

/-- An end time has come: the signed modular difference is 0 or more (R99, R157). -/
def timeReached (now due : Time) : Bool := decide (0 ≤ (now - due).toInt)

/-- 4 ms units in a number of seconds (R122). -/
def unitsPerSecond : Nat := 250

/-- `d` of a mark value against the count: the signed modular difference (R155). -/
def markDistance (count m : Mark) : Int := (count - m).toInt

/-! ### Ports -/

/-- The record of a port. -/
def State.port (s : State) : PortId → Port
  | .W => s.ports.w
  | .T => s.ports.t
  | .V => s.ports.v

/-- The record of one port replaced. -/
def State.setPort (s : State) (p : PortId) (q : Port) : State :=
  match p with
  | .W => { s with ports := { s.ports with w := q } }
  | .T => { s with ports := { s.ports with t := q } }
  | .V => { s with ports := { s.ports with v := q } }

/-- Capacity of a notice queue (R11). -/
def noticeCapacity : Nat := 64

/-- A notice placed in a port's queue, or dropped with the overflow flag set when the queue is full
(R11, R12). -/
def State.notify (s : State) (p : PortId) (n : Notice) : State :=
  let q := s.port p
  if q.notices.length < noticeCapacity then
    s.setPort p { q with notices := q.notices ++ [⟨s.now, n, q.ready⟩], ready := q.ready + 1 }
  else
    s.setPort p { q with overflow := true }

/-! ### Trunks -/

/-- All trunks, 0 to 7. -/
def allTrunks : List TrunkId := [0, 1, 2, 3, 4, 5, 6, 7]
/-- All streams, 0 to 15. -/
def allStreams : List StreamId := [0, 1, 2, 3, 4, 5, 6, 7, 8, 9, 10, 11, 12, 13, 14, 15]

/-- The record of a trunk. -/
def State.trunk (s : State) (t : TrunkId) : Trunk := s.trunks[t.val]

/-- The record of one trunk replaced. -/
def State.setTrunk (s : State) (t : TrunkId) (r : Trunk) : State :=
  { s with trunks := s.trunks.set t.val r }

/-- The trunk of a cell id: the id divided by 32 (R55). -/
def trunkOf (c : CellId) : TrunkId := Fin.ofNat 8 (c / 32)
/-- The position of a cell id on its trunk (R55). -/
def positionOf (c : CellId) : Nat := c % 32
/-- The cell id of a position of a trunk. -/
def cellAt (t : TrunkId) (pos : Nat) : CellId := 32 * t.val + pos
/-- The 32 cell ids of a trunk. -/
def cellsOf (t : TrunkId) : List CellId := (List.range 32).map (cellAt t)

/-- The trunk sends and receives frames (R17). -/
def TrunkState.framing : TrunkState → Bool
  | .aligning => true
  | .active => true
  | .lost => true
  | .off => false
  | .standby => false
  | .waking => false

/-- The trunk polls, takes reports into its intake and takes control messages: ACTIVE or LOST (R21). -/
def TrunkState.serving : TrunkState → Bool
  | .active => true
  | .lost => true
  | .off => false
  | .standby => false
  | .waking => false
  | .aligning => false

/-! ### Cells -/

/-- The record of a cell id: the reset values when it is not configured (R55, R72). -/
def State.cell (s : State) (c : CellId) : Cell := (s.cells.get? c).getD .reset
/-- The cell id is configured (R55). -/
def State.configured (s : State) (c : CellId) : Bool := (s.cells.get? c).isSome
/-- A configured cell's record changed; an id that is not configured keeps no record. -/
def State.modCell (s : State) (c : CellId) (f : Cell → Cell) : State :=
  match s.cells.get? c with
  | some r => { s with cells := s.cells.put c (f r) }
  | none => s

/-! ### Stations, tickets, fan-out counts -/

/-- The live record at an index (R85). -/
def State.station? (s : State) (i : StationIx) : Option Station := s.stations.get? i
/-- A live record written at an index. -/
def State.putStation (s : State) (i : StationIx) (r : Station) : State :=
  { s with stations := s.stations.put i r }
/-- The live record that holds an address, in a list of entries. -/
def findAddress : List (Nat × Station) → Address → Option (StationIx × Station)
  | [], _ => none
  | (i, r) :: rest, a => if r.address = a then some (i, r) else findAddress rest a
/-- The address map: the live record that holds an address (R86). -/
def State.stationAt? (s : State) (a : Address) : Option (StationIx × Station) :=
  findAddress s.stations.entries a

/-- The record of a token (R120). -/
def State.ticket? (s : State) (k : Token) : Option Ticket := s.tickets.get? k.toNat
/-- A ticket record written under its token. -/
def State.putTicket (s : State) (k : Token) (r : Ticket) : State :=
  { s with tickets := s.tickets.put k.toNat r }

/-- The key of a cell and stream in `State.fan`. -/
def fanKey (c : CellId) (k : StreamId) : Nat := 16 * c + k.val
/-- nFull and nLean of a cell and stream (R141). -/
def State.counts (s : State) (c : CellId) (k : StreamId) : Counts :=
  (s.fan.get? (fanKey c k)).getD ⟨0, 0⟩
/-- nFull and nLean of a cell and stream written. -/
def State.setCounts (s : State) (c : CellId) (k : StreamId) (n : Counts) : State :=
  if n.full = 0 ∧ n.lean = 0 then { s with fan := s.fan.del (fanKey c k) }
  else { s with fan := s.fan.put (fanKey c k) n }

/-! ### Replay records -/

/-- A stream record (R151). -/
def State.stream (s : State) (k : StreamId) : Stream := s.streams[k.val]
/-- A stream record replaced. -/
def State.setStream (s : State) (k : StreamId) (r : Stream) : State :=
  { s with streams := s.streams.set k.val r }
/-- The stored sector demand of a stream (R146). -/
def State.sectorDemand (s : State) (k : StreamId) : Level := s.demand[k.val]
/-- The stored sector demand of a stream replaced. -/
def State.setDemand (s : State) (k : StreamId) (d : Level) : State :=
  { s with demand := s.demand.set k.val d }
/-- A descriptor that is not FREE (R153). -/
def State.desc? (s : State) (d : DescIx) : Option Desc := s.descs.get? d
/-- A descriptor written. -/
def State.putDesc (s : State) (d : DescIx) (r : Desc) : State :=
  { s with descs := s.descs.put d r }

/-! ### Running a step -/

/-- Every step ends in a next state. While the RESET line is asserted every block is held at its
reset value, so nothing happens (R16). -/
def State.live (s : State) (f : State → State) : Host.Outcome State Fault Refusal :=
  .next (if s.held then s else f s)

/-- An action on each element of a list in order. -/
def State.each {α : Type} (s : State) (xs : List α) (f : State → α → State) : State := xs.foldl f s

end Sys2Proof.Machine
end

