-- ==== Sys2Proof/Machine/Flags.lean ====
section
/-! DEFINITION. The trunk error flags (R35) and the numbers that Chapter 12 gives every enumerated
value of a message. -/
namespace Sys2Proof.Machine

/-! ### The error flags -/

/-- The value of one flag. -/
def ErrorFlags.get (f : ErrorFlags) : ErrorFlag → Bool
  | .unknownCell => f.unknownCell
  | .garbledReport => f.garbledReport
  | .controlOverflow => f.controlOverflow
  | .alignLoss => f.alignLoss

/-- One flag set; a flag already set stays set (R35). -/
def ErrorFlags.set (f : ErrorFlags) : ErrorFlag → ErrorFlags
  | .unknownCell => { f with unknownCell := true }
  | .garbledReport => { f with garbledReport := true }
  | .controlOverflow => { f with controlOverflow := true }
  | .alignLoss => { f with alignLoss := true }

/-- The bit number of a flag (Chapter 12.1). -/
def ErrorFlag.bit : ErrorFlag → Nat
  | .unknownCell => 0
  | .garbledReport => 1
  | .controlOverflow => 2
  | .alignLoss => 3

/-- On/off, yes/no, set/clear as a number (Chapter 12.1). -/
def bit (b : Bool) : Nat := if b then 1 else 0

/-- The four flags as one byte (Chapter 12.1). -/
def ErrorFlags.byte (f : ErrorFlags) : Nat :=
  bit f.unknownCell + 2 * bit f.garbledReport + 4 * bit f.controlOverflow + 8 * bit f.alignLoss

/-- A trunk's error flag set: a change from clear to set queues one TRUNK_ERROR on Port W with the
flag and all four flags after the change (R35). -/
def State.raiseFlag (s : State) (t : TrunkId) (f : ErrorFlag) : State :=
  let r := s.trunk t
  if r.flags.get f then s
  else
    let flags := r.flags.set f
    (s.setTrunk t { r with flags := flags }).notify .W (.trunkError t f flags.byte)

/-! ### Encodings of enumerated values (Chapter 12.1 and 12.3) -/

def Result.code : Result → Nat
  | .ok => 0 | .notPermitted => 1 | .malformed => 2 | .badValue => 3 | .noSuch => 4 | .exists_ => 5
  | .full => 6 | .wrongState => 7 | .busy => 8 | .noSpace => 9 | .badSequence => 10
  | .incomplete => 11 | .stale => 12

def Link.code : Link → Nat
  | .down => 0 | .training => 1 | .up => 2

def TrunkState.code : TrunkState → Nat
  | .off => 0 | .standby => 1 | .waking => 2 | .aligning => 3 | .active => 4 | .lost => 5

def TrunkReason.code : TrunkReason → Nat
  | .wakeSignal => 0 | .answered => 1 | .noAnswer => 2 | .aligned => 3 | .alignTimeout => 4
  | .alignLoss => 5 | .regained => 6 | .gaveUp => 7 | .idle => 8

def Level.code : Level → Nat
  | .none => 0 | .lean => 1 | .full => 2

/-- A ticket's tier as a tier (R139). -/
def TicketTier.level : TicketTier → Level
  | .lean => .lean | .full => .full

def CellKind.code : CellKind → Nat
  | .seat => 0 | .concourse => 1

def Liveness.code : Liveness → Nat
  | .unheard => 0 | .live => 1 | .silent => 2

def Condition.code : Condition → Nat
  | .run => 0 | .degraded => 1 | .overtemp => 2 | .rebooting => 3 | .radioOff => 4

/-- The condition a code in a poll answer names; another code is unknown (R68, Chapter 12.4). -/
def Condition.ofCode : Nat → Option Condition
  | 0 => some .run | 1 => some .degraded | 2 => some .overtemp | 3 => some .rebooting
  | 4 => some .radioOff | _ => none

/-- A candidate code: none is 0xFF (Chapter 12.1). -/
def candidateCode : Option Condition → Nat
  | some c => c.code
  | none => 0xFF

def LoadState.code : LoadState → Nat
  | .normal => 0 | .crowded => 1

def Binding.code : Binding → Nat
  | .unbound => 0 | .bound _ => 1 | .fenced => 2

def TicketState.code : TicketState → Nat
  | .issued => 0 | .admitted => 1 | .seated _ => 2 | .exited => 3 | .void => 4

def Cause.code : Cause → Nat
  | .departed => 1 | .aged => 2 | .detached => 3 | .cleared => 4 | .left => 5

def DenyReason.code : DenyReason → Nat
  | .cellDown => 1 | .fenced => 2 | .full => 3 | .tableFull => 4 | .busy => 5

def DetachReason.code : DetachReason → Nat
  | .aged => 1 | .detached => 2 | .cleared => 3 | .roamed => 4 | .left => 5

def TicketResult.code : TicketResult → Nat
  | .unknown => 1 | .void => 2 | .notAdmitted => 3 | .alreadyBound => 4 | .bound => 5
  | .boundWrongSection => 6 | .already => 7 | .conflict => 8

def SubResult.code : SubResult → Nat
  | .ok => 1 | .okNoTier => 2 | .closed => 3 | .full => 4 | .notAttached => 5

def StreamState.code : StreamState → Nat
  | .closed => 0 | .opened => 1 | .draining => 2

def DescState.code : DescState → Nat
  | .uploading _ => 1 | .held => 2 | .released _ _ => 3

def MarkSource.code : MarkSource → Nat
  | .internal => 0 | .portV => 1

def GenMode.code : GenMode → Nat
  | .periodic => 0 | .single => 1 | .stopped => 2

/-- A set of trunks as one byte, bit t for trunk t (Chapter 12.1). -/
def trunkSetByte (ts : List TrunkId) : Nat := ts.foldl (fun n t => n ||| (1 <<< t.val)) 0

end Sys2Proof.Machine
end

