-- ==== Sys2Proof/Machine/Operands.lean ====
section
/-! DEFINITION. The operand forms the part receives: command bodies (Chapter 12.1, R180, R181), poll
answers and reports (Chapter 12.4, R182). Reserved bytes and bits are never looked at (R181). -/
namespace Sys2Proof.Machine

/-- The byte at an offset of a body, as a number. -/
def byteAt (b : List Byte) (i : Nat) : Nat := (b.getD i 0).toNat

/-- The number in `w` bytes from an offset on, most significant byte first. -/
def numAt (b : List Byte) : Nat → Nat → Nat
  | _, 0 => 0
  | i, w + 1 => byteAt b i * 256 ^ w + numAt b (i + 1) w

/-! ### Commands -/

/-- The code of a command (Chapter 12.1). -/
def Command.code : Command → Nat
  | .cellSet => 0x10 | .loadSet => 0x11 | .trunkSet => 0x12 | .trunkStart => 0x13
  | .trunkStandby => 0x14 | .trunkReset => 0x15 | .pollListSet => 0x16 | .pollUrgent => 0x17
  | .timersSet => 0x18 | .stationDetach => 0x19 | .stationClear => 0x1A | .cellQuery => 0x1B
  | .trunkQuery => 0x1C
  | .ticketLoad => 0x20 | .gateAdmit => 0x21 | .gateExit => 0x22 | .ticketVoid => 0x23
  | .ticketQuery => 0x24 | .ticketClear => 0x25
  | .streamOpen => 0x30 | .streamClose => 0x31 | .segBegin => 0x32 | .segData => 0x33 | .segEnd => 0x34
  | .segAbort => 0x35 | .mark => 0x36 | .markSet => 0x37 | .streamQuery => 0x38 | .fanoutQuery => 0x39
  | .replayClear => 0x3A
  | .stationQuery => 0x40 | .partStatus => 0x41

/-- All commands. -/
def allCommands : List Command :=
  [.cellSet, .loadSet, .trunkSet, .trunkStart, .trunkStandby, .trunkReset, .pollListSet, .pollUrgent,
   .timersSet, .stationDetach, .stationClear, .cellQuery, .trunkQuery,
   .ticketLoad, .gateAdmit, .gateExit, .ticketVoid, .ticketQuery, .ticketClear,
   .streamOpen, .streamClose, .segBegin, .segData, .segEnd, .segAbort, .mark, .markSet, .streamQuery,
   .fanoutQuery, .replayClear, .stationQuery, .partStatus]

/-- The command a code names (Chapter 12.1). -/
def Command.ofCode (n : Nat) : Option Command := allCommands.find? fun c => c.code == n

/-- The command set of each port (R9). -/
def Command.permitted (p : PortId) (c : Command) : Bool :=
  match c with
  | .cellSet | .loadSet | .trunkSet | .trunkStart | .trunkStandby | .trunkReset | .pollListSet
  | .pollUrgent | .timersSet | .stationDetach | .stationClear | .cellQuery | .trunkQuery => p == .W
  | .ticketLoad | .gateAdmit | .gateExit | .ticketVoid | .ticketQuery | .ticketClear => p == .T
  | .streamOpen | .streamClose | .segBegin | .segData | .segEnd | .segAbort | .mark | .markSet
  | .streamQuery | .fanoutQuery | .replayClear => p == .V
  | .stationQuery | .partStatus => true

/-- The body length a command's layout requires, which may follow from a count or the selector in the
body (R180 check 5). -/
def Command.length (b : List Byte) : Command → Nat
  | .cellSet => 10 + byteAt b 5
  | .loadSet => 10
  | .trunkSet => 10
  | .trunkStart => 1
  | .trunkStandby => 1
  | .trunkReset => 1
  | .pollListSet => 2 + byteAt b 1
  | .pollUrgent => 1
  | .timersSet => 12
  | .stationDetach => 8
  | .stationClear => 0
  | .cellQuery => 1
  | .trunkQuery => 2
  | .ticketLoad => 1 + 12 * byteAt b 0
  | .gateAdmit => 8
  | .gateExit => 8
  | .ticketVoid => 8
  | .ticketQuery => 8
  | .ticketClear => 0
  | .streamOpen => 1
  | .streamClose => 1
  | .segBegin => 10
  | .segData => 260
  | .segEnd => 1
  | .segAbort => 1
  | .mark => 0
  | .markSet => 6
  | .streamQuery => 1
  | .fanoutQuery => 1
  | .replayClear => 0
  | .stationQuery => if byteAt b 0 = 0 then 4 else 7
  | .partStatus => 0

/-- The largest body length (R180 check 4). -/
def maxBody : Nat := 1040

/-- The acceptance checks of R180, in their order: the result of a message they refuse. -/
def refusal (p : PortId) (m : PortMessage) : Option Result :=
  if m.kind ≠ 1 then some .malformed
  else match Command.ofCode m.code.toNat with
    | none => some .malformed
    | some c =>
      if ¬ c.permitted p then some .notPermitted
      else if maxBody < m.bodyLength.toNat ∨ m.bodyLength.toNat ≠ m.body.length then some .malformed
      else if m.body.length ≠ c.length m.body then some .malformed
      else none

/-- A trunk field; 8 or above names no trunk (R32). -/
def trunkField (n : Nat) : Option TrunkId := if h : n < 8 then some ⟨n, h⟩ else none

/-- A stream id field; above 15 names no stream (R151). -/
def streamField (n : Nat) : Option StreamId := if h : n < 16 then some ⟨n, h⟩ else none

/-- An on/off field, 0 or 1. -/
def onOff (n : Nat) : Option Bool :=
  match n with
  | 0 => some false
  | 1 => some true
  | _ => none

/-- A cell kind field, 0 SEAT or 1 CONCOURSE. -/
def kindField (n : Nat) : Option CellKind :=
  match n with
  | 0 => some .seat
  | 1 => some .concourse
  | _ => none

/-- A ticket tier field, 1 LEAN or 2 FULL. -/
def tierField (n : Nat) : Option TicketTier :=
  match n with
  | 1 => some .lean
  | 2 => some .full
  | _ => none

/-- A mark source field, 0 INTERNAL or 1 PORT_V. -/
def sourceField (n : Nat) : Option MarkSource :=
  match n with
  | 0 => some .internal
  | 1 => some .portV
  | _ => none

/-- A generator mode field of MARK_SET, 0 PERIODIC or 1 SINGLE. -/
def modeField (n : Nat) : Option GenMode :=
  match n with
  | 0 => some .periodic
  | 1 => some .single
  | _ => none

/-- A number clamped into a range (00_scope.md "Counts, ranges and saturation"). -/
def clamp (lo hi n : Nat) : Nat := max lo (min hi n)

/-- A count that saturates at the top of its range. -/
def saturate (top n : Nat) : Nat := min top n

/-! ### Reports and poll answers -/

/-- The length a report's kind and token presence give; kinds 0 and 7 have none (Chapter 12.4,
R182). -/
def reportLength (kind : Nat) (b : List Byte) : Option Nat :=
  match kind with
  | 1 => some (if byteAt b 2 = 0 then 11 else 19)
  | 2 => some 6
  | 3 => some 14
  | 4 => some 7
  | 5 => some 7
  | 6 => some 4
  | _ => none

/-- Kind and fields of a report; an ASSOC token field that is present and 0 is no token (R42). -/
def reportBody (kind : Nat) (b : List Byte) : ReportBody :=
  match kind with
  | 1 =>
    .assoc (BitVec.ofNat 48 (numAt b 3 6))
      (if byteAt b 2 = 0 ∨ numAt b 9 8 = 0 then none else some (BitVec.ofNat 64 (numAt b 9 8)))
  | 2 => .depart (numAt b 2 2)
  | 3 => .presentTicket (numAt b 2 2) (BitVec.ofNat 64 (numAt b 4 8))
  | 4 => .subscribe (numAt b 2 2) (byteAt b 4)
  | 5 => .unsubscribe (numAt b 2 2) (byteAt b 4)
  | _ => .urgent

/-- The report in bytes whose check passes, or none where R182 treats it as garbled: a kind of 0 or 7,
or a length other than its kind and token presence give. Bits 3 to 7 of the first byte are the
position, bits 0 to 2 the kind. -/
def parseReport (t : TrunkId) (b : List Byte) : Option Report :=
  match reportLength (byteAt b 0 % 8) b with
  | none => none
  | some n =>
    if byteAt b 1 = n ∧ n ≤ b.length then
      some ⟨cellAt t (byteAt b 0 / 8), reportBody (byteAt b 0 % 8) b, false⟩
    else none

/-- The bytes of `r` reports, each as long as its length field says; none when they run beyond the
bytes received (Chapter 12.4). -/
def splitReports : Nat → List Byte → Option (List (List Byte))
  | 0, _ => some []
  | r + 1, b =>
    if 2 ≤ b.length ∧ byteAt b 1 ≤ b.length then
      (splitReports r (b.drop (byteAt b 1))).map fun rest => b.take (byteAt b 1) :: rest
    else none

/-- `n` station indices from an offset on. -/
def heardList (b : List Byte) : Nat → Nat → List StationIx
  | _, 0 => []
  | i, n + 1 => numAt b i 2 :: heardList b (i + 2) n

/-- The poll answer in the bytes of its slot, or none where R182 takes it as no answer: position above
31, heard count above 16, report count above 4, or parts that do not fit. -/
def parseAnswer (b : List Byte) : Option PollAnswer :=
  if b.length < 5 then none
  else if 31 < byteAt b 0 ∨ 16 < byteAt b 3 ∨ 4 < byteAt b 4 then none
  else if b.length < 5 + 2 * byteAt b 3 then none
  else match splitReports (byteAt b 4) (b.drop (5 + 2 * byteAt b 3)) with
    | none => none
    | some reports =>
      some ⟨byteAt b 0, byteAt b 1, byteAt b 2, heardList b 5 (byteAt b 3), reports⟩

end Sys2Proof.Machine
end

