-- ==== Sys2Proof/Machine/Cells.lean ====
section
/-! DEFINITION. What the rest of the part asks of a cell record: admitting, effective capacity,
occupancy of places, load score and standing (R70, R71, R73 to R80). -/
namespace Sys2Proof.Machine

/-- A cell's kind is SEAT. -/
def Cell.isSeat (r : Cell) : Bool := r.kind == .seat

/-- The accepted code lets a cell take stations: RUN or DEGRADED (R70). -/
def Condition.serves : Condition → Bool
  | .run => true
  | .degraded => true
  | .overtemp => false
  | .rebooting => false
  | .radioOff => false

/-- A cell is admitting: configured, LIVE, and its accepted code RUN or DEGRADED (R70). -/
def State.admitting (s : State) (c : CellId) : Bool :=
  s.configured c && (s.cell c).live == .live && (s.cell c).accepted.serves

/-- The effective capacity (R70). -/
def Cell.ceff (r : Cell) : Nat := if r.accepted = .degraded then max 1 (r.cmax / 2) else r.cmax

/-- A cell counts as crowded (R80). -/
def Cell.crowded (r : Cell) : Bool := r.load == .crowded || r.accepted == .overtemp

/-- A cell has room: S plus incoming is below Ceff (R105, R107). -/
def Cell.hasRoom (r : Cell) : Bool := decide (r.attached + r.incoming < r.ceff)

/-! ### The load arithmetic (R74 to R78) -/

/-- Occupancy: 256 × S / Ceff, rounded down, clamped to 255 (R74). -/
def Cell.occupancy (r : Cell) : Nat := min 255 (256 * r.attached / r.ceff)

/-- The instant score, saturated at 4095 (R75). -/
def instantScore (w : LoadSettings) (airtime occ streams : Nat) : Nat :=
  saturate 4095 (w.wa * airtime + w.ws * occ + 16 * w.wr * streams)

/-- One smoothing step: the difference divided by 2^k, truncated toward zero (R76). -/
def smooth (k old new : Nat) : Nat := (old + Int.tdiv ((new : Int) - old) ((2 ^ k : Nat) : Int)).toNat

/-- The threshold pair H, Lo: the override, or the pair of the cell's kind (R77). -/
def thresholds (w : LoadSettings) (r : Cell) : Nat × Nat :=
  match r.override, r.kind with
  | some pair, _ => pair
  | none, .seat => (w.seatH, w.seatLo)
  | none, .concourse => (w.concH, w.concLo)

/-- The load state after an update (R78). -/
def nextLoad (pair : Nat × Nat) (before : LoadState) (score : Nat) : LoadState :=
  match before with
  | .normal => if pair.1 < score then .crowded else .normal
  | .crowded => if score < pair.2 then .normal else .crowded

end Sys2Proof.Machine
end

