-- ==== Sys2Proof/Machine/Control.lean ====
section
/-! DEFINITION. Control messages for cells (R170 to R172). -/
namespace Sys2Proof.Machine

/-- Messages of a control queue (R170). -/
def controlCapacity : Nat := 512

/-- A message appended to a trunk's control queue: it joins at the tail of a queue of an ACTIVE or
LOST trunk that has room; it is dropped with CONTROL_OVERFLOW when the queue is full, and without a
flag in any other trunk state (R171). -/
def State.append (s : State) (t : TrunkId) (m : Ctl) : State :=
  let r := s.trunk t
  if r.state.serving then
    if r.control.length < controlCapacity then s.setTrunk t { r with control := r.control ++ [m] }
    else s.raiseFlag t .controlOverflow
  else s

/-- A message for one cell goes to the trunk that holds the cell (R53, R171). -/
def State.tell (s : State) (c : CellId) (b : CtlBody) : State :=
  s.append (trunkOf c) ⟨some (positionOf c), b⟩

/-- A message for every cell of a trunk (R95, R148). -/
def State.tellAll (s : State) (t : TrunkId) (b : CtlBody) : State := s.append t ⟨none, b⟩

end Sys2Proof.Machine
end

