-- ==== Sys2Proof/Config.lean ====
section
/-! DEFINITION. What the manual leaves open. Both constants are opaque: they have no body, so that no
statement can rest on a value of theirs. -/
namespace Sys2Proof

/-- FREE VALUE (log entry 3). Chapter 12.1 sends the bytes of an optional field that is absent and
states no value for them. `absentByte n k` is the byte at body offset `k` of the `n`-th outbound
message that begins transmission. -/
opaque Config.absentByte : Nat → Nat → Byte

/-- FREE VALUE (log entry 4). The payload of an EMPTY carriage slot is "fill" (R17, R177,
Chapter 12.3) and no value is stated for it. `fillByte n k` is byte `k` of the payload of slot `n` of
a frame. -/
opaque Config.fillByte : Nat → Nat → Byte

end Sys2Proof
end

