-- ==== Sys2Proof/Machine/Layout.lean ====
section
/-! DEFINITION. The byte layouts the part sends (Chapter 12): bodies of responses and notices, the
12-byte message header, downstream headers, slot headers and control-message payloads. -/
namespace Sys2Proof.Machine

/-! ### Fields -/

/-- A number in `w` bytes, most significant byte first (00_scope.md "Byte order"). -/
def beBytes : Nat → Nat → List Byte
  | 0, _ => []
  | w + 1, n => BitVec.ofNat 8 (n >>> (8 * w)) :: beBytes w n

def Field.u8 (n : Nat) : Field := ⟨1, some n⟩
def Field.u16 (n : Nat) : Field := ⟨2, some n⟩
def Field.u32 (n : Nat) : Field := ⟨4, some n⟩
def Field.u48 (n : Nat) : Field := ⟨6, some n⟩
def Field.u64 (n : Nat) : Field := ⟨8, some n⟩

/-- An optional field: its presence byte, then the field itself, which is always sent
(Chapter 12.1). -/
def optField (w : Nat) (o : Option Nat) : List Field := [.u8 (bit o.isSome), ⟨w, o⟩]

/-- The bytes of a field at a body offset. The bytes of a field with no value are free. -/
def Field.bytes (absent : Nat → Byte) (off : Nat) (f : Field) : List Byte :=
  match f.value with
  | some n => beBytes f.width n
  | none => (List.range f.width).map fun i => absent (off + i)

/-- A 2-byte field that would begin at an odd offset is preceded by one reserved byte
(Chapter 12.1). -/
def padBefore (off : Nat) (f : Field) : Nat := if f.width = 2 ∧ off % 2 = 1 then 1 else 0

/-- The bytes of a body from an offset on. -/
def layoutFrom (absent : Nat → Byte) : Nat → List Field → List Byte
  | _, [] => []
  | off, f :: fs =>
    List.replicate (padBefore off f) 0 ++ f.bytes absent (off + padBefore off f)
      ++ layoutFrom absent (off + padBefore off f + f.width) fs

/-- The bytes of a body; `n` numbers the outbound message for its free bytes. -/
def bodyBytes (n : Nat) (fs : List Field) : List Byte := layoutFrom (Config.absentByte n) 0 fs

/-! ### Port messages (Chapter 12.1) -/

/-- The bytes of a port message on the line: the 12-byte header and the body. -/
def PortMessage.wire (m : PortMessage) : List Byte :=
  [m.kind, m.code] ++ beBytes 2 m.tag.toNat ++ beBytes 2 m.bodyLength.toNat
    ++ [m.resultFlags, m.spare] ++ beBytes 4 m.sectorTime.toNat ++ m.body

/-- A response as the port sends it: reserved fields are 0 (R181). -/
def Response.message (n : Nat) (r : Response) : PortMessage where
  kind := 2
  code := r.code
  tag := r.tag
  bodyLength := BitVec.ofNat 16 (bodyBytes n r.body).length
  resultFlags := BitVec.ofNat 8 r.result.code
  spare := 0
  sectorTime := 0
  body := bodyBytes n r.body

/-- Notice codes (Chapter 12.1). -/
def Notice.code : Notice → Nat
  | .trunkState .. => 0x80 | .trunkError .. => 0x81 | .cellSilent .. => 0x82 | .cellHeard .. => 0x83
  | .cellCondition .. => 0x84 | .cellLoad .. => 0x85 | .roamForced .. => 0x86
  | .ticketBound .. => 0x90 | .ticketConflict .. => 0x91 | .ticketTransferred .. => 0x92
  | .ticketReleased .. => 0x93 | .ticketRefused .. => 0x94
  | .streamDemand .. => 0xA0 | .streamDrained .. => 0xA1 | .segmentStale .. => 0xA2

/-- The fields of a notice, in the order its rule lists them. -/
def Notice.fields : Notice → List Field
  | .trunkState t b a r => [.u8 t.val, .u8 b.code, .u8 a.code, .u8 r.code]
  | .trunkError t f fs => [.u8 t.val, .u8 f.bit, .u8 fs]
  | .cellSilent c l m => [.u8 c, .u8 l.code, .u8 m]
  | .cellHeard c => [.u8 c]
  | .cellCondition c b a n => [.u8 c, .u8 b.code, .u8 a.code, .u8 n]
  | .cellLoad c l n => [.u8 c, .u8 l.code, .u16 n]
  | .roamForced i a x => [.u16 i, .u8 a, .u8 x]
  | .ticketBound k i x r sec h => [.u64 k.toNat, .u16 i, .u8 x, .u8 r.code, .u8 sec] ++ optField 1 h
  | .ticketConflict k h c e i x => [.u64 k.toNat, .u16 h, .u8 c, .u32 e, .u16 i, .u8 x]
  | .ticketTransferred k h c e i x r =>
    [.u64 k.toNat, .u16 h, .u8 c, .u32 e, .u16 i, .u8 x, .u8 r.code]
  | .ticketReleased k i c h => [.u64 k.toNat, .u16 i, .u8 c.code] ++ optField 1 h
  | .ticketRefused k i x r st => [.u64 k.toNat, .u16 i, .u8 x, .u8 r.code, .u8 st.code]
  | .streamDemand k b a => [.u8 k.val, .u8 b.code, .u8 a.code]
  | .streamDrained k => [.u8 k.val]
  | .segmentStale k q ts => [.u8 k.val, .u16 q.toNat, .u8 (trunkSetByte ts)]

/-- A notice as the port sends it: it carries the sector time at which it was queued (R11) and the
overflow field (R12). -/
def QueuedNotice.message (n : Nat) (overflow : Bool) (q : QueuedNotice) : PortMessage where
  kind := 3
  code := BitVec.ofNat 8 q.notice.code
  tag := 0
  bodyLength := BitVec.ofNat 16 (bodyBytes n q.notice.fields).length
  resultFlags := BitVec.ofNat 8 (bit overflow)
  spare := 0
  sectorTime := q.time
  body := bodyBytes n q.notice.fields

/-! ### Downstream frames (Chapter 12.3) -/

/-- Report echo: a position, 0x20 IDLE, 0x21 GARBLED. -/
def Echo.code : Echo → Nat
  | .position p => p | .idle => 0x20 | .garbled => 0x21

/-- The slot map entry of a slot: type, stream id, sequence, chunk number. -/
def Slot.mapEntry : Slot → List Byte
  | .empty => [0, 0, 0, 0, 0, 0]
  | .control _ => [1, 0, 0, 0, 0, 0]
  | .replay k _ q c _ _ _ => [2, BitVec.ofNat 8 k.val] ++ beBytes 2 q.toNat ++ beBytes 2 c

/-- The message kind of a control message (Chapter 12.3). -/
def CtlBody.kind : CtlBody → Nat
  | .assocAccept .. => 1 | .assocDeny .. => 2 | .steer .. => 3 | .roamRelease .. => 4 | .detach .. => 5
  | .tierUpdate .. => 6 | .ticketResult .. => 7 | .subResult .. => 8 | .streamEnd .. => 9

/-- The fields of a control message in its payload (Chapter 12.3). -/
def CtlBody.payload : CtlBody → List Byte
  | .assocAccept i l => beBytes 2 i ++ beBytes 1 l.code
  | .assocDeny a r => beBytes 6 a.toNat ++ beBytes 1 r.code
  | .steer a c => beBytes 6 a.toNat ++ beBytes 1 c
  | .roamRelease i => beBytes 2 i
  | .detach i r => beBytes 2 (i.getD 0xFFFF) ++ beBytes 1 r.code
  | .tierUpdate i l => beBytes 2 i ++ beBytes 1 l.code
  | .ticketResult i r => beBytes 2 i ++ beBytes 1 r.code
  | .subResult i k r => beBytes 2 i ++ beBytes 1 k ++ beBytes 1 r.code
  | .streamEnd k => beBytes 1 k.val

/-- The 10-byte slot header (Chapter 12.3). -/
def Slot.header : Slot → List Byte
  | .empty => List.replicate 10 0
  | .control m => [BitVec.ofNat 8 (m.target.getD 0x3F), BitVec.ofNat 8 m.body.kind] ++ List.replicate 8 0
  | .replay k l q c m n _ =>
    [BitVec.ofNat 8 k.val, BitVec.ofNat 8 l.code] ++ beBytes 2 q.toNat ++ beBytes 2 c
      ++ beBytes 2 m.toNat ++ beBytes 2 n

/-- The 256-byte payload of slot `n` of a frame: a control message padded with 0, the chunk, or fill,
which is free. -/
def Slot.payload (n : Nat) : Slot → List Byte
  | .empty => (List.range 256).map (Config.fillByte n)
  | .control m => m.body.payload ++ List.replicate (256 - m.body.payload.length) 0
  | .replay _ _ _ _ _ _ d => d

/-- The mark field, in frame 0 only: presence byte and count, 0 with NO_MARK. -/
def markField : Option (Option Mark) → List Byte
  | none => []
  | some none => [0, 0, 0]
  | some (some c) => 1 :: beBytes 2 c.toNat

/-- The bytes of a downstream header, its closing header check (line coding, Chapter 12.4) left
out. -/
def DownFrame.header (f : DownFrame) : List Byte :=
  [BitVec.ofNat 8 f.number, BitVec.ofNat 8 (bit f.hold), BitVec.ofNat 8 f.echo.code,
    BitVec.ofNat 8 (f.poll.getD 0x20), BitVec.ofNat 8 f.ack] ++ markField f.mark
    ++ f.slots.flatMap Slot.mapEntry

/-- The bytes of the carriage slots of a frame from slot number `n` of the frame on. -/
def slotBytes : Nat → List Slot → List Byte
  | _, [] => []
  | n, x :: xs => x.header ++ x.payload n ++ slotBytes (n + 1) xs

/-- The bytes of a downstream frame, header check left out. -/
def DownFrame.wire (f : DownFrame) : List Byte := f.header ++ slotBytes 0 f.slots

/-- What a trunk's cells receive (R17, R21, R23): no frames in OFF and STANDBY, wake frames in WAKING,
and in ALIGNING, ACTIVE and LOST the bytes of the frame last sent, once there is one. -/
def State.trunkLine (s : State) (t : TrunkId) : LineSignal :=
  match (s.trunk t).state, (s.trunk t).frame with
  | .off, _ | .standby, _ => .nothing
  | .waking, _ => .wakeFrames
  | .aligning, some f | .active, some f | .lost, some f => .frame f.wire
  | .aligning, none | .active, none | .lost, none => .nothing

/-- What a port's controller receives (R2, R3): in DOWN and TRAINING the part's training pattern, which
carries the ready indication once the receiver is aligned; in UP the bytes of the message under
transmission. -/
def State.portLine (s : State) (p : PortId) : PortSignal :=
  match (s.port p).link, (s.port p).sending with
  | .down, _ | .training, _ => .training (s.port p).aligned
  | .up, some m => .message (PortMessage.wire m)
  | .up, none => .idle

end Sys2Proof.Machine
end

