-- ==== Sys2Proof/Machine/Ports.lean ====
section
/-! DEFINITION. The master ports (Chapter 1): link states, command intake and credits, responses,
notices and the outbound line. -/
namespace Sys2Proof.Machine

/-! ### Intake and credits (R6) -/

/-- Entries of a command intake (R6). -/
def intakeCapacity : Nat := 16

/-- The message under transmission is a response. -/
def Port.sendingResponse (q : Port) : Bool :=
  match q.sending with
  | some m => m.kind == 2
  | none => false

/-- The intake entries taken: commands waiting, and commands answered whose response has not been
sent whole (R6). -/
def Port.taken (q : Port) : Nat := q.waiting.length + q.responses.length + bit q.sendingResponse

/-- The free intake entries. -/
def Port.free (q : Port) : Nat := intakeCapacity - q.taken

/-! ### Link transitions (R2 to R5) -/

/-- The link leaves UP: waiting commands and completed responses are discarded, a transmission is cut
off, notices and the overflow flag are kept (R3, R4). That the receiver counts as not aligned and the
credit as 0 from then on is the model's choice: R2 and R6 do not speak of it (log entry 8). -/
def Port.leaveUp (q : Port) (dest : Link) : Port :=
  { q with link := dest, aligned := false, waiting := [], responses := [], sending := none, credit := 0 }

/-- A port leaves UP; a departure of Port V starts the grace timer (R4, R5, R166). -/
def State.leaveUp (s : State) (p : PortId) (dest : Link) : State :=
  let s := s.setPort p ((s.port p).leaveUp dest)
  match p with
  | .W => s
  | .T => s
  | .V => { s with grace := some s.now }

/-- A port enters UP: the opening credit is the number of free entries (R6), and Port V's return stops
the grace timer (R166). -/
def State.enterUp (s : State) (p : PortId) : State :=
  let q := s.port p
  let s := s.setPort p { q with link := .up, aligned := true, credit := q.free }
  match p with
  | .W => s
  | .T => s
  | .V => { s with grace := none }

/-- LINK_SIGNAL_DETECTED: DOWN to TRAINING; the receiver begins aligning (R2). -/
def execLinkSignalDetected (p : PortId) (s : State) : Host.Outcome State Fault Refusal :=
  s.live fun s =>
    let q := s.port p
    match q.link with
    | .down => s.setPort p { q with link := .training, aligned := false }
    | .training => s
    | .up => s

/-- LINK_RECEIVER_ALIGNED: in TRAINING the part's own pattern begins to carry its ready indication
(R2). -/
def execLinkReceiverAligned (p : PortId) (s : State) : Host.Outcome State Fault Refusal :=
  s.live fun s =>
    let q := s.port p
    match q.link with
    | .training => s.setPort p { q with aligned := true }
    | .down => s
    | .up => s

/-- LINK_ALIGNED: TRAINING to UP (R2, R6). -/
def execLinkAligned (p : PortId) (s : State) : Host.Outcome State Fault Refusal :=
  s.live fun s =>
    match (s.port p).link with
    | .training => s.enterUp p
    | .down => s
    | .up => s

/-- LINK_SIGNAL_LOST: TRAINING or UP to DOWN (R2, R4). -/
def execLinkSignalLost (p : PortId) (s : State) : Host.Outcome State Fault Refusal :=
  s.live fun s =>
    let q := s.port p
    match q.link with
    | .up => s.leaveUp p .down
    | .training => s.setPort p { q with link := .down, aligned := false }
    | .down => s

/-- LINK_TRAINING_RECEIVED: UP to TRAINING (R2, R4). -/
def execLinkTrainingReceived (p : PortId) (s : State) : Host.Outcome State Fault Refusal :=
  s.live fun s =>
    match (s.port p).link with
    | .up => s.leaveUp p .training
    | .training => s
    | .down => s

/-- LINK_FRAMING_FAILURE: the failing message is discarded, UP to TRAINING (R2, R4). -/
def execLinkFramingFailure (p : PortId) (s : State) : Host.Outcome State Fault Refusal :=
  s.live fun s =>
    match (s.port p).link with
    | .up => s.leaveUp p .training
    | .training => s
    | .down => s

/-- COMMAND_WITHOUT_CREDIT: a command arrives while no entry is free; it is discarded, UP to TRAINING
(R2, R6). -/
def execCommandWithoutCredit (p : PortId) (s : State) : Host.Outcome State Fault Refusal :=
  s.live fun s =>
    match (s.port p).link with
    | .up => if (s.port p).free = 0 then s.leaveUp p .training else s
    | .training => s
    | .down => s

/-- COMMAND_RECEIVED: on an UP link the message takes an intake entry and a credit; with no entry free
it is a command without a credit. In DOWN and TRAINING no command is taken (R3, R6). -/
def execCommandReceived (p : PortId) (m : PortMessage) (s : State) : Host.Outcome State Fault Refusal :=
  s.live fun s =>
    let q := s.port p
    match q.link with
    | .up =>
      if q.free = 0 then s.leaveUp p .training
      else s.setPort p { q with waiting := q.waiting ++ [m], credit := q.credit - 1 }
    | .training => s
    | .down => s

/-! ### Acting on a command (R7, R8) -/

/-- A completed command's response enters the response path; while the link is not UP it is discarded
(R4, R8). A result other than OK has an empty body. -/
def State.respond (s : State) (p : PortId) (m : PortMessage) (r : Result) (body : List Field) : State :=
  let q := s.port p
  match q.link with
  | .up =>
    s.setPort p { q with
      responses := q.responses ++ [⟨m.code, m.tag, r, if r = .ok then body else [], q.ready⟩]
      ready := q.ready + 1 }
  | .training => s
  | .down => s

/-- The command at the head of the intake begins to be acted on (R7). -/
def State.begin (s : State) (p : PortId) : State :=
  let q := s.port p
  s.setPort p { q with waiting := q.waiting.tail }

/-- A command row on a port: the command at the head of the intake, if it carries the row's code, is
examined by R180 and, when accepted, acted on whole by its own rule (R7). -/
def State.act (s : State) (p : PortId) (c : Command) (rule : List Byte → State → Answer) : State :=
  match (s.port p).waiting with
  | [] => s
  | m :: _ =>
    if m.code.toNat = c.code then
      match refusal p m with
      | some r => (s.begin p).respond p m r []
      | none =>
        let a := rule m.body (s.begin p)
        a.state.respond p m a.result a.body
    else s

/-- MALFORMED_MESSAGE: a message at the head of the intake that the checks of R180 refuse is answered
with no effect (R9, R180). -/
def execMalformedMessage (p : PortId) (s : State) : Host.Outcome State Fault Refusal :=
  s.live fun s =>
    match (s.port p).waiting with
    | [] => s
    | m :: _ =>
      match refusal p m with
      | some r => (s.begin p).respond p m r []
      | none => s

/-! ### The outbound line (R10, R12) -/

/-- A response begins transmission. -/
def State.sendResponse (s : State) (p : PortId) (r : Response) : State :=
  let q := s.port p
  let s := s.setPort p { q with responses := q.responses.tail, sending := some (r.message s.fresh) }
  { s with fresh := s.fresh + 1 }

/-- A notice begins transmission: it leaves the queue, carries the overflow flag and clears it
(R11, R12). -/
def State.sendNotice (s : State) (p : PortId) (n : QueuedNotice) : State :=
  let q := s.port p
  let s := s.setPort p { q with
    notices := q.notices.tail
    sending := some (n.message s.fresh q.overflow)
    overflow := false }
  { s with fresh := s.fresh + 1 }

/-- The next message: of the head response and the head notice the one that became ready first
(R10). -/
def State.sendNext (s : State) (p : PortId) : State :=
  match (s.port p).responses, (s.port p).notices with
  | [], [] => s
  | r :: _, [] => s.sendResponse p r
  | [], n :: _ => s.sendNotice p n
  | r :: _, n :: _ => if r.ready < n.ready then s.sendResponse p r else s.sendNotice p n

/-- OUTBOUND_SEND: on an UP link whose previous message has been sent, the next message begins
transmission (R3, R10). -/
def execOutboundSend (p : PortId) (s : State) : Host.Outcome State Fault Refusal :=
  s.live fun s =>
    match (s.port p).link, (s.port p).sending with
    | .up, none => s.sendNext p
    | .up, some _ => s
    | .training, _ => s
    | .down, _ => s

/-- OUTBOUND_MESSAGE_SENT: the transmission ends and the line is free; the intake entry of a response
becomes free and one credit is signalled (R6, R10). -/
def execOutboundMessageSent (p : PortId) (s : State) : Host.Outcome State Fault Refusal :=
  s.live fun s =>
    let q := s.port p
    match q.link, q.sending with
    | .up, some m => s.setPort p { q with sending := none, credit := q.credit + bit (m.kind == 2) }
    | .up, none => s
    | .training, _ => s
    | .down, _ => s

end Sys2Proof.Machine
end

