-- ==== Sys2Proof/Machine/Fanout.lean ====
section
/-! DEFINITION. Subscriptions and fan-out (Chapter 9): counts, demand, the effective tier, withdrawal
and FANOUT_QUERY. -/
namespace Sys2Proof.Machine

/-! ### Counts (R141) -/

/-- A tier's count raised by 1; NONE has no count. -/
def Counts.inc (n : Counts) : Level → Counts
  | .none => n
  | .lean => { n with lean := n.lean + 1 }
  | .full => { n with full := n.full + 1 }

/-- A tier's count lowered by 1; NONE has no count. -/
def Counts.dec (n : Counts) : Level → Counts
  | .none => n
  | .lean => { n with lean := n.lean - 1 }
  | .full => { n with full := n.full - 1 }

/-- Each stream joins the count of a tier at a cell. -/
def State.joinCounts (s : State) (c : CellId) (tier : Level) (ks : List StreamId) : State :=
  s.each ks fun s k => s.setCounts c k ((s.counts c k).inc tier)

/-- Each stream leaves the count of a tier at a cell. -/
def State.leaveCounts (s : State) (c : CellId) (tier : Level) (ks : List StreamId) : State :=
  s.each ks fun s k => s.setCounts c k ((s.counts c k).dec tier)

/-- Stream k has a watcher at the cell. -/
def State.watched (s : State) (c : CellId) (k : StreamId) : Bool :=
  decide (0 < (s.counts c k).full + (s.counts c k).lean)

/-- The figure R of a cell (R73, R141). -/
def State.streamsWatched (s : State) (c : CellId) : Nat := (allStreams.filter (s.watched c)).length

/-! ### Demand (R145 to R147) -/

/-- The higher of two demands: NONE, LEAN, FULL (section 9.4). -/
def Level.sup : Level → Level → Level
  | .full, _ => .full
  | _, .full => .full
  | .lean, _ => .lean
  | _, .lean => .lean
  | .none, .none => .none

/-- The trunk demand of a stream (R145). -/
def State.trunkDemand (s : State) (t : TrunkId) (k : StreamId) : Level :=
  match (s.trunk t).state with
  | .active =>
    if (cellsOf t).any fun c => !(s.cell c).crowded && decide (0 < (s.counts c k).full) then .full
    else if (cellsOf t).any fun c => s.watched c k then .lean
    else .none
  | .off => .none
  | .standby => .none
  | .waking => .none
  | .aligning => .none
  | .lost => .none

/-- The highest trunk demand of a stream over the eight trunks (R146). -/
def State.highestDemand (s : State) (k : StreamId) : Level :=
  allTrunks.foldl (fun d t => d.sup (s.trunkDemand t k)) .none

/-- The sector demand of a stream recomputed; a change queues STREAM_DEMAND on Port V (R146, R147). -/
def State.recompute (s : State) (k : StreamId) : State :=
  let before := s.sectorDemand k
  let after := s.highestDemand k
  if after = before then s
  else (s.setDemand k after).notify .V (.streamDemand k before after)

/-- The sector demand of each of some streams recomputed, in order. -/
def State.recomputeEach (s : State) (ks : List StreamId) : State := s.each ks State.recompute

/-- The sector demand of every stream recomputed, in ascending id (R147, log entry 9). -/
def State.recomputeAll (s : State) : State := s.recomputeEach allStreams

/-- The sector demand of every stream with a watcher at a cell recomputed (R69, R147). -/
def State.recomputeWatched (s : State) (c : CellId) : State :=
  s.recomputeEach (allStreams.filter (s.watched c))

/-! ### The effective tier (R139, R140) -/

/-- The tier that a binding gives at a cell (R139, and R110 for a pending cell). -/
def State.tierOf (s : State) (b : Binding) (c : CellId) : Level :=
  let r := s.cell c
  match b, r.kind with
  | .bound k, .concourse => match s.ticket? k with
    | some t => t.tier.level
    | none => .none
  | .bound k, .seat => match s.ticket? k with
    | some t => if t.section_ = r.section_ then t.tier.level else .none
    | none => .none
  | .unbound, .concourse => .lean
  | .unbound, .seat => .none
  | .fenced, _ => .none

/-- A tier recompute, steps 1 to 3 of R140: on a change the counts move, the tier is stored and the
demand of the listed streams is recomputed. Answers the new tier when it changed. -/
def State.recomputeTier (s : State) (i : StationIx) : State × Option Level :=
  match s.station? i with
  | none => (s, none)
  | some r =>
    let new := s.tierOf r.binding r.cell
    if new = r.tier then (s, none)
    else
      let s := s.leaveCounts r.cell r.tier r.subs
      let s := s.joinCounts r.cell new r.subs
      let s := s.putStation i { r with tier := new }
      (s.recomputeEach r.subs, some new)

/-- TIER_UPDATE to the station's current cell, when the tier changed (R140 step 4). -/
def State.tellTier (s : State) (i : StationIx) (changed : Option Level) : State :=
  match changed, s.station? i with
  | some tier, some r => s.tell r.cell (.tierUpdate i tier)
  | some _, none => s
  | none, _ => s

/-- A tier recompute with its TIER_UPDATE at once (R140). -/
def State.retier (s : State) (i : StationIx) : State :=
  let a := s.recomputeTier i
  a.1.tellTier i a.2

/-! ### SUBSCRIBE and UNSUBSCRIBE (R142 to R144) -/

/-- The stream is OPEN. -/
def State.isOpen (s : State) (k : StreamId) : Bool := (s.stream k).state == .opened

/-- The report came from the pending cell of a roaming station (R116). -/
def Station.pendingAt (r : Station) (x : CellId) : Bool :=
  match r.roam with
  | some m => m.pending == x
  | none => false

/-- SUB_RESULT to the reporting cell (R142). -/
def State.subResult (s : State) (x : CellId) (i : StationIx) (stream : Nat) (r : SubResult) : State :=
  s.tell x (.subResult i stream r)

/-- A SUBSCRIBE for a live station record from a reporting cell (R143). -/
def State.subscribe (s : State) (x : CellId) (i : StationIx) (r : Station) (stream : Nat) : State :=
  if r.pendingAt x then s.subResult x i stream .notAttached
  else match streamField stream with
    | none => s.subResult x i stream .closed
    | some k =>
      if !s.isOpen k then s.subResult x i stream .closed
      else if k ∈ r.subs then s.subResult x i stream .ok
      else if 4 ≤ r.subs.length then s.subResult x i stream .full
      else
        let s := s.putStation i { r with subs := r.subs ++ [k] }
        if r.tier = .none then s.subResult x i stream .okNoTier
        else ((s.joinCounts r.cell r.tier [k]).recompute k).subResult x i stream .ok

/-- An UNSUBSCRIBE for a live station record from a reporting cell (R144). -/
def State.unsubscribe (s : State) (x : CellId) (i : StationIx) (r : Station) (stream : Nat) : State :=
  if r.pendingAt x then s.subResult x i stream .notAttached
  else match streamField stream with
    | none => s.subResult x i stream .ok
    | some k =>
      if k ∈ r.subs then
        let s := s.putStation i { r with subs := r.subs.filter (· ≠ k) }
        if r.tier = .none then s.subResult x i stream .ok
        else ((s.leaveCounts r.cell r.tier [k]).recompute k).subResult x i stream .ok
      else s.subResult x i stream .ok

/-! ### Withdrawal (R148) -/

/-- A stream taken out of a station's list; the streams behind it keep their order. -/
def Station.dropStream (r : Station) (k : StreamId) : Station :=
  { r with subs := r.subs.filter (· ≠ k) }

/-- Both counts of a stream set to 0 at every cell. -/
def clearStream (k : StreamId) (fan : Table Counts) : Table Counts :=
  ⟨fan.entries.filter fun e => decide (e.1 % 16 ≠ k.val)⟩

/-- A stream taken out of every live station's list. -/
def dropFromAll (k : StreamId) (stations : Table Station) : Table Station :=
  ⟨stations.entries.map fun e => (e.1, e.2.dropStream k)⟩

/-- The ACTIVE trunks, 0 to 7. -/
def State.activeTrunks (s : State) : List TrunkId :=
  allTrunks.filter fun t => (s.trunk t).state == TrunkState.active

/-- Steps 1 and 2 of a withdrawal: the lists and the counts lose the stream (R148). -/
def State.dropSubscribers (s : State) (k : StreamId) : State :=
  { s with stations := dropFromAll k s.stations, fan := clearStream k s.fan }

/-- A stream that stops being OPEN is withdrawn (R148). -/
def State.withdraw (s : State) (k : StreamId) : State :=
  let s := (s.dropSubscribers k).recompute k
  s.each s.activeTrunks fun s t => s.tellAll t (.streamEnd k)

/-! ### FANOUT_QUERY (R149) -/

/-- The sum of a figure over some cells. -/
def sumOver (cs : List CellId) (f : CellId → Nat) : Nat := (cs.map f).sum

/-- FANOUT_QUERY's own rule (R149). -/
def fanoutQueryRule (b : List Byte) (s : State) : Answer :=
  match streamField (byteAt b 0) with
  | none => ⟨s, .noSuch, []⟩
  | some k =>
    let fulls := fun t => sumOver (cellsOf t) fun c => (s.counts c k).full
    let leans := fun t => sumOver (cellsOf t) fun c => (s.counts c k).lean
    ⟨s, .ok,
      [.u8 (s.stream k).state.code, .u8 (s.sectorDemand k).code]
        ++ allTrunks.map (fun t => .u8 (s.trunk t).state.code)
        ++ allTrunks.map (fun t => .u8 (s.trunkDemand t k).code)
        ++ allTrunks.map (fun t => .u16 (fulls t))
        ++ allTrunks.map (fun t => .u16 (leans t))
        ++ allTrunks.map (fun t => .u8 ((cellsOf t).filter fun c => s.watched c k).length)
        ++ [.u16 (allTrunks.map fulls).sum, .u16 (allTrunks.map leans).sum]⟩

/-- FANOUT_QUERY. -/
def execFanoutQuery (p : PortId) (s : State) : Host.Outcome State Fault Refusal :=
  s.live fun s => s.act p .fanoutQuery fanoutQueryRule

end Sys2Proof.Machine
end

