-- ==== Sys2Proof/Machine/Replay.lean ====
section
/-! DEFINITION. Replay streams, segment memory and sync marks (Chapter 10). -/
namespace Sys2Proof.Machine

/-- Descriptors in the pool (R153). -/
def descCapacity : Nat := 256
/-- Blocks of segment memory (R153). -/
def blockCapacity : Nat := 16384
/-- How far ahead a release mark may lie (R158, R160). -/
def aheadLimit : Int := 1024

/-! ### Descriptors (R153, R154) -/

/-- The chunks of a rendition (R153, R159). -/
def Desc.chunks (r : Desc) : Level → Nat
  | .none => 0
  | .lean => r.nL
  | .full => r.nL + r.nX

/-- All chunks of a segment. -/
def Desc.total (r : Desc) : Nat := r.nL + r.nX

/-- The rendition and chunks remaining on a trunk, present when RELEASED (R153). -/
def Desc.carry (r : Desc) (t : TrunkId) : Carry :=
  match r.state with
  | .released _ cs => cs[t.val]
  | .held => ⟨.none, 0⟩
  | .uploading _ => ⟨.none, 0⟩

/-- One figure per trunk. -/
def perTrunk (f : TrunkId → Carry) : Vector Carry 8 := #v[f 0, f 1, f 2, f 3, f 4, f 5, f 6, f 7]

/-- A DRAINING stream with no descriptor left becomes CLOSED and queues STREAM_DRAINED (R154 step 3). -/
def State.endDrain (s : State) (k : StreamId) : State :=
  let r := s.stream k
  if r.state = .draining ∧ r.inUse = 0 then
    (s.setStream k { r with state := .closed }).notify .V (.streamDrained k)
  else s

/-- Steps 1 and 2 of freeing a descriptor: its blocks rejoin the free set and its stream's count falls
(R154). -/
def State.freeCore (s : State) (d : DescIx) : State :=
  match s.desc? d with
  | none => s
  | some r =>
    let s := { s with descs := s.descs.del d, used := s.used.filter (· ∉ r.blocks) }
    let k := s.stream r.stream
    s.setStream r.stream { k with inUse := k.inUse - 1 }

/-- A descriptor freed (R154). -/
def State.freeDesc (s : State) (d : DescIx) : State :=
  match s.desc? d with
  | none => s
  | some r => (s.freeCore d).endDrain r.stream

/-- The plan entries that name a descriptor are skipped from now on (R177). -/
def Allocation.void (a : Allocation) (d : DescIx) : Allocation :=
  { a with plan := a.plan.map fun e =>
      match e with
      | some x => if x.desc = d then none else some x
      | none => none }

/-- A trunk's replay queue and plan without a descriptor; the queue closes up (R174). -/
def Trunk.unlink (r : Trunk) (d : DescIx) : Trunk :=
  { r with replay := r.replay.filter (· ≠ d), allocation := r.allocation.map (·.void d) }

/-- A descriptor leaves a trunk's replay queue: its rendition there is cleared, its reference count
falls by 1, and a count of 0 frees it (R159, R174). -/
def State.unlink (s : State) (t : TrunkId) (d : DescIx) : State :=
  let s := s.setTrunk t ((s.trunk t).unlink d)
  match s.desc? d with
  | none => s
  | some r =>
    match r.state with
    | .released refs cs =>
      let s := s.putDesc d { r with state := .released (refs - 1) (cs.set t.val ⟨.none, 0⟩) }
      if refs - 1 = 0 then s.freeDesc d else s
    | .held => s
    | .uploading _ => s

/-- A trunk that leaves ACTIVE flushes its replay queue, from head to tail, with no notice (R29,
R174). -/
def State.flushReplay (s : State) (t : TrunkId) : State :=
  s.each (s.trunk t).replay fun s d => s.unlink t d

/-! ### The replay queue as the Carriage Scheduler reads it (R173) -/

/-- Dr: the chunks remaining over the descriptors of a trunk's replay queue. -/
def State.chunksLeft (s : State) (t : TrunkId) : Nat :=
  ((s.trunk t).replay.map fun d =>
    match s.desc? d with
    | some r => (r.carry t).remaining
    | none => 0).sum

/-! ### Release (R159) -/

/-- The trunks whose demand for a stream is not NONE, 0 to 7. -/
def State.wantedOn (s : State) (k : StreamId) : List TrunkId :=
  allTrunks.filter fun t => s.trunkDemand t k != .none

/-- A descriptor released: its rendition on each trunk is the trunk demand now, and it joins the tail
of the replay queue of each trunk that wants it; wanted nowhere it is freed at once as unwatched
(R159). -/
def State.releaseDesc (s : State) (d : DescIx) : State :=
  match s.desc? d with
  | none => s
  | some r =>
    let ts := s.wantedOn r.stream
    if ts = [] then
      let k := s.stream r.stream
      (s.setStream r.stream { k with unwatched := saturate 65535 (k.unwatched + 1) }).freeDesc d
    else
      let carries := perTrunk fun t => ⟨s.trunkDemand t r.stream, r.chunks (s.trunkDemand t r.stream)⟩
      let s := s.putDesc d { r with state := .released ts.length carries }
      s.each ts fun s t =>
        let q := s.trunk t
        s.setTrunk t { q with replay := q.replay ++ [d] }

/-! ### Mark events (R155, R158, R164) -/

/-- `d` of a descriptor's release mark against the count (R155). -/
def State.distance (s : State) (r : Desc) : Int := markDistance s.marks.count r.mark

/-- A descriptor in the release queue is now reached. -/
def State.reachedNow (s : State) (d : DescIx) : Bool :=
  match s.desc? d with
  | some r => decide (0 ≤ s.distance r)
  | none => false

/-- A HELD descriptor leaves the release queue and is released. -/
def State.releaseHeld (s : State) (d : DescIx) : State :=
  State.releaseDesc { s with release := s.release.filter (· ≠ d) } d

/-- The trunks whose replay queue holds a descriptor, 0 to 7. -/
def State.holders (s : State) (d : DescIx) : List TrunkId :=
  allTrunks.filter fun t => (s.trunk t).replay.contains d

/-- A descriptor in some replay queue lies more than the stale limit behind the count (R164). -/
def State.isStale (s : State) (d : DescIx) : Bool :=
  match s.desc? d with
  | some r => decide ((s.marks.stale : Int) < s.distance r) && !(s.holders d).isEmpty
  | none => false

/-- A stale descriptor is removed from every trunk that holds it and freed; one SEGMENT_STALE, before
the STREAM_DRAINED that its end may queue (R164). -/
def State.flushStale (s : State) (d : DescIx) : State :=
  match s.desc? d with
  | none => s
  | some r =>
    let ts := s.holders d
    (s.notify .V (.segmentStale r.stream r.sequence ts)).each ts fun s t => s.unlink t d

/-- Step 3 of a mark event: the stale descriptors in ascending index (R164). -/
def State.flushAllStale (s : State) : State :=
  s.each (s.descs.keys.filter s.isStale) State.flushStale

/-- Step 2 of a mark event: the reached descriptors in release-queue order (R164). -/
def State.releaseReached (s : State) : State :=
  s.each (s.release.filter s.reachedNow) State.releaseHeld

/-- The count rises by 1, wrapping (R155). -/
def State.bumpMark (s : State) : State :=
  { s with marks := { s.marks with count := s.marks.count + 1 } }

/-- A mark event (R164). -/
def State.markEvent (s : State) : State := s.bumpMark.releaseReached.flushAllStale

/-- GENERATOR_EXPIRY: when the next expiry has come, one mark event; then the next expiry is set, or
the generator stops (R157). -/
def execGeneratorExpiry (s : State) : Host.Outcome State Fault Refusal :=
  s.live fun s =>
    match s.marks.mode, s.marks.next with
    | .periodic, some due =>
      if timeReached s.now due then
        let s := s.markEvent
        { s with marks := { s.marks with next := some (due + BitVec.ofNat 32 s.marks.period) } }
      else s
    | .single, some due =>
      if timeReached s.now due then
        let s := s.markEvent
        { s with marks := { s.marks with mode := .stopped, next := none } }
      else s
    | .stopped, _ => s
    | _, none => s

/-! ### Streams (R151, R152, R165, R166) -/

/-- The descriptor of a stream that is UPLOADING, in a list of entries. -/
def findUpload : List (Nat × Desc) → StreamId → Option (DescIx × Desc × Nat)
  | [], _ => none
  | (d, r) :: rest, k =>
    match r.state with
    | .uploading n => if r.stream = k then some (d, r, n) else findUpload rest k
    | .held => findUpload rest k
    | .released _ _ => findUpload rest k

/-- The upload in progress of a stream (R160): its descriptor and next chunk expected. -/
def State.upload? (s : State) (k : StreamId) : Option (DescIx × Desc × Nat) :=
  findUpload s.descs.entries k

/-- A command that names a stream id: above 15 is NO_SUCH before any other check (R151). -/
def onStream (b : List Byte) (s : State) (f : StreamId → Answer) : Answer :=
  match streamField (byteAt b 0) with
  | none => ⟨s, .noSuch, []⟩
  | some k => f k

/-- STREAM_OPEN's own rule (R152). -/
def streamOpenRule (b : List Byte) (s : State) : Answer :=
  onStream b s fun k =>
    match (s.stream k).state with
    | .closed =>
      ⟨s.setStream k { s.stream k with state := .opened, lastSeq := none, unwatched := 0 }, .ok, []⟩
    | .opened => ⟨s, .wrongState, []⟩
    | .draining => ⟨s, .wrongState, []⟩

/-- STREAM_OPEN. -/
def execStreamOpen (p : PortId) (s : State) : Host.Outcome State Fault Refusal :=
  s.live fun s => s.act p .streamOpen streamOpenRule

/-- A descriptor belongs to a stream. -/
def State.ofStream (s : State) (k : StreamId) (d : DescIx) : Bool :=
  match s.desc? d with
  | some r => r.stream == k
  | none => false

/-- The HELD descriptors of a stream, in release order. -/
def State.heldOf (s : State) (k : StreamId) : List DescIx := s.release.filter (s.ofStream k)

/-- Step 2 of a close: the upload is freed (R165). -/
def State.freeUpload (s : State) (k : StreamId) : State :=
  match s.upload? k with
  | some (d, _, _) => s.freeDesc d
  | none => s

/-- Step 3 of a close: the held segments leave the release queue and are freed (R165). -/
def State.freeHeld (s : State) (k : StreamId) : State :=
  s.each (s.heldOf k) fun s d =>
    State.freeDesc { s with release := s.release.filter (· ≠ d) } d

/-- Step 4 of a close: the stream drains, or is CLOSED at once (R165). -/
def State.startDrain (s : State) (k : StreamId) : State :=
  (s.setStream k { s.stream k with state := .draining }).endDrain k

/-- An OPEN stream closed: withdrawal, upload, held segments, drain (R165). -/
def State.closeStream (s : State) (k : StreamId) : State :=
  (((s.withdraw k).freeUpload k).freeHeld k).startDrain k

/-- The descriptors a close frees at its steps 2 and 3. -/
def State.closeFrees (s : State) (k : StreamId) : Nat :=
  (s.heldOf k).length + bit (s.upload? k).isSome

/-- STREAM_CLOSE's own rule (R165). -/
def streamCloseRule (b : List Byte) (s : State) : Answer :=
  onStream b s fun k =>
    match (s.stream k).state with
    | .opened =>
      let after := s.closeStream k
      ⟨after, .ok, [.u16 (s.closeFrees k), .u16 (after.stream k).inUse]⟩
    | .closed => ⟨s, .wrongState, []⟩
    | .draining => ⟨s, .wrongState, []⟩

/-- STREAM_CLOSE. -/
def execStreamClose (p : PortId) (s : State) : Host.Outcome State Fault Refusal :=
  s.live fun s => s.act p .streamClose streamCloseRule

/-- The Port V grace period in units of sector time (R166). -/
def graceUnits : Nat := 500

/-- The OPEN streams, ascending. -/
def State.openStreams (s : State) : List StreamId := allStreams.filter s.isOpen

/-- PORT_V_GRACE_EXPIRY: when the timer has run 2,000 ms every OPEN stream is closed, ascending
(R166). -/
def execPortVGraceExpiry (s : State) : Host.Outcome State Fault Refusal :=
  s.live fun s =>
    match s.grace with
    | none => s
    | some stamp =>
      if graceUnits ≤ elapsed s.now stamp then
        State.each { s with grace := none } s.openStreams State.closeStream
      else s

/-! ### Uploads (R160 to R163) -/

/-- The free descriptors. -/
def State.freeDescs (s : State) : Nat := descCapacity - s.descs.size
/-- The free segment blocks. -/
def State.freeBlocks (s : State) : Nat := blockCapacity - s.used.length

/-- Check 3 of SEG_BEGIN: the sequence is not after the last one (R160). -/
def badSequence (last : Option Seq) (q : Seq) : Bool :=
  match last with
  | none => false
  | some l => decide ((q - l).toNat = 0 ∨ 32767 < (q - l).toNat)

/-- The sizes of a segment are out of range (R160 check 5). -/
def badSizes (nL nX : Nat) : Bool := decide (nL = 0 ∨ 255 < nL ∨ 769 < nX ∨ 1024 < nL + nX)

/-- The lowest-numbered free blocks (R153). -/
def State.lowestBlocks (s : State) (n : Nat) : List Nat := freeFrom (n + s.used.length) n 0 s.used

/-- A descriptor taken by SEG_BEGIN (R153, R160). -/
def State.beginUpload (s : State) (d : DescIx) (k : StreamId) (q : Seq) (m : Mark) (nL nX : Nat)
    (blocks : List Nat) : State :=
  let s := s.putDesc d ⟨.uploading 0, k, q, m, nL, nX, blocks⟩
  let s := { s with used := blocks.foldl insertRising s.used }
  s.setStream k { s.stream k with inUse := (s.stream k).inUse + 1 }

/-- SEG_BEGIN's own rule (R160). -/
def segBeginRule (b : List Byte) (s : State) : Answer :=
  onStream b s fun k =>
    let q : Seq := BitVec.ofNat 16 (numAt b 2 2)
    let m : Mark := BitVec.ofNat 16 (numAt b 4 2)
    let nL := numAt b 6 2
    let nX := numAt b 8 2
    if !s.isOpen k then ⟨s, .wrongState, []⟩
    else if (s.upload? k).isSome then ⟨s, .busy, []⟩
    else if badSequence (s.stream k).lastSeq q then ⟨s, .badSequence, []⟩
    else if markDistance s.marks.count m < -aheadLimit then ⟨s, .badValue, []⟩
    else if badSizes nL nX then ⟨s, .badValue, []⟩
    else if s.freeDescs = 0 ∨ s.freeBlocks < nL + nX then ⟨s, .noSpace, []⟩
    else
      let d := firstFree 0 s.descs.keys
      let blocks := s.lowestBlocks (nL + nX)
      ⟨s.beginUpload d k q m nL nX blocks, .ok,
        [.u8 d, .u16 (blocks.headD 0), .u16 (blocks.getLastD 0)]⟩

/-- SEG_BEGIN. -/
def execSegBegin (p : PortId) (s : State) : Host.Outcome State Fault Refusal :=
  s.live fun s => s.act p .segBegin segBeginRule

/-- The byte address of a block. -/
def blockAddress (block : Nat) : Nat := 256 * block

/-- SEG_DATA's own rule (R161). -/
def segDataRule (b : List Byte) (s : State) : Answer :=
  onStream b s fun k =>
    match s.upload? k with
    | none => ⟨s, .noSuch, []⟩
    | some (d, r, next) =>
      if numAt b 2 2 ≠ next ∨ r.total ≤ next then ⟨s, .badSequence, []⟩
      else
        let block := r.blocks.getD next 0
        let s := { s with segMem := Memory.writeAll s.segMem (blockAddress block) ((b.drop 4).take 256) }
        ⟨s.putDesc d { r with state := .uploading (next + 1) }, .ok, [.u16 (next + 1)]⟩

/-- SEG_DATA. -/
def execSegData (p : PortId) (s : State) : Host.Outcome State Fault Refusal :=
  s.live fun s => s.act p .segData segDataRule

/-- A descriptor put in release order: nearer marks first, equal marks in order of arrival (R158). -/
def State.insertHeld (s : State) (dist : Int) (d : DescIx) : List DescIx → List DescIx
  | [] => [d]
  | e :: rest =>
    match s.desc? e with
    | some r => if s.distance r < dist then d :: e :: rest else e :: s.insertHeld dist d rest
    | none => e :: s.insertHeld dist d rest

/-- A descriptor HELD by SEG_END (R158, R162). -/
def State.hold (s : State) (d : DescIx) (r : Desc) : State :=
  let s := s.putDesc d { r with state := .held }
  { s with release := s.insertHeld (s.distance r) d s.release }

/-- The response body of SEG_END for a descriptor after its immediate release (R162). That what R162 adds
for RELEASED has no presence byte, and is left out of an UNWATCHED body, is the model's choice (log
entry 20). -/
def releasedBody (s : State) (d : DescIx) : List Field :=
  match s.desc? d with
  | none => [.u8 d, .u8 2]
  | some r =>
    match r.state with
    | .released refs cs =>
      [.u8 d, .u8 1, .u8 refs] ++ allTrunks.map fun t => .u8 (cs[t.val]).rendition.code
    | .held => [.u8 d, .u8 0]
    | .uploading _ => [.u8 d, .u8 0]

/-- SEG_END's own rule (R162). That a HELD body is index and outcome alone is the model's choice (log
entry 20). -/
def segEndRule (b : List Byte) (s : State) : Answer :=
  onStream b s fun k =>
    match s.upload? k with
    | none => ⟨s, .noSuch, []⟩
    | some (d, r, next) =>
      if next < r.total then ⟨s, .incomplete, []⟩
      else
        let dist := s.distance r
        let s := s.setStream k { s.stream k with lastSeq := some r.sequence }
        if (s.marks.stale : Int) < dist ∨ dist < -aheadLimit then ⟨s.freeDesc d, .stale, []⟩
        else if 0 ≤ dist then
          let s := s.releaseDesc d
          ⟨s, .ok, releasedBody s d⟩
        else ⟨s.hold d r, .ok, [.u8 d, .u8 0]⟩

/-- SEG_END. -/
def execSegEnd (p : PortId) (s : State) : Host.Outcome State Fault Refusal :=
  s.live fun s => s.act p .segEnd segEndRule

/-- SEG_ABORT's own rule (R163). -/
def segAbortRule (b : List Byte) (s : State) : Answer :=
  onStream b s fun k =>
    match s.upload? k with
    | none => ⟨s, .noSuch, []⟩
    | some (d, _, _) => ⟨s.freeDesc d, .ok, []⟩

/-- SEG_ABORT. -/
def execSegAbort (p : PortId) (s : State) : Host.Outcome State Fault Refusal :=
  s.live fun s => s.act p .segAbort segAbortRule

/-! ### MARK, MARK_SET (R155, R156) -/

/-- MARK's own rule (R156). -/
def markRule (_ : List Byte) (s : State) : Answer :=
  match s.marks.source with
  | .portV =>
    let s := s.markEvent
    ⟨s, .ok, [.u16 s.marks.count.toNat]⟩
  | .internal => ⟨s, .wrongState, []⟩

/-- MARK. -/
def execMark (p : PortId) (s : State) : Host.Outcome State Fault Refusal :=
  s.live fun s => s.act p .mark markRule

/-- The mark counter after a MARK_SET with values in range (R155). -/
def MarkCounter.set (m : MarkCounter) (now : Time) (src : MarkSource) (mode : GenMode) (p stale : Nat) :
    MarkCounter :=
  match src with
  | .internal =>
    { m with source := src, mode := mode, period := p, stale := stale
             next := some (now + BitVec.ofNat 32 p) }
  | .portV => { m with source := src, mode := .stopped, period := p, stale := stale, next := none }

/-- MARK_SET's own rule (R155). -/
def markSetRule (b : List Byte) (s : State) : Answer :=
  match sourceField (byteAt b 0), modeField (byteAt b 1) with
  | some src, some mode =>
    let m := s.marks.set s.now src mode (clamp 1 250 (numAt b 2 2)) (clamp 1 64 (numAt b 4 2))
    ⟨{ s with marks := m }, .ok,
      [.u8 m.source.code, .u8 m.mode.code, .u16 m.period, .u16 m.stale, .u16 m.count.toNat]⟩
  | none, _ => ⟨s, .badValue, []⟩
  | some _, none => ⟨s, .badValue, []⟩

/-- MARK_SET. -/
def execMarkSet (p : PortId) (s : State) : Host.Outcome State Fault Refusal :=
  s.live fun s => s.act p .markSet markSetRule

/-! ### REPLAY_CLEAR (R167) -/

/-- A trunk whose replay queue is emptied by REPLAY_CLEAR; its planned chunks are skipped (R167,
R177). -/
def Trunk.clearReplay (r : Trunk) : Trunk :=
  { r with
    replay := []
    allocation := r.allocation.map fun a => { a with plan := a.plan.map fun _ => none } }

/-- An OPEN stream withdrawn and CLOSED by REPLAY_CLEAR. -/
def State.withdrawClosed (s : State) (k : StreamId) : State :=
  let s := s.withdraw k
  s.setStream k { s.stream k with state := .closed }

/-- A DRAINING stream CLOSED by REPLAY_CLEAR. -/
def State.closeDraining (s : State) (k : StreamId) : State :=
  match (s.stream k).state with
  | .draining => s.setStream k { s.stream k with state := .closed }
  | .opened => s
  | .closed => s

/-- Steps 1 to 3 of REPLAY_CLEAR: the replay queues, the release queue and the pool are emptied. The
renditions of step 1 go with the descriptors at step 3. -/
def State.clearSegments (s : State) : State :=
  let s := s.each allTrunks fun s t => s.setTrunk t (s.trunk t).clearReplay
  let s := { s with release := [] }
  s.each s.descs.keys State.freeCore

/-- REPLAY_CLEAR's own rule (R167). -/
def replayClearRule (_ : List Byte) (s : State) : Answer :=
  let freed := s.descs.size
  let s := s.clearSegments
  let s := s.each s.openStreams State.withdrawClosed
  ⟨s.each allStreams State.closeDraining, .ok, [.u16 freed]⟩

/-- REPLAY_CLEAR. -/
def execReplayClear (p : PortId) (s : State) : Host.Outcome State Fault Refusal :=
  s.live fun s => s.act p .replayClear replayClearRule

/-! ### STREAM_QUERY (R168) -/

/-- The upload in progress of a STREAM_QUERY: one presence byte before the six fields as a group, which
are sent, with free bytes, when there is none; the manual does not speak of a group (log entry 20). -/
def uploadFields (u : Option (DescIx × Desc × Nat)) : List Field :=
  let f := fun (g : DescIx × Desc × Nat → Nat) => u.map g
  [.u8 (bit u.isSome), ⟨1, f fun x => x.1⟩, ⟨2, f fun x => x.2.1.sequence.toNat⟩,
   ⟨2, f fun x => x.2.1.mark.toNat⟩, ⟨2, f fun x => x.2.1.nL⟩, ⟨2, f fun x => x.2.1.nX⟩,
   ⟨2, f fun x => x.2.2⟩]

/-- The entry of a HELD or RELEASED descriptor (R168). That d is sent as its 16-bit value, and that a
HELD entry leaves out the reference count and the fields per trunk, which R168 lists for RELEASED, with
no presence byte, is the model's choice (log entry 20). -/
def descFields (count : Mark) (d : DescIx) (r : Desc) : List Field :=
  [.u8 d, .u8 r.state.code, .u16 r.sequence.toNat, .u16 r.mark.toNat, .u16 (count - r.mark).toNat]
    ++ match r.state with
      | .released refs cs =>
        .u8 refs :: allTrunks.flatMap fun t =>
          [.u8 (cs[t.val]).rendition.code, .u16 (cs[t.val]).remaining]
      | .held => []
      | .uploading _ => []

/-- A descriptor is HELD or RELEASED. -/
def Desc.settled (r : Desc) : Bool :=
  match r.state with
  | .held => true
  | .released _ _ => true
  | .uploading _ => false

/-- STREAM_QUERY's own rule (R168). -/
def streamQueryRule (b : List Byte) (s : State) : Answer :=
  onStream b s fun k =>
    let r := s.stream k
    let ds := s.descs.entries.filter fun e => e.2.stream == k && e.2.settled
    ⟨s, .ok,
      [.u8 r.state.code] ++ optField 2 (r.lastSeq.map BitVec.toNat) ++ [.u16 r.inUse, .u16 r.unwatched]
        ++ uploadFields (s.upload? k)
        ++ .u16 ds.length :: ds.flatMap (fun e => descFields s.marks.count e.1 e.2)
        ++ [.u16 s.marks.count.toNat, .u8 s.marks.source.code, .u8 s.marks.mode.code,
            .u16 s.marks.period, .u16 s.marks.stale]
        ++ optField 4 (s.grace.map (elapsed s.now))⟩

/-- STREAM_QUERY. -/
def execStreamQuery (p : PortId) (s : State) : Host.Outcome State Fault Refusal :=
  s.live fun s => s.act p .streamQuery streamQueryRule

end Sys2Proof.Machine
end

