-- ==== Sys2Proof/Machine/Trunks.lean ====
section
/-! DEFINITION. Row trunks: activation states, timeouts, the auto-standby idle timer and the trunk
commands (Chapter 2). -/
namespace Sys2Proof.Machine

/-- The wake, align and LOST give-up timeouts, 1,000 ms, in units of sector time (R24, R25, R28). -/
def trunkTimeout : Nat := 250

/-! ### The auto-standby idle timer (R30) -/

/-- No cell of the trunk has an attached or incoming station. -/
def State.trunkEmpty (s : State) (t : TrunkId) : Bool :=
  (cellsOf t).all fun c => (s.cell c).attached == 0 && (s.cell c).incoming == 0

/-- The three conditions under which the idle timer runs (R30). -/
def State.idleHolds (s : State) (t : TrunkId) : Bool :=
  (s.trunk t).state == .active && (s.trunk t).idlePeriod != 0 && s.trunkEmpty t

/-- The idle timer after an event that may change its conditions: it starts from now when they come to
hold, runs on while they hold, and stops when they do not (R30). -/
def State.idleUpdate (s : State) (t : TrunkId) : State :=
  let r := s.trunk t
  if s.idleHolds t then
    match r.idle with
    | some _ => s
    | none => s.setTrunk t { r with idle := some s.now }
  else s.setTrunk t { r with idle := none }

/-! ### Entering and leaving states (R22 to R29) -/

/-- A trunk that stops framing: the held echo and ack are discarded unsent (R38), the allocation ends
(R177), nothing is on the line. The first frame after framing begins again is frame 0 (R17). -/
def Trunk.stopFraming (r : Trunk) : Trunk :=
  { r with
    nextFrame := 0, mfTaken := false, markField := none, awaiting := false, polled := none
    marker := false, fails := 0, echo := .idle, ack := 0, allocation := none, frame := none }

/-- A configured cell that becomes UNHEARD with its trunk. From another state its miss count, accepted
code and candidate take their values; one already UNHEARD keeps its miss count (R67, log entry 7). -/
def Cell.unhear (r : Cell) : Cell :=
  match r.live with
  | .unheard => r
  | .live => { r with live := .unheard, miss := 0, accepted := .radioOff, candidate := none }
  | .silent => { r with live := .unheard, miss := 0, accepted := .radioOff, candidate := none }

/-- Every configured cell of a trunk becomes UNHEARD (R29, R67). -/
def State.unhearCells (s : State) (t : TrunkId) : State :=
  s.each (cellsOf t) fun s c => s.modCell c Cell.unhear

/-- The record of a trunk that passes to OFF, STANDBY or WAKING: framing and the idle timer stop and
the control queue is discarded (R29, R172). -/
def Trunk.quit (r : Trunk) (dest : TrunkState) (entry : Option Time) : Trunk :=
  { r.stopFraming with state := dest, entry := entry, idle := none, control := [] }

/-- A trunk passes to OFF, STANDBY or WAKING (R22, R24, R25, R28, R29, R34). Its cells become UNHEARD
when it came from ACTIVE or LOST; from ACTIVE its replay queue is flushed and the exit is handed to
the Fan-out Table. -/
def State.quitTrunk (s : State) (t : TrunkId) (dest : TrunkState) (entry : Option Time) : State :=
  let from_ := (s.trunk t).state
  let s := s.setTrunk t ((s.trunk t).quit dest entry)
  match from_ with
  | .active => ((s.unhearCells t).flushReplay t).recomputeAll
  | .lost => s.unhearCells t
  | .aligning => s
  | .waking => s
  | .standby => s
  | .off => s

/-- A change of state that no trunk command made is reported by TRUNK_STATE (R31). -/
def State.trunkNotice (s : State) (t : TrunkId) (from_ dest : TrunkState) (why : TrunkReason) : State :=
  s.notify .W (.trunkState t from_ dest why)

/-- Entry into WAKING (R23). From now on the line carries wake frames (`State.trunkLine`). -/
def State.enterWaking (s : State) (t : TrunkId) : State :=
  s.setTrunk t { s.trunk t with state := .waking, entry := some s.now }

/-- Entry into ALIGNING: framing begins at frame 0 (R17, R24). -/
def State.enterAligning (s : State) (t : TrunkId) : State :=
  s.setTrunk t { (s.trunk t).stopFraming with state := .aligning, entry := some s.now, good := 0 }

/-- Entry into ACTIVE from ALIGNING or LOST (R26). -/
def State.enterActive (s : State) (t : TrunkId) (why : TrunkReason) : State :=
  let from_ := (s.trunk t).state
  let s := s.setTrunk t { s.trunk t with state := .active, entry := none, bad := 0 }
  ((s.trunkNotice t from_ .active why).recomputeAll).idleUpdate t

/-- Entry into LOST from ACTIVE (R27): stamp and good count, replay flush, TRUNK_STATE, the ALIGN_LOSS
flag, the exit handed to the Fan-out Table. The allocation ends (R177) and the idle timer stops. -/
def State.enterLost (s : State) (t : TrunkId) : State :=
  let s := s.setTrunk t { s.trunk t with
    state := .lost, entry := some s.now, good := 0, bad := 2, allocation := none, idle := none }
  let s := (s.flushReplay t).trunkNotice t .active .lost .alignLoss
  (s.raiseFlag t .alignLoss).recomputeAll

/-- A timeout of a trunk in a state has come: 1,000 ms since the entry stamp. -/
def State.trunkTimeoutDue (s : State) (t : TrunkId) : Bool :=
  match (s.trunk t).entry with
  | some stamp => decide (trunkTimeout ≤ elapsed s.now stamp)
  | none => false

/-! ### Trunk events -/

/-- WAKE_SIGNAL: acted on in STANDBY with auto-wake on, ignored otherwise (R23). -/
def execWakeSignal (t : TrunkId) (s : State) : Host.Outcome State Fault Refusal :=
  s.live fun s =>
    match (s.trunk t).state with
    | .standby =>
      if (s.trunk t).autoWake then (s.enterWaking t).trunkNotice t .standby .waking .wakeSignal else s
    | .off => s
    | .waking => s
    | .aligning => s
    | .active => s
    | .lost => s

/-- UPSTREAM_SIGNAL_DETECTED: WAKING to ALIGNING (R24). -/
def execUpstreamSignalDetected (t : TrunkId) (s : State) : Host.Outcome State Fault Refusal :=
  s.live fun s =>
    match (s.trunk t).state with
    | .waking => (s.enterAligning t).trunkNotice t .waking .aligning .answered
    | .off => s
    | .standby => s
    | .aligning => s
    | .active => s
    | .lost => s

/-- WAKE_TIMEOUT: WAKING to STANDBY after 1,000 ms (R24). -/
def execWakeTimeout (t : TrunkId) (s : State) : Host.Outcome State Fault Refusal :=
  s.live fun s =>
    match (s.trunk t).state with
    | .waking =>
      if s.trunkTimeoutDue t then (s.quitTrunk t .standby none).trunkNotice t .waking .standby .noAnswer
      else s
    | .off => s
    | .standby => s
    | .aligning => s
    | .active => s
    | .lost => s

/-- ALIGN_TIMEOUT: ALIGNING to WAKING after 1,000 ms, with a new entry stamp (R25). -/
def execAlignTimeout (t : TrunkId) (s : State) : Host.Outcome State Fault Refusal :=
  s.live fun s =>
    match (s.trunk t).state with
    | .aligning =>
      if s.trunkTimeoutDue t then
        (s.quitTrunk t .waking (some s.now)).trunkNotice t .aligning .waking .alignTimeout
      else s
    | .off => s
    | .standby => s
    | .waking => s
    | .active => s
    | .lost => s

/-- LOST_GIVE_UP: LOST to WAKING after 1,000 ms; the control queue is discarded and the cells become
UNHEARD (R28, R29). -/
def execLostGiveUp (t : TrunkId) (s : State) : Host.Outcome State Fault Refusal :=
  s.live fun s =>
    match (s.trunk t).state with
    | .lost =>
      if s.trunkTimeoutDue t then
        (s.quitTrunk t .waking (some s.now)).trunkNotice t .lost .waking .gaveUp
      else s
    | .off => s
    | .standby => s
    | .waking => s
    | .aligning => s
    | .active => s

/-- IDLE_TIMER_EXPIRY: ACTIVE to STANDBY when the idle timer has run for the period (R30). -/
def execIdleTimerExpiry (t : TrunkId) (s : State) : Host.Outcome State Fault Refusal :=
  s.live fun s =>
    match (s.trunk t).state, (s.trunk t).idle with
    | .active, some stamp =>
      if (s.trunk t).idlePeriod * unitsPerSecond ≤ elapsed s.now stamp then
        (s.quitTrunk t .standby none).trunkNotice t .active .standby .idle
      else s
    | .active, none => s
    | .off, _ => s
    | .standby, _ => s
    | .waking, _ => s
    | .aligning, _ => s
    | .lost, _ => s

/-! ### Trunk commands (R32 to R34, R36) -/

/-- A command that names a trunk: 8 or above is NO_SUCH before any other check (R32). -/
def onTrunk (b : List Byte) (s : State) (f : TrunkId → Answer) : Answer :=
  match trunkField (byteAt b 0) with
  | none => ⟨s, .noSuch, []⟩
  | some t => f t

/-- The trunk's state as a response field (R32). -/
def State.stateField (s : State) (t : TrunkId) : Field := .u8 (s.trunk t).state.code

/-- The five settings as response fields (R33). -/
def Trunk.settings (r : Trunk) : List Field :=
  [.u8 (bit r.enable), .u8 (bit r.autoWake), .u16 r.idlePeriod, .u8 (bit r.markCarriage), .u16 r.rmin]

/-- The settings stored by TRUNK_SET. A change from one non-zero idle period to another restarts a
running timer from now (R30, R33). -/
def Trunk.store (r : Trunk) (now : Time) (enable autoWake : Bool) (period : Nat) (marks : Bool)
    (rmin : Nat) : Trunk :=
  { r with
    enable := enable, autoWake := autoWake, idlePeriod := period, markCarriage := marks, rmin := rmin
    idle := if period ≠ r.idlePeriod then r.idle.map fun _ => now else r.idle }

/-- Enable off: the trunk enters OFF from any other state, with its intake queue discarded and its
urgent set cleared (R22). -/
def State.disable (s : State) (t : TrunkId) : State :=
  match (s.trunk t).state with
  | .off => s
  | .standby | .waking | .aligning | .active | .lost =>
    let s := s.quitTrunk t .off none
    s.setTrunk t { s.trunk t with intake := [], urgent := [] }

/-- Enable on: a trunk in OFF enters STANDBY (R22). -/
def State.enable (s : State) (t : TrunkId) : State :=
  match (s.trunk t).state with
  | .off => s.setTrunk t { s.trunk t with state := .standby }
  | .standby => s
  | .waking => s
  | .aligning => s
  | .active => s
  | .lost => s

/-- TRUNK_SET's own rule (R33). -/
def trunkSetRule (b : List Byte) (s : State) : Answer :=
  onTrunk b s fun t =>
    match onOff (byteAt b 1), onOff (byteAt b 2), onOff (byteAt b 6) with
    | some en, some aw, some mc =>
      let r := (s.trunk t).store s.now en aw (min 3600 (numAt b 4 2)) mc (min 320 (numAt b 8 2))
      let s := (s.setTrunk t r).idleUpdate t
      let s := if en then s.enable t else s.disable t
      ⟨s, .ok, (s.trunk t).settings ++ [s.stateField t]⟩
    | _, _, _ => ⟨s, .badValue, []⟩

/-- TRUNK_SET. -/
def execTrunkSet (p : PortId) (s : State) : Host.Outcome State Fault Refusal :=
  s.live fun s => s.act p .trunkSet trunkSetRule

/-- TRUNK_START's own rule (R34). -/
def trunkStartRule (b : List Byte) (s : State) : Answer :=
  onTrunk b s fun t =>
    match (s.trunk t).state with
    | .off => ⟨s, .wrongState, []⟩
    | .standby => ⟨s.enterWaking t, .ok, [.u8 TrunkState.waking.code]⟩
    | .waking | .aligning | .active | .lost => ⟨s, .ok, [s.stateField t]⟩

/-- TRUNK_START. -/
def execTrunkStart (p : PortId) (s : State) : Host.Outcome State Fault Refusal :=
  s.live fun s => s.act p .trunkStart trunkStartRule

/-- A trunk put into STANDBY by command from any state but OFF (R34). -/
def State.standDown (s : State) (t : TrunkId) : State :=
  match (s.trunk t).state with
  | .off => s
  | .standby => s
  | .waking | .aligning | .active | .lost => s.quitTrunk t .standby none

/-- TRUNK_STANDBY's own rule (R34). -/
def trunkStandbyRule (b : List Byte) (s : State) : Answer :=
  onTrunk b s fun t =>
    match (s.trunk t).state with
    | .off => ⟨s, .wrongState, []⟩
    | .standby | .waking | .aligning | .active | .lost =>
      let s := s.standDown t
      ⟨s, .ok, [s.stateField t]⟩

/-- TRUNK_STANDBY. -/
def execTrunkStandby (p : PortId) (s : State) : Host.Outcome State Fault Refusal :=
  s.live fun s => s.act p .trunkStandby trunkStandbyRule

/-- The reset effects of TRUNK_RESET: intake queue, urgent set, regular position, error flags (R34). -/
def Trunk.clean (r : Trunk) : Trunk :=
  { r with intake := [], urgent := [], regular := 0, flags := .clear }

/-- TRUNK_RESET's own rule (R34). -/
def trunkResetRule (b : List Byte) (s : State) : Answer :=
  onTrunk b s fun t =>
    match (s.trunk t).state with
    | .off => ⟨s, .wrongState, []⟩
    | .standby | .waking | .aligning | .active | .lost =>
      let s := s.standDown t
      let s := s.setTrunk t (s.trunk t).clean
      ⟨s, .ok, [s.stateField t]⟩

/-- TRUNK_RESET. -/
def execTrunkReset (p : PortId) (s : State) : Host.Outcome State Fault Refusal :=
  s.live fun s => s.act p .trunkReset trunkResetRule

/-- The snapshot of TRUNK_QUERY (R36). -/
def State.trunkSnapshot (s : State) (t : TrunkId) : List Field :=
  let r := s.trunk t
  [.u8 r.state.code] ++ r.settings
    ++ [.u8 r.flags.byte, .u8 r.good, .u8 r.bad, .u8 (bit r.holdSent), .u8 r.intake.length,
        .u8 r.urgent.length, .u16 r.control.length, .u16 r.replay.length, .u32 (s.chunksLeft t)]
    ++ optField 4 (r.idle.map (elapsed s.now))

/-- TRUNK_QUERY's own rule: the flags are reported as they stood, then cleared when asked (R36). -/
def trunkQueryRule (b : List Byte) (s : State) : Answer :=
  onTrunk b s fun t =>
    match onOff (byteAt b 1) with
    | none => ⟨s, .badValue, []⟩
    | some false => ⟨s, .ok, s.trunkSnapshot t⟩
    | some true => ⟨s.setTrunk t { s.trunk t with flags := .clear }, .ok, s.trunkSnapshot t⟩

/-- TRUNK_QUERY. -/
def execTrunkQuery (p : PortId) (s : State) : Host.Outcome State Fault Refusal :=
  s.live fun s => s.act p .trunkQuery trunkQueryRule

end Sys2Proof.Machine
end

