-- ==== Sys2Proof/Machine/Stations.lean ====
section
/-! DEFINITION. The station table (Chapter 6): cell counts, removal, aging, seat grace and fencing,
steer-hold expiry, STATION_DETACH, STATION_CLEAR and STATION_QUERY. -/
namespace Sys2Proof.Machine

/-- Places of the Station Table (R85). -/
def stationCapacity : Nat := 16384

/-! ### The counts of a cell (R71) -/

/-- S raised by 1. -/
def Cell.gain (r : Cell) : Cell := { r with attached := r.attached + 1 }
/-- S lowered by 1. -/
def Cell.lose (r : Cell) : Cell := { r with attached := r.attached - 1 }
/-- The incoming count raised by 1. -/
def Cell.expect (r : Cell) : Cell := { r with incoming := r.incoming + 1 }
/-- The incoming count lowered by 1. -/
def Cell.unexpect (r : Cell) : Cell := { r with incoming := r.incoming - 1 }
/-- A roam toward the cell completes: one unit moves from incoming to S. -/
def Cell.arrive (r : Cell) : Cell :=
  { r with attached := r.attached + 1, incoming := r.incoming - 1 }

/-- A change of a cell's counts, handed to the cell's Trunk Head (R30, R71). -/
def State.countCell (s : State) (c : CellId) (f : Cell → Cell) : State :=
  (s.modCell c f).idleUpdate (trunkOf c)

/-! ### Settling at a cell (R58, R96, R98, R112) -/

/-- Binding and seat-grace start of a station that has just settled at a cell, from the kinds of the
cell it was at and the cell it is at. -/
def Station.settle (r : Station) (now : Time) (before after : CellKind) : Station :=
  match r.binding, before, after with
  | .unbound, .concourse, .seat => { r with grace := some now }
  | .unbound, .seat, .seat => r
  | .unbound, _, .concourse => { r with grace := none }
  | .fenced, _, .concourse => { r with binding := .unbound, grace := none }
  | .fenced, _, .seat => r
  | .bound _, _, _ => r

/-! ### Unbinding and release of tickets (R123, R135) -/

/-- A station whose binding ends while it stays in the table: UNBOUND, with a fresh seat grace at a
SEAT cell (R123 steps 2 and 3). -/
def Station.unbind (r : Station) (now : Time) (kind : CellKind) : Station :=
  match kind with
  | .seat => { r with binding := .unbound, grace := some now }
  | .concourse => { r with binding := .unbound, grace := none }

/-- Steps 2 to 5 of an unbinding (R123). The ticket's state is set by the event that unbinds. -/
def State.unbindStation (s : State) (i : StationIx) : State :=
  match s.station? i with
  | none => s
  | some r => (s.putStation i (r.unbind s.now (s.cell r.cell).kind)).retier i

/-- The ticket of a removed station returns to ADMITTED, with TICKET_RELEASED (R90 step 3, R135). -/
def State.releaseTicket (s : State) (i : StationIx) (b : Binding) (cause : Cause) : State :=
  match b with
  | .bound k =>
    match s.ticket? k with
    | some t =>
      (s.putTicket k { t with state := .admitted }).notify .T (.ticketReleased k i cause t.home)
    | none => s
  | .unbound => s
  | .fenced => s

/-! ### Removal (R90) -/

/-- Step 2 of a removal: the counts of the current cell, and of the pending cell of a roam. -/
def State.leaveCells (s : State) (r : Station) : State :=
  let s := s.countCell r.cell Cell.lose
  match r.roam with
  | some m => s.countCell m.pending Cell.unexpect
  | none => s

/-- The removal of a station (R90): subscriptions, cell counts, ticket, index. -/
def State.remove (s : State) (i : StationIx) (cause : Cause) : State :=
  match s.station? i with
  | none => s
  | some r =>
    let s := s.leaveCounts r.cell r.tier r.subs
    let s := (s.putStation i { r with subs := [] }).recomputeEach r.subs
    let s := (s.leaveCells r).releaseTicket i r.binding cause
    { s with stations := s.stations.del i }

/-- AGE_EXPIRY: a SETTLED station unheard for the age limit is removed, with DETACH to its cell
(R92). -/
def execAgeExpiry (i : StationIx) (s : State) : Host.Outcome State Fault Refusal :=
  s.live fun s =>
    match s.station? i with
    | none => s
    | some r =>
      match r.roam with
      | some _ => s
      | none =>
        if s.timers.ageLimit * unitsPerSecond ≤ elapsed s.now r.lastHeard then
          (s.remove i .aged).tell r.cell (.detach (some i) .aged)
        else s

/-! ### Choosing a cell by score (R97, R107) -/

/-- A cell stands before another: lower L, then lower id. -/
def State.better (s : State) (c d : CellId) : Bool :=
  decide ((s.cell c).score < (s.cell d).score ∨ ((s.cell c).score = (s.cell d).score ∧ c < d))

/-- The cell that stands first among some cells. -/
def State.best (s : State) : List CellId → Option CellId
  | [] => none
  | c :: cs =>
    match s.best cs with
    | none => some c
    | some d => if s.better d c then some d else some c

/-! ### Seat grace (R96 to R98) -/

/-- The fence target of a cell: an admitting CONCOURSE neighbour with the lowest L (R97). -/
def State.fenceTarget (s : State) (c : CellId) : Option CellId :=
  s.best ((s.cell c).neighbours.filter fun n => s.admitting n && !(s.cell n).isSeat)

/-- The fence steer of a SETTLED station (R97 step 3). -/
def State.fenceSteer (s : State) (r : Station) : State :=
  match r.roam, s.fenceTarget r.cell with
  | none, some n => s.tell r.cell (.steer r.address n)
  | none, none => s
  | some _, _ => s

/-- SEAT_GRACE_EXPIRY: the station becomes FENCED and may be steered to the concourse (R97). -/
def execSeatGraceExpiry (i : StationIx) (s : State) : Host.Outcome State Fault Refusal :=
  s.live fun s =>
    match s.station? i with
    | none => s
    | some r =>
      match r.grace with
      | none => s
      | some stamp =>
        if s.timers.seatGrace * unitsPerSecond ≤ elapsed s.now stamp then
          ((s.putStation i { r with binding := .fenced, grace := none }).retier i).fenceSteer r
        else s

/-- STEER_HOLD_EXPIRY: the hold's end time has come and the field becomes absent (R99). -/
def execSteerHoldExpiry (i : StationIx) (s : State) : Host.Outcome State Fault Refusal :=
  s.live fun s =>
    match s.station? i with
    | none => s
    | some r =>
      match r.steerHold with
      | none => s
      | some due => if timeReached s.now due then s.putStation i { r with steerHold := none } else s

/-! ### STATION_DETACH, STATION_CLEAR, STATION_QUERY -/

/-- DETACH with reason DETACHED to the current cell, and to the pending cell of a roam (R94). -/
def State.tellDetached (s : State) (i : StationIx) (r : Station) : State :=
  let s := s.tell r.cell (.detach (some i) .detached)
  match r.roam with
  | some m => s.tell m.pending (.detach (some i) .detached)
  | none => s

/-- STATION_DETACH's own rule (R94). -/
def stationDetachRule (b : List Byte) (s : State) : Answer :=
  let i := numAt b 0 2
  match s.station? i with
  | none => ⟨s, .noSuch, []⟩
  | some r =>
    if r.address.toNat = numAt b 2 6 then ⟨(s.remove i .detached).tellDetached i r, .ok, []⟩
    else ⟨s, .noSuch, []⟩

/-- STATION_DETACH. -/
def execStationDetach (p : PortId) (s : State) : Host.Outcome State Fault Refusal :=
  s.live fun s => s.act p .stationDetach stationDetachRule

/-- The ACTIVE and LOST trunks, 0 to 7. -/
def State.servingTrunks (s : State) : List TrunkId := allTrunks.filter fun t => (s.trunk t).state.serving

/-- STATION_CLEAR's own rule: every live station is removed in ascending index, then one all-stations
DETACH goes to each ACTIVE or LOST trunk (R95). R95 gives the trunks no order; that they are taken from
0 to 7 is the model's choice (log entry 26). -/
def stationClearRule (_ : List Byte) (s : State) : Answer :=
  let n := s.stations.size
  let s := s.each s.stations.keys fun s i => s.remove i .cleared
  ⟨s.each s.servingTrunks fun s t => s.tellAll t (.detach none .cleared), .ok, [.u16 n]⟩

/-- STATION_CLEAR. -/
def execStationClear (p : PortId) (s : State) : Host.Outcome State Fault Refusal :=
  s.live fun s => s.act p .stationClear stationClearRule

/-- Mobility as a number (Chapter 12.1). -/
def Station.mobility (r : Station) : Nat := bit r.roam.isSome

/-- The bound ticket of a binding (R85). -/
def Binding.ticket : Binding → Option Token
  | .bound k => some k
  | .unbound => none
  | .fenced => none

/-- The record of STATION_QUERY, followed by the sector time of the query (R85, R100). -/
def State.stationRecord (s : State) (i : StationIx) (r : Station) : List Field :=
  [.u16 i, .u48 r.address.toNat, .u8 r.mobility, .u8 r.cell]
    ++ optField 1 (r.roam.map Roam.pending) ++ optField 4 (r.roam.map fun m => m.start.toNat)
    ++ [.u8 r.binding.code] ++ optField 8 (r.binding.ticket.map BitVec.toNat)
    ++ .u8 r.subs.length :: r.subs.map (fun k => .u8 k.val)
    ++ [.u8 r.tier.code, .u32 r.lastHeard.toNat]
    ++ optField 4 (r.grace.map BitVec.toNat) ++ optField 4 (r.steerHold.map BitVec.toNat)
    ++ [.u32 s.now.toNat]

/-- The record a STATION_QUERY names: by index or by address (R100). -/
def State.selected (s : State) (b : List Byte) : Option (StationIx × Station) :=
  if byteAt b 0 = 0 then (s.station? (numAt b 2 2)).map fun r => (numAt b 2 2, r)
  else s.stationAt? (BitVec.ofNat 48 (numAt b 1 6))

/-- STATION_QUERY's own rule (R100). -/
def stationQueryRule (b : List Byte) (s : State) : Answer :=
  if 1 < byteAt b 0 then ⟨s, .badValue, []⟩
  else match s.selected b with
    | none => ⟨s, .noSuch, []⟩
    | some (i, r) => ⟨s, .ok, s.stationRecord i r⟩

/-- STATION_QUERY. -/
def execStationQuery (p : PortId) (s : State) : Host.Outcome State Fault Refusal :=
  s.live fun s => s.act p .stationQuery stationQueryRule

end Sys2Proof.Machine
end

