-- ==== Sys2Proof/Machine/Supervision.lean ====
section
/-! DEFINITION. The commands of cell supervision and load scoring: CELL_SET, CELL_QUERY,
POLL_LIST_SET, POLL_URGENT and LOAD_SET (Chapters 4 and 5). -/
namespace Sys2Proof.Machine

/-! ### CELL_SET (R56 to R59) -/

/-- Bit 0 of the flags byte: configured (Chapter 12.1). -/
def cellOn (b : List Byte) : Bool := byteAt b 1 % 2 == 1
/-- Bit 1 of the flags byte: override present (Chapter 12.1). -/
def overrideOn (b : List Byte) : Bool := byteAt b 1 / 2 % 2 == 1

/-- Checks 2 and 3 of CELL_SET refuse the configuration (R56). -/
def cellSetBad (b : List Byte) : Bool :=
  decide (1 < byteAt b 2 ∨ 63 < byteAt b 3 ∨ 6 < byteAt b 5
    ∨ (overrideOn b = true ∧ (4095 < numAt b 6 2 ∨ 4095 < numAt b 8 2 ∨ numAt b 6 2 ≤ numAt b 8 2)))

/-- Each id that repeats an earlier one removed; the rest keep their order (R56). -/
def keepFirst (seen : List CellId) : List CellId → List CellId
  | [] => []
  | c :: cs => if c ∈ seen then keepFirst seen cs else c :: keepFirst (c :: seen) cs

/-- The carried neighbour ids. -/
def neighbourBytes (b : List Byte) : List CellId := ((b.drop 10).take (byteAt b 5)).map BitVec.toNat

/-- The configuration a CELL_SET carries, written over a record: Cmax 0 clamped to 1, the cell's own
id and repeats removed from the neighbour list (R56). -/
def Cell.configure (r : Cell) (c : CellId) (b : List Byte) : Cell :=
  { r with
    kind := (kindField (byteAt b 2)).getD .seat
    section_ := byteAt b 3
    cmax := max 1 (byteAt b 4)
    neighbours := keepFirst [c] (neighbourBytes b)
    override := if overrideOn b then some (numAt b 6 2, numAt b 8 2) else none }

/-- The configuration as stored, in the layout of the command (R56, log entry 12). -/
def configBody (c : CellId) (on : Bool) (r : Cell) : List Field :=
  [.u8 c, .u8 (bit on + 2 * bit r.override.isSome), .u8 r.kind.code, .u8 r.section_, .u8 r.cmax,
   .u8 r.neighbours.length, ⟨2, r.override.map Prod.fst⟩, ⟨2, r.override.map Prod.snd⟩]
    ++ r.neighbours.map .u8

/-- The stations whose current cell is a cell, in ascending index. -/
def State.stationsAt (s : State) (c : CellId) : List StationIx :=
  (s.stations.entries.filter fun e => e.2.cell == c).map Prod.fst

/-- A station at a cell whose kind or section has changed: seat grace, then tier (R58). -/
def State.resettle (before after : CellKind) (s : State) (i : StationIx) : State :=
  match s.station? i with
  | none => s
  | some r => (s.putStation i (r.settle s.now before after)).retier i

/-- A configured cell's configuration rewritten (R58). -/
def State.rewriteCell (s : State) (c : CellId) (old new : Cell) : State :=
  let s := { s with cells := s.cells.put c new }
  if old.kind = new.kind ∧ old.section_ = new.section_ then s
  else s.each (s.stationsAt c) (State.resettle old.kind new.kind)

/-- A report placed before the removal of a cell, which is to be discarded at its take where the cell
is its sender (R59). -/
def Report.without (c : CellId) (r : Report) : Report := if r.cell = c then { r with orphan := true } else r

/-- A poll issued before the removal of the cell at a position, whose outcome is to have no effect where
that position is the polled one (R59, R64). -/
def Poll.without (pos : Nat) (q : Poll) : Poll := if q.position = pos then { q with orphan := true } else q

/-- A configured cell removed: its record, its place in the urgent set, and what is still to come of it,
the reports placed and the outcome of a poll issued (R59). -/
def State.removeCell (s : State) (c : CellId) : State :=
  let t := trunkOf c
  let r := s.trunk t
  State.setTrunk { s with cells := s.cells.del c } t
    { r with
      urgent := r.urgent.filter (· ≠ positionOf c)
      intake := r.intake.map (Report.without c)
      polled := r.polled.map (Poll.without (positionOf c)) }

/-- CELL_SET's own rule (R56 to R59). -/
def cellSetRule (b : List Byte) (s : State) : Answer :=
  let c := byteAt b 0
  if cellSetBad b then ⟨s, .badValue, []⟩
  else match s.cells.get? c, cellOn b with
    | none, true =>
      let new := Cell.reset.configure c b
      ⟨{ s with cells := s.cells.put c new }, .ok, configBody c true new⟩
    | some old, true =>
      let new := old.configure c b
      ⟨s.rewriteCell c old new, .ok, configBody c true new⟩
    | none, false => ⟨s, .ok, configBody c false .reset⟩
    | some old, false =>
      if 0 < old.attached + old.incoming then ⟨s, .wrongState, []⟩
      else ⟨s.removeCell c, .ok, configBody c false .reset⟩

/-- CELL_SET. -/
def execCellSet (p : PortId) (s : State) : Host.Outcome State Fault Refusal :=
  s.live fun s => s.act p .cellSet cellSetRule

/-! ### CELL_QUERY (R60, R83) -/

/-- The record of a cell with Ceff, admitting and R (R55, R60). The one presence byte before H and Lo is
the model's choice (log entry 20), and Ceff of a cell that is not configured log entry 24. -/
def State.cellRecord (s : State) (c : CellId) : List Field :=
  let r := s.cell c
  [.u8 (bit (s.configured c)), .u8 r.kind.code, .u8 r.section_, .u8 r.cmax]
    ++ .u8 r.neighbours.length :: r.neighbours.map .u8
    ++ [.u8 (bit r.override.isSome), ⟨2, r.override.map Prod.fst⟩, ⟨2, r.override.map Prod.snd⟩,
        .u8 r.live.code, .u8 r.miss, .u8 r.accepted.code, .u8 (candidateCode r.candidate), .u8 r.lastA,
        .u8 r.attached, .u8 r.incoming, .u16 r.score, .u8 r.load.code,
        .u8 r.ceff, .u8 (bit (s.admitting c)), .u8 (s.streamsWatched c)]

/-- CELL_QUERY's own rule (R60). -/
def cellQueryRule (b : List Byte) (s : State) : Answer := ⟨s, .ok, s.cellRecord (byteAt b 0)⟩

/-- CELL_QUERY. -/
def execCellQuery (p : PortId) (s : State) : Host.Outcome State Fault Refusal :=
  s.live fun s => s.act p .cellQuery cellQueryRule

/-! ### The poll sequencer's commands (R61, R63) -/

/-- The carried poll positions. -/
def positionBytes (b : List Byte) : List Nat := ((b.drop 2).take (byteAt b 1)).map BitVec.toNat

/-- POLL_LIST_SET's own rule (R61). -/
def pollListSetRule (b : List Byte) (s : State) : Answer :=
  onTrunk b s fun t =>
    if 32 < byteAt b 1 ∨ (positionBytes b).any (31 < ·) then ⟨s, .badValue, []⟩
    else ⟨s.setTrunk t { s.trunk t with pollList := positionBytes b, regular := 0 }, .ok, []⟩

/-- POLL_LIST_SET. -/
def execPollListSet (p : PortId) (s : State) : Host.Outcome State Fault Refusal :=
  s.live fun s => s.act p .pollListSet pollListSetRule

/-- Positions an urgent set holds (R63). -/
def urgentCapacity : Nat := 4

/-- A position added to a trunk's urgent set: merged, added at the end, or left out when the set is
full (R63). -/
def Trunk.addUrgent (r : Trunk) (pos : Nat) : Trunk :=
  if pos ∈ r.urgent then r
  else if r.urgent.length < urgentCapacity then { r with urgent := r.urgent ++ [pos] }
  else r

/-- POLL_URGENT's own rule: its body gives the outcome, 0 added or 1 merged, and the occupancy after
it (R63). -/
def pollUrgentRule (b : List Byte) (s : State) : Answer :=
  let c := byteAt b 0
  let t := trunkOf c
  let r := s.trunk t
  let after := r.addUrgent (positionOf c)
  if !s.configured c then ⟨s, .noSuch, []⟩
  else if r.state = .off then ⟨s, .wrongState, []⟩
  else if positionOf c ∈ r.urgent then ⟨s, .ok, [.u8 1, .u8 r.urgent.length]⟩
  else if r.urgent.length < urgentCapacity then
    ⟨s.setTrunk t after, .ok, [.u8 0, .u8 after.urgent.length]⟩
  else ⟨s, .full, []⟩

/-- POLL_URGENT. -/
def execPollUrgent (p : PortId) (s : State) : Host.Outcome State Fault Refusal :=
  s.live fun s => s.act p .pollUrgent pollUrgentRule

/-! ### LOAD_SET (R81) -/

/-- The low 12 bits of a 2-byte threshold field (R181). -/
def threshold (b : List Byte) (o : Nat) : Nat := numAt b o 2 % 4096

/-- The settings a LOAD_SET carries, the shift clamped to 4 (R81, Chapter 12.1). -/
def loadSettings (b : List Byte) : LoadSettings where
  wa := byteAt b 0 / 16
  ws := byteAt b 0 % 16
  wr := byteAt b 1 / 16
  k := min 4 (byteAt b 1 / 2 % 8)
  seatH := threshold b 2
  seatLo := threshold b 4
  concH := threshold b 6
  concLo := threshold b 8

/-- The eight values as stored, each in the bytes of its sort (R81, Chapter 12.1). -/
def LoadSettings.body (w : LoadSettings) : List Field :=
  [.u8 w.wa, .u8 w.ws, .u8 w.wr, .u8 w.k, .u16 w.seatH, .u16 w.seatLo, .u16 w.concH, .u16 w.concLo]

/-- LOAD_SET's own rule (R81). -/
def loadSetRule (b : List Byte) (s : State) : Answer :=
  let w := loadSettings b
  if w.seatH ≤ w.seatLo then ⟨s, .badValue, []⟩
  else if w.concH ≤ w.concLo then ⟨s, .badValue, []⟩
  else ⟨{ s with load := w }, .ok, w.body⟩

/-- LOAD_SET. -/
def execLoadSet (p : PortId) (s : State) : Host.Outcome State Fault Refusal :=
  s.live fun s => s.act p .loadSet loadSetRule

end Sys2Proof.Machine
end

