-- ==== Sys2Proof/Machine/Upstream.lean ====
section
/-! DEFINITION. An upstream frame at the part: report slot, poll outcome, poll-answer reports and the
judgment of multiframes (R19, R20, R38 to R49, R64 to R69, R73 to R79, R93). -/
namespace Sys2Proof.Machine

/-- Reports an intake queue holds (R45). -/
def intakeLimit : Nat := 32

/-! ### Placing reports (R43 to R49) -/

/-- A report placed at the tail of the intake queue. -/
def State.place (s : State) (t : TrunkId) (r : Report) : State :=
  let q := s.trunk t
  s.setTrunk t { q with intake := q.intake ++ [r] }

/-- The intake queue has a free entry. -/
def State.intakeFree (s : State) (t : TrunkId) : Bool := decide ((s.trunk t).intake.length < intakeLimit)

/-- The echo held for the next header. -/
def State.setEcho (s : State) (t : TrunkId) (e : Echo) : State :=
  s.setTrunk t { s.trunk t with echo := e }

/-- An URGENT report adds its position to the trunk's urgent set (R49). -/
def State.routeUrgent (s : State) (t : TrunkId) (c : CellId) : State :=
  s.setTrunk t ((s.trunk t).addUrgent (positionOf c))

/-- The report is an URGENT. -/
def ReportBody.isUrgent : ReportBody → Bool
  | .urgent => true
  | .assoc _ _ => false
  | .depart _ => false
  | .presentTicket _ _ => false
  | .subscribe _ _ => false
  | .unsubscribe _ _ => false

/-- A garbled report slot: GARBLED_REPORT and echo GARBLED (R40, R43). -/
def State.garbledSlot (s : State) (t : TrunkId) : State :=
  (s.raiseFlag t .garbledReport).setEcho t .garbled

/-- A whole report in the report slot: unknown sender, URGENT, placed, or refused for want of room
(R40, R44, R46, R49). -/
def State.settleReport (s : State) (t : TrunkId) (r : Report) : State :=
  if !s.configured r.cell then (s.raiseFlag t .unknownCell).setEcho t (.position (positionOf r.cell))
  else if r.body.isUrgent then (s.routeUrgent t r.cell).setEcho t (.position (positionOf r.cell))
  else if s.intakeFree t then (s.place t r).setEcho t (.position (positionOf r.cell))
  else s.setEcho t .idle

/-- The report slot settled and the echo formed (R38 step 1, R40). -/
def State.settleSlot (s : State) (t : TrunkId) (i : SlotInput) : State :=
  match i with
  | .silent => s.setEcho t .idle
  | .damaged => s.garbledSlot t
  | .report b =>
    match parseReport t b with
    | none => s.garbledSlot t
    | some r => s.settleReport t r

/-- The reports of a received poll answer, considered in order until one is not accepted; answers how
many were accepted (R48). `known` says that the answering cell is configured and was not removed
since the poll was issued (R44, R64), `ok` are the outcomes of the report checks. -/
def State.considerReports (s : State) (t : TrunkId) (known : Bool) :
    List (List Byte) → List Bool → State × Nat
  | [], _ => (s, 0)
  | b :: bs, ok =>
    match (if ok.headD false then parseReport t b else none) with
    | none => (s.raiseFlag t .garbledReport, 0)
    | some r =>
      if !known || !s.configured r.cell then
        let a := (s.raiseFlag t .unknownCell).considerReports t known bs ok.tail
        (a.1, a.2 + 1)
      else if r.body.isUrgent then
        let a := (s.routeUrgent t r.cell).considerReports t known bs ok.tail
        (a.1, a.2 + 1)
      else if s.intakeFree t then
        let a := (s.place t r).considerReports t known bs ok.tail
        (a.1, a.2 + 1)
      else (s, 0)

/-! ### The status part of a poll answer (R66) -/

/-- Step 1, liveness: the miss count is 0, the cell LIVE, and CELL_HEARD when it was SILENT (R66). -/
def State.heardCell (s : State) (c : CellId) : State :=
  let was := (s.cell c).live
  let s := s.modCell c fun r => { r with miss := 0, live := .live }
  match was with
  | .silent => s.notify .W (.cellHeard c)
  | .unheard => s
  | .live => s

/-- A code accepted: CELL_CONDITION, and the demand of the watched streams recomputed where OVERTEMP
comes or goes (R69). -/
def State.acceptCode (s : State) (c : CellId) (code : Condition) : State :=
  let before := (s.cell c).accepted
  let s := s.modCell c fun r => { r with accepted := code, candidate := some code }
  let s := s.notify .W (.cellCondition c before code (s.cell c).ceff)
  if before = .overtemp ∨ code = .overtemp then s.recomputeWatched c else s

/-- Step 2, the double look (R68). -/
def State.doubleLook (s : State) (c : CellId) (code : Nat) : State :=
  match Condition.ofCode code with
  | none => s.modCell c fun r => { r with candidate := none }
  | some x =>
    if (s.cell c).accepted = x then s.modCell c fun r => { r with candidate := some x }
    else if (s.cell c).candidate = some x then s.acceptCode c x
    else s.modCell c fun r => { r with candidate := some x }

/-- A cell's record after a load update with R streams watched (R73 to R78). -/
def Cell.loadUpdate (r : Cell) (w : LoadSettings) (airtime streams : Nat) : Cell :=
  let score := smooth w.k r.score (instantScore w airtime r.occupancy streams)
  { r with lastA := airtime, score := score, load := nextLoad (thresholds w r) r.load score }

/-- Step 3, the load update: a change of load state queues CELL_LOAD and every sector demand is
recomputed (R73, R79). -/
def State.scoreCell (s : State) (c : CellId) (airtime : Nat) : State :=
  let before := s.cell c
  let after := before.loadUpdate s.load airtime (s.streamsWatched c)
  let s := s.modCell c fun _ => after
  if after.load = before.load then s
  else (s.notify .W (.cellLoad c after.load after.score)).recomputeAll

/-- Step 4, one index of the heard list (R93). -/
def State.hearStation (c : CellId) (s : State) (i : StationIx) : State :=
  match s.station? i with
  | some r =>
    if r.cell = c ∨ r.pendingAt c = true then s.putStation i { r with lastHeard := s.now } else s
  | none => s

/-- The status part of a received answer (R66). -/
def State.takeStatus (s : State) (c : CellId) (a : PollAnswer) : State :=
  (((s.heardCell c).doubleLook c a.code).scoreCell c a.airtime).each a.heard (State.hearStation c)

/-- The miss count raised by 1, saturating at 15 (R65). -/
def Cell.missPoll (r : Cell) : Cell := { r with miss := saturate 15 (r.miss + 1) }

/-- A poll of a configured cell with no answer (R65). -/
def State.pollMissed (s : State) (c : CellId) : State :=
  let r := (s.cell c).missPoll
  let s := s.modCell c Cell.missPoll
  match r.live with
  | .silent => s
  | .live | .unheard =>
    if s.timers.silence ≤ r.miss then
      (s.modCell c fun r => { r with live := .silent }).notify .W (.cellSilent c r.live r.miss)
    else s

/-! ### The poll outcome (R19, R38 step 2, R64) -/

/-- The poll ack count held for the next header. -/
def State.setAck (s : State) (t : TrunkId) (n : Nat) : State := s.setTrunk t { s.trunk t with ack := n }

/-- The received answer to a poll: the frame passes its check and the answer names the polled position
(R19, R182). -/
def received (pos : Nat) (u : UpFrame) : Option PollAnswer :=
  if u.checkOk then
    match parseAnswer u.answer with
    | some a => if a.position = pos then some a else none
    | none => none
  else none

/-- A poll settled (R38 step 2, R64): the outcome for a cell removed since the poll was issued is
discarded, and the reports of its answer are handled as from an unknown cell. For a cell removed and
configured again both of R64's cases hold; that the outcome is discarded then too is the model's
reading, by R59 (log entry 27). -/
def State.settlePoll (s : State) (t : TrunkId) (q : Poll) (u : UpFrame) : State :=
  let c := cellAt t q.position
  let known := s.configured c && !q.orphan
  match received q.position u with
  | some a =>
    let s := if known then s.takeStatus c a else s
    let b := s.considerReports t known a.reports u.reportOk
    b.1.setAck t b.2
  | none => (if known then s.pollMissed c else s).setAck t 0

/-- The poll of the frame, if it issued one (R64). -/
def State.settlePolled (s : State) (t : TrunkId) (u : UpFrame) : State :=
  match (s.trunk t).polled with
  | some q => s.settlePoll t q u
  | none => s.setAck t 0

/-! ### Multiframe judgment (R20, R25, R27, R28) -/

/-- A good judgment (R25, R27, R28). -/
def State.judgedGood (s : State) (t : TrunkId) : State :=
  let r := s.trunk t
  match r.state with
  | .aligning =>
    if r.good = 0 then s.setTrunk t { r with good := 1 }
    else (s.setTrunk t { r with good := 2 }).enterActive t .aligned
  | .lost =>
    if r.good = 0 then s.setTrunk t { r with good := 1 }
    else (s.setTrunk t { r with good := 2 }).enterActive t .regained
  | .active => s.setTrunk t { r with bad := 0 }
  | .off => s
  | .standby => s
  | .waking => s

/-- A bad judgment (R25, R27, R28). -/
def State.judgedBad (s : State) (t : TrunkId) : State :=
  let r := s.trunk t
  match r.state with
  | .aligning => s.setTrunk t { r with good := 0 }
  | .lost => s.setTrunk t { r with good := 0 }
  | .active => if r.bad = 0 then s.setTrunk t { r with bad := 1 } else s.enterLost t
  | .off => s
  | .standby => s
  | .waking => s

/-- The multiframe is good: its marker was found and at most one frame failed (R20). -/
def Trunk.multiframeGood (r : Trunk) : Bool := r.marker && decide (r.fails ≤ 1)

/-- The judgment of an upstream multiframe (R20). -/
def State.judge (s : State) (t : TrunkId) : State :=
  if (s.trunk t).multiframeGood then s.judgedGood t else s.judgedBad t

/-- What the Trunk Head records of an upstream frame: the marker at frame 0, a failed frame check, and
that no upstream frame is outstanding (R19, R20). The frame last sent is the one before
`nextFrame`. -/
def Trunk.tally (r : Trunk) (u : UpFrame) : Trunk :=
  { r with
    awaiting := false
    polled := none
    marker := if r.nextFrame = 1 then u.marker else r.marker
    fails := (if r.nextFrame = 1 then 0 else r.fails) + bit (!u.checkOk) }

/-- The report slot and the poll, which in ALIGNING bring nothing (R38). -/
def State.settleFrame (s : State) (t : TrunkId) (u : UpFrame) : State :=
  match (s.trunk t).state with
  | .active | .lost => (s.settleSlot t u.slot).settlePolled t u
  | .aligning => (s.setEcho t .idle).setAck t 0
  | .off => s
  | .standby => s
  | .waking => s

/-- An upstream frame taken: slot, poll, tally, and at frame 15 the judgment (R20, R38). -/
def State.takeUpstream (s : State) (t : TrunkId) (u : UpFrame) : State :=
  let s := s.settleFrame t u
  let s := s.setTrunk t ((s.trunk t).tally u)
  if (s.trunk t).nextFrame = 0 then s.judge t else s

/-- UPSTREAM_FRAME_RECEIVED: the upstream frame of the downstream frame last sent (R38). Where the
trunk is not framing, or that frame has been taken already, there is none. -/
def execUpstreamFrameReceived (t : TrunkId) (u : UpFrame) (s : State) :
    Host.Outcome State Fault Refusal :=
  s.live fun s =>
    if (s.trunk t).state.framing && (s.trunk t).awaiting then s.takeUpstream t u else s

end Sys2Proof.Machine
end

