-- ==== Sys2Proof/Machine/Carriage.lean ====
section
/-! DEFINITION. Trunk carriage and the downstream frame (Chapter 11, R17, R18, R47, R62). -/
namespace Sys2Proof.Machine

/-- Carriage slots of a multiframe. -/
def multiframeSlots : Nat := 368
/-- Carriage slots of a frame. -/
def frameSlots : Nat := 23

/-! ### The multiframe start (R18, R175) -/

/-- The replay floor: min(Dr, Rmin) (R175). -/
def replayFloor (dr rmin : Nat) : Nat := min dr rmin
/-- C, the control slots: min(Q, 368 − floor) (R175). -/
def controlSlots (q dr rmin : Nat) : Nat := min q (multiframeSlots - replayFloor dr rmin)
/-- Rp, the replay slots: min(Dr, 368 − C) (R175). -/
def replaySlots (q dr rmin : Nat) : Nat := min dr (multiframeSlots - controlSlots q dr rmin)

/-- The chunks a descriptor still has to send on a trunk, in chunk order (R173). -/
def State.remainingChunks (s : State) (t : TrunkId) (d : DescIx) : List PlanEntry :=
  match s.desc? d with
  | none => []
  | some r =>
    let left := (r.carry t).remaining
    let n := r.chunks (r.carry t).rendition
    (List.range left).map fun i => ⟨d, n - left + i⟩

/-- The planned chunk list of a multiframe: the first Rp chunks of the replay queue (R175). -/
def State.plan (s : State) (t : TrunkId) (rp : Nat) : List (Option PlanEntry) :=
  (((s.trunk t).replay.flatMap (s.remainingChunks t)).take rp).map some

/-- The allocation made at a multiframe start of an ACTIVE trunk (R175). -/
def State.allocate (s : State) (t : TrunkId) : Allocation :=
  let q := (s.trunk t).control.length
  let dr := s.chunksLeft t
  let rmin := (s.trunk t).rmin
  ⟨controlSlots q dr rmin, replaySlots q dr rmin, s.plan t (replaySlots q dr rmin)⟩

/-- The multiframe start: the mark field is fixed (R18) and an ACTIVE trunk allocates its slots; a
LOST or ALIGNING trunk makes no allocation (R175). -/
def State.startMultiframe (s : State) (t : TrunkId) : State :=
  let r := s.trunk t
  s.setTrunk t { r with
    mfTaken := true
    markField := if r.markCarriage then some s.marks.count else none
    allocation := if r.state = .active then some (s.allocate t) else none }

/-- A multiframe start is due: frame 0 is next, the frame before it is settled, and it has not been
taken. -/
def Trunk.multiframeDue (r : Trunk) : Bool :=
  r.state.framing && !r.awaiting && r.nextFrame == 0 && !r.mfTaken

/-- MULTIFRAME_START (R17, R18, R175). -/
def execMultiframeStart (t : TrunkId) (s : State) : Host.Outcome State Fault Refusal :=
  s.live fun s => if (s.trunk t).multiframeDue then s.startMultiframe t else s

/-! ### The header (R17, R47, R62) -/

/-- The hold flag (R47). -/
def Trunk.hold (r : Trunk) : Bool :=
  decide (30 ≤ r.intake.length) || decide (497 ≤ r.control.length)

/-- The regular position advanced by 1, wrapping (R62). -/
def Trunk.advance (r : Trunk) : Trunk :=
  { r with regular := if r.regular + 1 < r.pollList.length then r.regular + 1 else 0 }

/-- The poll address of a frame, and the trunk after the choice (R62). -/
def State.choosePoll (s : State) (t : TrunkId) : Trunk × Option Nat :=
  let r := s.trunk t
  match r.urgent with
  | pos :: rest => ({ r with urgent := rest }, some pos)
  | [] =>
    match r.pollList[r.regular]? with
    | none => (r, none)
    | some pos => (r.advance, if s.configured (cellAt t pos) then some pos else none)

/-! ### Filling the slots (R176, R177) -/

/-- A CONTROL slot takes the message at the head of the control queue. -/
def State.fillControl (s : State) (t : TrunkId) : State × Slot :=
  let r := s.trunk t
  match r.control with
  | [] => (s, .empty)
  | m :: rest => (s.setTrunk t { r with control := rest }, .control m)

/-- A planned chunk sent on a trunk: it is read from its block, the chunks remaining fall by 1, and at
0 the descriptor leaves the replay queue (R177). -/
def State.sendChunk (s : State) (t : TrunkId) (e : PlanEntry) : State × Slot :=
  match s.desc? e.desc with
  | none => (s, .empty)
  | some r =>
    match r.state with
    | .held => (s, .empty)
    | .uploading _ => (s, .empty)
    | .released refs cs =>
      let x := cs[t.val]
      let data := Memory.readAll s.segMem (blockAddress (r.blocks.getD e.chunk 0)) 256
      let slot := Slot.replay r.stream x.rendition r.sequence e.chunk r.mark (r.chunks x.rendition) data
      let s := s.putDesc e.desc
        { r with state := .released refs (cs.set t.val { x with remaining := x.remaining - 1 }) }
      (if x.remaining ≤ 1 then s.unlink t e.desc else s, slot)

/-- Slot number `n` of a multiframe filled by the trunk's allocation: CONTROL below C, REPLAY below
C + Rp, EMPTY above (R176). A plan entry whose descriptor has left the queue is skipped (R177). -/
def State.fillSlot (s : State) (t : TrunkId) (n : Nat) : State × Slot :=
  match (s.trunk t).allocation with
  | none => (s, .empty)
  | some a =>
    if n < a.control then s.fillControl t
    else if n < a.control + a.replay then
      match a.plan[n - a.control]? with
      | some (some e) => s.sendChunk t e
      | some none => (s, .empty)
      | none => (s, .empty)
    else (s, .empty)

/-- Slots from slot number `n` on filled in order. -/
def State.fillSlots (s : State) (t : TrunkId) : Nat → Nat → State × List Slot
  | _, 0 => (s, [])
  | n, left + 1 =>
    let a := s.fillSlot t n
    let rest := a.1.fillSlots t (n + 1) left
    (rest.1, a.2 :: rest.2)

/-! ### The frame start (R17) -/

/-- The mark field of frame n (R18). -/
def frameMark (r : Trunk) : Option (Option Mark) := if r.nextFrame = 0 then some r.markField else none

/-- The trunk once a frame is on the line. -/
def Trunk.sent (r : Trunk) (f : DownFrame) : Trunk :=
  { r with
    nextFrame := (r.nextFrame + 1) % 16
    mfTaken := false
    awaiting := true
    polled := f.poll.map fun pos => ⟨pos, false⟩
    holdSent := f.hold
    frame := some f }

/-- A frame of an ALIGNING trunk: hold set, echo IDLE, no poll, ack 0, every slot EMPTY (R17). -/
def State.sendAligning (s : State) (t : TrunkId) : State :=
  let r := s.trunk t
  s.setTrunk t (r.sent
    ⟨r.nextFrame, true, .idle, none, 0, frameMark r, List.replicate frameSlots .empty⟩)

/-- A frame of an ACTIVE or LOST trunk: hold flag, echo, poll choice and ack count, then the slots
(R17, R47, R62, R177). -/
def State.sendServing (s : State) (t : TrunkId) : State :=
  let r := s.trunk t
  let chosen := s.choosePoll t
  let a := (s.setTrunk t chosen.1).fillSlots t (frameSlots * r.nextFrame) frameSlots
  a.1.setTrunk t ((a.1.trunk t).sent
    ⟨r.nextFrame, r.hold, r.echo, chosen.2, r.ack, frameMark r, a.2⟩)

/-- The frame that is due, formed and sent. -/
def State.sendFrame (s : State) (t : TrunkId) : State :=
  match (s.trunk t).state with
  | .aligning => s.sendAligning t
  | .active => s.sendServing t
  | .lost => s.sendServing t
  | .off => s
  | .standby => s
  | .waking => s

/-- FRAME_START: a framing trunk whose last upstream frame is settled sends its next frame; the one
that carries frame 0 is also a multiframe start, taken here if it has not been taken (R17, R38). -/
def execFrameStart (t : TrunkId) (s : State) : Host.Outcome State Fault Refusal :=
  s.live fun s =>
    if (s.trunk t).state.framing && !(s.trunk t).awaiting then
      (if (s.trunk t).multiframeDue then s.startMultiframe t else s).sendFrame t
    else s

end Sys2Proof.Machine
end

