-- ==== Sys2Proof/Machine/Tickets.lean ====
section
/-! DEFINITION. Tickets and seat binding (Chapter 8): TICKET_LOAD, the gate commands, presentations,
binding and transfer. -/
namespace Sys2Proof.Machine

/-- Records of the Ticket Table (R120). -/
def ticketCapacity : Nat := 12288

/-! ### The conflict test (R122) -/

/-- The time since a holder was last heard. -/
def State.unheardFor (s : State) (h : StationIx) : Nat :=
  match s.station? h with
  | some r => elapsed s.now r.lastHeard
  | none => 0

/-- The current cell of a holder. -/
def State.cellOf (s : State) (h : StationIx) : CellId :=
  match s.station? h with
  | some r => r.cell
  | none => 0

/-- The conflict window in units of sector time (R122). -/
def State.windowUnits (s : State) : Nat := s.timers.window * unitsPerSecond

/-- The holder is stale: not heard within the conflict window (R122). -/
def State.stale (s : State) (h : StationIx) : Bool := decide (s.windowUnits ≤ s.unheardFor h)

/-! ### TICKET_LOAD (R121) -/

/-- Offset of an entry of a batch (Chapter 12.1). -/
def entryOffset (n : Nat) : Nat := 1 + 12 * n

/-- Presence byte and home cell of an entry. -/
def homeField (b : List Byte) (o : Nat) : Option CellId :=
  if byteAt b (o + 10) = 1 then some (byteAt b (o + 11)) else none

/-- One entry of a batch, against the table as it stands (R121). -/
def State.loadEntry (s : State) (b : List Byte) (o : Nat) : State × Result :=
  let k : Token := BitVec.ofNat 64 (numAt b o 8)
  if k = 0 ∨ 63 < byteAt b (o + 8) ∨ 1 < byteAt b (o + 10) then (s, .badValue)
  else match tierField (byteAt b (o + 9)) with
    | none => (s, .badValue)
    | some tier =>
      if (s.ticket? k).isSome then (s, .exists_)
      else if ticketCapacity ≤ s.tickets.size then (s, .full)
      else (s.putTicket k ⟨byteAt b (o + 8), homeField b o, tier, .issued, 0⟩, .ok)

/-- The entries of a batch from the `n`-th on, one after another, with their results. -/
def State.loadEntries (s : State) (b : List Byte) : Nat → Nat → State × List Field
  | _, 0 => (s, [])
  | n, left + 1 =>
    let a := s.loadEntry b (entryOffset n)
    let rest := a.1.loadEntries b (n + 1) left
    (rest.1, .u8 a.2.code :: rest.2)

/-- TICKET_LOAD's own rule (R121). -/
def ticketLoadRule (b : List Byte) (s : State) : Answer :=
  if 16 < byteAt b 0 then ⟨s, .badValue, []⟩
  else
    let a := s.loadEntries b 0 (byteAt b 0)
    ⟨a.1, .ok, a.2⟩

/-- TICKET_LOAD. -/
def execTicketLoad (p : PortId) (s : State) : Host.Outcome State Fault Refusal :=
  s.live fun s => s.act p .ticketLoad ticketLoadRule

/-! ### Gate commands (R124 to R127) -/

/-- A command that names a ticket: a token no record holds is NO_SUCH (R124). -/
def onTicket (b : List Byte) (s : State) (f : Token → Ticket → Answer) : Answer :=
  match s.ticket? (BitVec.ofNat 64 (numAt b 0 8)) with
  | none => ⟨s, .noSuch, []⟩
  | some t => f (BitVec.ofNat 64 (numAt b 0 8)) t

/-- The entry count raised by 1, saturating at 255 (R125). -/
def Ticket.enter (t : Ticket) : Ticket :=
  { t with state := .admitted, entries := saturate 255 (t.entries + 1) }

/-- A gate outcome with the ticket's state and entry count after the command (R125). -/
def gateBody (outcome : Nat) (t : Ticket) : List Field :=
  [.u8 outcome, .u8 t.state.code, .u8 t.entries]

/-- GATE_ADMIT's own rule (R125). -/
def gateAdmitRule (b : List Byte) (s : State) : Answer :=
  onTicket b s fun k t =>
    match t.state with
    | .issued | .exited => ⟨s.putTicket k t.enter, .ok, gateBody 0 t.enter⟩
    | .admitted => ⟨s, .ok, gateBody 1 t⟩
    | .seated h =>
      if s.stale h then
        ⟨(s.putTicket k t.enter).unbindStation h, .ok,
          gateBody 3 t.enter ++ [.u16 h, .u8 (s.cellOf h)]⟩
      else ⟨s, .ok, gateBody 2 t ++ [.u16 h, .u8 (s.cellOf h), .u32 (s.unheardFor h)]⟩
    | .void => ⟨s, .ok, gateBody 4 t⟩

/-- GATE_ADMIT. -/
def execGateAdmit (p : PortId) (s : State) : Host.Outcome State Fault Refusal :=
  s.live fun s => s.act p .gateAdmit gateAdmitRule

/-- The unbound holder of GATE_EXIT and TICKET_VOID, index and current cell, or none (R126, R127). -/
def holderFields (o : Option (StationIx × CellId)) : List Field :=
  [.u8 (bit o.isSome), ⟨2, o.map Prod.fst⟩, ⟨1, o.map Prod.snd⟩]

/-- GATE_EXIT's own rule (R126). -/
def gateExitRule (b : List Byte) (s : State) : Answer :=
  onTicket b s fun k t =>
    match t.state with
    | .admitted => ⟨s.putTicket k { t with state := .exited }, .ok, holderFields none⟩
    | .seated h =>
      ⟨(s.putTicket k { t with state := .exited }).unbindStation h, .ok,
        holderFields (some (h, s.cellOf h))⟩
    | .issued => ⟨s, .wrongState, []⟩
    | .exited => ⟨s, .wrongState, []⟩
    | .void => ⟨s, .wrongState, []⟩

/-- GATE_EXIT. -/
def execGateExit (p : PortId) (s : State) : Host.Outcome State Fault Refusal :=
  s.live fun s => s.act p .gateExit gateExitRule

/-- TICKET_VOID's own rule (R127). -/
def ticketVoidRule (b : List Byte) (s : State) : Answer :=
  onTicket b s fun k t =>
    match t.state with
    | .seated h =>
      ⟨(s.putTicket k { t with state := .void }).unbindStation h, .ok,
        holderFields (some (h, s.cellOf h))⟩
    | .issued | .admitted | .exited => ⟨s.putTicket k { t with state := .void }, .ok, holderFields none⟩
    | .void => ⟨s, .ok, holderFields none⟩

/-- TICKET_VOID. -/
def execTicketVoid (p : PortId) (s : State) : Host.Outcome State Fault Refusal :=
  s.live fun s => s.act p .ticketVoid ticketVoidRule

/-- The station bound to a ticket (R120). -/
def TicketState.holder : TicketState → Option StationIx
  | .seated h => some h
  | .issued => none
  | .admitted => none
  | .exited => none
  | .void => none

/-- What TICKET_QUERY adds for a SEATED ticket: the holder's current cell, mobility and elapsed time,
and the conflict window (R128). -/
def State.holderRecord (s : State) (h : StationIx) : List Field :=
  [.u8 (s.cellOf h),
   .u8 (match s.station? h with
    | some r => r.mobility
    | none => 0),
   .u32 (s.unheardFor h), .u16 s.timers.window]

/-- TICKET_QUERY's own rule (R128). -/
def ticketQueryRule (b : List Byte) (s : State) : Answer :=
  onTicket b s fun k t =>
    ⟨s, .ok,
      [.u64 k.toNat, .u8 t.section_] ++ optField 1 t.home
        ++ [.u8 t.tier.level.code, .u8 t.state.code] ++ optField 2 t.state.holder ++ [.u8 t.entries]
        ++ match t.state.holder with
          | some h => s.holderRecord h
          | none => []⟩

/-- TICKET_QUERY. -/
def execTicketQuery (p : PortId) (s : State) : Host.Outcome State Fault Refusal :=
  s.live fun s => s.act p .ticketQuery ticketQueryRule

/-- A station is BOUND. -/
def Station.isBound (r : Station) : Bool :=
  match r.binding with
  | .bound _ => true
  | .unbound => false
  | .fenced => false

/-- The BOUND stations, in ascending index. -/
def State.boundStations (s : State) : List StationIx :=
  (s.stations.entries.filter fun e => e.2.isBound).map Prod.fst

/-- TICKET_CLEAR's own rule: every holder is unbound, then every record is removed (R129). -/
def ticketClearRule (_ : List Byte) (s : State) : Answer :=
  let n := s.tickets.size
  let hs := s.boundStations
  let s := s.each hs State.unbindStation
  ⟨{ s with tickets := .empty }, .ok, [.u16 n, .u16 hs.length]⟩

/-- TICKET_CLEAR. -/
def execTicketClear (p : PortId) (s : State) : Host.Outcome State Fault Refusal :=
  s.live fun s => s.act p .ticketClear ticketClearRule

/-! ### Presentations (R130 to R134) -/

/-- TICKET_RESULT to the presenting cell (R134). -/
def State.ticketResult (s : State) (x : CellId) (i : StationIx) (r : TicketResult) : State :=
  s.tell x (.ticketResult i r)

/-- BOUND, or BOUND_WRONG_SECTION at a SEAT cell of another section (R131). -/
def State.bindResult (s : State) (x : CellId) (t : Ticket) : TicketResult :=
  if (s.cell x).isSeat ∧ (s.cell x).section_ ≠ t.section_ then .boundWrongSection else .bound

/-- Steps 1 and 2 of a binding: ticket and station name each other, and the seat-grace start is
removed (R131). -/
def State.join (s : State) (i : StationIx) (r : Station) (k : Token) (t : Ticket) : State :=
  (s.putTicket k { t with state := .seated i }).putStation i { r with binding := .bound k, grace := none }

/-- Steps 1 to 4 of a binding: the ticket is bound, the tier recomputed, TICKET_RESULT and then
TIER_UPDATE are queued (R131, R133). -/
def State.bindTicket (s : State) (x : CellId) (i : StationIx) (r : Station) (k : Token) (t : Ticket) :
    State :=
  let a := (s.join i r k t).recomputeTier i
  (a.1.ticketResult x i (s.bindResult x t)).tellTier i a.2

/-- A presentation refused VOID or NOT_ADMITTED (R130). -/
def State.refuseTicket (s : State) (x : CellId) (i : StationIx) (k : Token) (t : Ticket)
    (r : TicketResult) : State :=
  (s.ticketResult x i r).notify .T (.ticketRefused k i x r t.state)

/-- A presentation of an ADMITTED ticket (R131). -/
def State.bindAdmitted (s : State) (x : CellId) (i : StationIx) (r : Station) (k : Token) (t : Ticket) :
    State :=
  (s.bindTicket x i r k t).notify .T (.ticketBound k i x (s.bindResult x t) t.section_ t.home)

/-- A presentation of a SEATED ticket whose holder is heard within the window (R132). -/
def State.conflict (s : State) (x : CellId) (i : StationIx) (k : Token) (h : StationIx) : State :=
  (s.ticketResult x i .conflict).notify .T
    (.ticketConflict k h (s.cellOf h) (s.unheardFor h) i x)

/-- A presentation of a SEATED ticket whose holder is stale: the ticket is transferred (R133). -/
def State.transfer (s : State) (x : CellId) (i : StationIx) (r : Station) (k : Token) (t : Ticket)
    (h : StationIx) : State :=
  ((s.unbindStation h).bindTicket x i r k t).notify .T
    (.ticketTransferred k h (s.cellOf h) (s.unheardFor h) i x (s.bindResult x t))

/-- The presenting station is BOUND to another ticket (R130). -/
def Station.boundElsewhere (r : Station) (k : Token) : Bool :=
  match r.binding with
  | .bound j => j != k
  | .unbound => false
  | .fenced => false

/-- A presentation of a token by a station from a cell, decided by the checks of R130 in their
order. -/
def State.present (s : State) (x : CellId) (i : StationIx) (k : Token) : State :=
  match s.station? i, s.ticket? k with
  | none, _ => s
  | some _, none => s.ticketResult x i .unknown
  | some r, some t =>
    match t.state with
    | .void => s.refuseTicket x i k t .void
    | .issued | .exited => s.refuseTicket x i k t .notAdmitted
    | .admitted =>
      if r.boundElsewhere k then s.ticketResult x i .alreadyBound else s.bindAdmitted x i r k t
    | .seated h =>
      if r.boundElsewhere k then s.ticketResult x i .alreadyBound
      else if h = i then s.ticketResult x i .already
      else if s.stale h then s.transfer x i r k t h
      else s.conflict x i k h

end Sys2Proof.Machine
end

