-- ==== Sys2Proof/Machine/Roaming.lean ====
section
/-! DEFINITION. Association, admission and roaming (sections 6.2 and 7). -/
namespace Sys2Proof.Machine

/-! ### The admission check (R103 to R107) -/

/-- A cell passes the fence test for a phone: no SEAT cell for a FENCED one (R103 step 2). -/
def State.fenceOk (s : State) (fenced : Bool) (c : CellId) : Bool := !(fenced && (s.cell c).isSeat)

/-- A neighbour qualifies as an alternative (R107). -/
def State.qualifies (s : State) (fenced : Bool) (c : CellId) : Bool :=
  s.admitting c && s.fenceOk fenced c && (s.cell c).hasRoom && !(s.cell c).crowded

/-- The alternative at a target cell: among the qualifying neighbours the lowest L, then the lowest
id (R107). -/
def State.alternative (s : State) (fenced : Bool) (x : CellId) : Option CellId :=
  s.best ((s.cell x).neighbours.filter (s.qualifies fenced))

/-- The admission check of a phone at a target cell; an unknown phone is neither FENCED nor
steer-held (R88, R103). -/
def State.admission (s : State) (fenced steerHeld : Bool) (x : CellId) : Admission :=
  if !s.admitting x then .deny .cellDown
  else if !s.fenceOk fenced x then .deny .fenced
  else if !(s.cell x).hasRoom then
    match s.alternative fenced x with
    | some a => .steer a false
    | none => .deny .full
  else if (s.cell x).crowded && !steerHeld then
    match s.alternative fenced x with
    | some a => .steer a true
    | none => .accept
  else .accept

/-! ### ASSOC (R87 to R89) -/

/-- A carried token is acted on as a presentation from the cell (R88 step 4, R89, R109 step 5). -/
def State.presentCarried (s : State) (x : CellId) (i : StationIx) (token : Option Token) : State :=
  match token with
  | some k => s.present x i k
  | none => s

/-- ASSOC_DENY to a cell. -/
def State.deny (s : State) (x : CellId) (a : Address) (why : DenyReason) : State :=
  s.tell x (.assocDeny a why)

/-- The record of a phone created at a cell (R88 step 3). -/
def newStation (s : State) (x : CellId) (a : Address) : Station where
  address := a
  cell := x
  roam := none
  binding := .unbound
  subs := []
  tier := s.tierOf .unbound x
  lastHeard := s.now
  grace := if (s.cell x).isSeat then some s.now else none
  steerHold := none

/-- A phone created at the lowest free index, with its ASSOC_ACCEPT and its carried token (R86, R88). -/
def State.create (s : State) (x : CellId) (a : Address) (token : Option Token) : State :=
  let i := firstFree 0 s.stations.keys
  let r := newStation s x a
  let s := (s.putStation i r).countCell x Cell.gain
  (s.tell x (.assocAccept i r.tier)).presentCarried x i token

/-- An ASSOC whose address no live record holds (R88). -/
def State.assocUnknown (s : State) (x : CellId) (a : Address) (token : Option Token) : State :=
  if stationCapacity ≤ s.stations.size then s.deny x a .tableFull
  else match s.admission false false x with
    | .deny why => s.deny x a why
    | .steer n _ => s.tell x (.steer a n)
    | .accept => s.create x a token

/-- The binding a station would hold on settling at a cell (R110). -/
def State.settledBinding (s : State) (b : Binding) (x : CellId) : Binding :=
  match b, (s.cell x).kind with
  | .fenced, .concourse => .unbound
  | .fenced, .seat => .fenced
  | .unbound, _ => .unbound
  | .bound k, _ => .bound k

/-- The tier a station will have at a cell (R110). -/
def State.tierAt (s : State) (b : Binding) (x : CellId) : Level := s.tierOf (s.settledBinding b x) x

/-- An admitted known station starts roaming toward a cell (R109). -/
def State.startRoam (s : State) (x : CellId) (i : StationIx) (r : Station) (token : Option Token) :
    State :=
  let s := (s.putStation i { r with roam := some ⟨x, s.now⟩ }).countCell x Cell.expect
  let s := s.tell x (.assocAccept i (s.tierAt r.binding x))
  (s.tell r.cell (.roamRelease i)).presentCarried x i token

/-- The steer-hold set by the load step for a known station (R106). -/
def State.setSteerHold (s : State) (i : StationIx) (r : Station) : State :=
  s.putStation i { r with
    steerHold := some (s.now + BitVec.ofNat 32 (s.timers.steerHold * unitsPerSecond)) }

/-- The station is FENCED. -/
def Station.isFenced (r : Station) : Bool :=
  match r.binding with
  | .fenced => true
  | .unbound => false
  | .bound _ => false

/-- An ASSOC of a SETTLED station from a cell other than its own: admission and roam start (R87,
R103, R109). -/
def State.roamRequest (s : State) (x : CellId) (i : StationIx) (r : Station) (token : Option Token) :
    State :=
  match s.admission r.isFenced r.steerHold.isSome x with
  | .deny why => s.deny x r.address why
  | .steer n true => (s.setSteerHold i r).tell x (.steer r.address n)
  | .steer n false => s.tell x (.steer r.address n)
  | .accept => s.startRoam x i r token

/-- A repeated ASSOC: ASSOC_ACCEPT with a tier, then the carried token (R89). -/
def State.acceptAgain (s : State) (x : CellId) (i : StationIx) (tier : Level) (token : Option Token) :
    State :=
  (s.tell x (.assocAccept i tier)).presentCarried x i token

/-- An ASSOC from cell X, dispatched on the record that holds its address (R87). -/
def State.assoc (s : State) (x : CellId) (a : Address) (token : Option Token) : State :=
  match s.stationAt? a with
  | none => s.assocUnknown x a token
  | some (i, r) =>
    match r.roam with
    | none => if r.cell = x then s.acceptAgain x i r.tier token else s.roamRequest x i r token
    | some m =>
      if m.pending = x then s.acceptAgain x i (s.tierAt r.binding x) token
      else if r.cell = x then s.acceptAgain x i r.tier token
      else s.deny x a .busy

/-! ### Ending a roam (R112 to R114) -/

/-- The station record after its roam has completed (R112 steps 2 to 4). -/
def State.arrived (s : State) (r : Station) (m : Roam) : Station :=
  let kindA := (s.cell r.cell).kind
  let kindX := (s.cell m.pending).kind
  let moved := { r with cell := m.pending, roam := none }.settle s.now kindA kindX
  { moved with tier := s.tierOf moved.binding m.pending }

/-- The completion of a roam, by DEPART or by timeout (R112). -/
def State.completeRoam (s : State) (i : StationIx) (r : Station) (m : Roam) : State :=
  let after := s.arrived r m
  let s := s.leaveCounts r.cell r.tier r.subs
  let s := (s.countCell r.cell Cell.lose).countCell m.pending Cell.arrive
  let s := (s.putStation i after).joinCounts m.pending after.tier r.subs
  let s := s.tellTier i (if after.tier = r.tier then none else some after.tier)
  s.recomputeEach r.subs

/-- ROAM_TIMEOUT: completion is forced, with DETACH ROAMED to the old cell and ROAM_FORCED (R113). -/
def execRoamTimeout (i : StationIx) (s : State) : Host.Outcome State Fault Refusal :=
  s.live fun s =>
    match s.station? i with
    | none => s
    | some r =>
      match r.roam with
      | none => s
      | some m =>
        if s.timers.roamTimeout / 4 ≤ elapsed s.now m.start then
          ((s.completeRoam i r m).tell r.cell (.detach (some i) .roamed)).notify .W
            (.roamForced i r.cell m.pending)
        else s

/-- A DEPART taken from a cell that is the station's current or pending cell (R91, R112, R114). -/
def State.depart (s : State) (x : CellId) (i : StationIx) (r : Station) : State :=
  match r.roam with
  | none => s.remove i .departed
  | some m =>
    if r.cell = x then s.completeRoam i r m
    else (s.remove i .left).tell r.cell (.detach (some i) .left)

end Sys2Proof.Machine
end

