-- ==== Sys2Proof/Machine/Reports.lean ====
section
/-! DEFINITION. The Report Processor (section 3.10). -/
namespace Sys2Proof.Machine

/-- The trunk after a trunk, wrapping from 7 to 0 (R50). -/
def nextTrunk (t : TrunkId) : TrunkId := Fin.ofNat 8 (t.val + 1)

/-- The trunks from a pointer on, wrapping from 7 to 0 (R50). -/
def trunksFrom (t : TrunkId) : List TrunkId := (List.range 8).map fun n => Fin.ofNat 8 (t.val + n)

/-- The first trunk from the pointer on whose intake queue is not empty (R50 step 1). -/
def State.nextServed (s : State) : Option TrunkId :=
  (trunksFrom s.pointer).find? fun t => !(s.trunk t).intake.isEmpty

/-- The reporting cell is the station's current cell, or its pending cell (R51 check 2). -/
def Station.standsAt (r : Station) (x : CellId) : Bool := r.cell == x || r.pendingAt x

/-- The station a report's index names, when the station check passes (R51). -/
def State.named (s : State) (x : CellId) (i : StationIx) : Option Station :=
  match s.station? i with
  | some r => if r.standsAt x then some r else none
  | none => none

/-- The last-heard stamp set to now (R52). -/
def Station.refresh (r : Station) (now : Time) : Station := { r with lastHeard := now }

/-- The record that holds an address is refreshed by an ASSOC; an unknown address refreshes nothing
(R52). -/
def State.refreshAddress (s : State) (a : Address) : State :=
  match s.stationAt? a with
  | some (i, r) => s.putStation i (r.refresh s.now)
  | none => s

/-- A report naming an index: the station check, the refresh, and its rule (R51 to R53). -/
def State.onStation (s : State) (x : CellId) (i : StationIx) (f : State → Station → State) : State :=
  match s.named x i with
  | some r => f (s.putStation i (r.refresh s.now)) (r.refresh s.now)
  | none => s

/-- A report whose sender is configured, handed to the table that owns its matter (R53). URGENT never
reaches the processor (R51). -/
def State.handReport (s : State) (x : CellId) (b : ReportBody) : State :=
  match b with
  | .assoc a token => (s.refreshAddress a).assoc x a token
  | .depart i => s.onStation x i fun s r => s.depart x i r
  | .presentTicket i k => s.onStation x i fun s _ => s.present x i k
  | .subscribe i n => s.onStation x i fun s r => s.subscribe x i r n
  | .unsubscribe i n => s.onStation x i fun s r => s.unsubscribe x i r n
  | .urgent => s

/-- A report taken: the sender check, then the rest (R51). One whose cell was removed after it was
placed is discarded here (R59, R51), which a cell configured again does not change (log entry 27). It
brings no ASSOC_DENY: R59 says that as well as that it is denied, and the model takes the reading that
R51 and R104 share (log entry 25). -/
def State.takeReport (s : State) (r : Report) : State :=
  if s.configured r.cell && !r.orphan then s.handReport r.cell r.body else s

/-- REPORT_TAKE: the head report of the next trunk served, acted on whole (R50). With every intake
queue empty there is no take. -/
def execReportTake (s : State) : Host.Outcome State Fault Refusal :=
  s.live fun s =>
    match s.nextServed with
    | none => s
    | some t =>
      let q := s.trunk t
      let s := { s.setTrunk t { q with intake := q.intake.tail } with pointer := nextTrunk t }
      match q.intake with
      | [] => s
      | r :: _ => s.takeReport r

end Sys2Proof.Machine
end

