-- ==== Sys2Proof/Machine/Part.lean ====
section
/-! DEFINITION. The part as a whole (R1, sections 1.6 to 1.8): device reset, sector time, TIMERS_SET
and PART_STATUS. -/
namespace Sys2Proof.Machine

/-! ### Device reset (R16) -/

/-- Every block at its reset value (R16, R37, R54, R72, R84, R101, R138, R150, R169, R179). Segment
memory has no reset value in the manual and keeps its bytes (R169, log entry 2). The commands that
wait in the model's queue are outside the part and stay; `fresh` goes on counting (log entry 3). -/
def State.deviceReset (s : State) (held : Bool) : State :=
  { State.reset with held := held, segMem := s.segMem, fresh := s.fresh, pending := s.pending }

/-- DEVICE_RESET: power-on, or the release of the RESET line (R16). -/
def execDeviceReset (s : State) : Host.Outcome State Fault Refusal := .next (s.deviceReset false)

/-- RESET_LINE_ASSERTED: all work in flight is abandoned and every block is held at its reset value
(R16). -/
def execResetLineAsserted (s : State) : Host.Outcome State Fault Refusal := .next (s.deviceReset true)

/-! ### Sector time (R1) -/

/-- SECTOR_TIME_TICK: sector time rises by 1, wrapping. It stays 0 while the RESET line is asserted
(R16). -/
def execSectorTimeTick (s : State) : Host.Outcome State Fault Refusal :=
  s.live fun s => { s with now := s.now + 1 }

/-! ### TIMERS_SET (R13) -/

/-- A number of milliseconds rounded down to a whole multiple of 4 ms (R13). -/
def roundMs (n : Nat) : Nat := n / 4 * 4

/-- The six values of a TIMERS_SET after rounding and clamping (R13). -/
def timersOf (b : List Byte) : Timers where
  roamTimeout := clamp 16 1000 (roundMs (numAt b 0 2))
  ageLimit := clamp 10 600 (numAt b 2 2)
  seatGrace := clamp 5 600 (numAt b 4 2)
  window := clamp 5 300 (numAt b 6 2)
  steerHold := clamp 1 120 (numAt b 8 2)
  silence := clamp 2 15 (numAt b 10 2)

/-- The six values in effect, as TIMERS_SET returns them (R13). -/
def Timers.body (w : Timers) : List Field :=
  [.u16 w.roamTimeout, .u16 w.ageLimit, .u16 w.seatGrace, .u16 w.window, .u16 w.steerHold, .u16 w.silence]

/-- TIMERS_SET's own rule (R13). The timings it ends are separate expiries (R14). -/
def timersSetRule (b : List Byte) (s : State) : Answer :=
  ⟨{ s with timers := timersOf b }, .ok, (timersOf b).body⟩

/-- TIMERS_SET. -/
def execTimersSet (p : PortId) (s : State) : Host.Outcome State Fault Refusal :=
  s.live fun s => s.act p .timersSet timersSetRule

/-! ### PART_STATUS (R15) -/

/-- All ports, in the order of PART_STATUS. -/
def allPorts : List PortId := [.W, .T, .V]

/-- The snapshot of PART_STATUS (R15). -/
def State.partSnapshot (s : State) : List Field :=
  allPorts.map (fun p => .u8 (s.port p).link.code)
    ++ allPorts.map (fun p => .u8 (s.port p).notices.length)
    ++ allPorts.map (fun p => .u8 (bit (s.port p).overflow))
    ++ allTrunks.map s.stateField
    ++ [.u16 s.cells.size, .u16 s.stations.size, .u16 s.tickets.size, .u8 s.openStreams.length,
        .u16 s.freeDescs, .u16 s.freeBlocks, .u32 s.now.toNat, .u16 s.marks.count.toNat]

/-- PART_STATUS's own rule (R15). -/
def partStatusRule (_ : List Byte) (s : State) : Answer := ⟨s, .ok, s.partSnapshot⟩

/-- PART_STATUS. -/
def execPartStatus (p : PortId) (s : State) : Host.Outcome State Fault Refusal :=
  s.live fun s => s.act p .partStatus partStatusRule

end Sys2Proof.Machine
end

