-- ==== Sys2Proof/Machine/Dispatch.lean ====
section
/-! DEFINITION. One arm per command, each one call of its meaning. -/
namespace Sys2Proof.Machine

def exec (i : Instr) (s : State) : Host.Outcome State Fault Refusal :=
  match i with
  | .deviceReset => Sys2Proof.Machine.execDeviceReset s
  | .linkSignalDetected p => Sys2Proof.Machine.execLinkSignalDetected p s
  | .linkAligned p => Sys2Proof.Machine.execLinkAligned p s
  | .linkSignalLost p => Sys2Proof.Machine.execLinkSignalLost p s
  | .linkTrainingReceived p => Sys2Proof.Machine.execLinkTrainingReceived p s
  | .linkFramingFailure p => Sys2Proof.Machine.execLinkFramingFailure p s
  | .commandWithoutCredit p => Sys2Proof.Machine.execCommandWithoutCredit p s
  | .commandReceived p m => Sys2Proof.Machine.execCommandReceived p m s
  | .malformedMessage p => Sys2Proof.Machine.execMalformedMessage p s
  | .outboundSend p => Sys2Proof.Machine.execOutboundSend p s
  | .cellSet p => Sys2Proof.Machine.execCellSet p s
  | .pollListSet p => Sys2Proof.Machine.execPollListSet p s
  | .pollUrgent p => Sys2Proof.Machine.execPollUrgent p s
  | .cellQuery p => Sys2Proof.Machine.execCellQuery p s
  | .loadSet p => Sys2Proof.Machine.execLoadSet p s
  | .trunkSet p => Sys2Proof.Machine.execTrunkSet p s
  | .trunkStart p => Sys2Proof.Machine.execTrunkStart p s
  | .trunkStandby p => Sys2Proof.Machine.execTrunkStandby p s
  | .trunkReset p => Sys2Proof.Machine.execTrunkReset p s
  | .trunkQuery p => Sys2Proof.Machine.execTrunkQuery p s
  | .stationDetach p => Sys2Proof.Machine.execStationDetach p s
  | .stationClear p => Sys2Proof.Machine.execStationClear p s
  | .timersSet p => Sys2Proof.Machine.execTimersSet p s
  | .ticketLoad p => Sys2Proof.Machine.execTicketLoad p s
  | .gateAdmit p => Sys2Proof.Machine.execGateAdmit p s
  | .gateExit p => Sys2Proof.Machine.execGateExit p s
  | .ticketVoid p => Sys2Proof.Machine.execTicketVoid p s
  | .ticketQuery p => Sys2Proof.Machine.execTicketQuery p s
  | .ticketClear p => Sys2Proof.Machine.execTicketClear p s
  | .streamOpen p => Sys2Proof.Machine.execStreamOpen p s
  | .streamClose p => Sys2Proof.Machine.execStreamClose p s
  | .segBegin p => Sys2Proof.Machine.execSegBegin p s
  | .segData p => Sys2Proof.Machine.execSegData p s
  | .segEnd p => Sys2Proof.Machine.execSegEnd p s
  | .segAbort p => Sys2Proof.Machine.execSegAbort p s
  | .mark p => Sys2Proof.Machine.execMark p s
  | .markSet p => Sys2Proof.Machine.execMarkSet p s
  | .streamQuery p => Sys2Proof.Machine.execStreamQuery p s
  | .replayClear p => Sys2Proof.Machine.execReplayClear p s
  | .fanoutQuery p => Sys2Proof.Machine.execFanoutQuery p s
  | .stationQuery p => Sys2Proof.Machine.execStationQuery p s
  | .partStatus p => Sys2Proof.Machine.execPartStatus p s
  | .wakeSignal t => Sys2Proof.Machine.execWakeSignal t s
  | .upstreamSignalDetected t => Sys2Proof.Machine.execUpstreamSignalDetected t s
  | .wakeTimeout t => Sys2Proof.Machine.execWakeTimeout t s
  | .alignTimeout t => Sys2Proof.Machine.execAlignTimeout t s
  | .lostGiveUp t => Sys2Proof.Machine.execLostGiveUp t s
  | .idleTimerExpiry t => Sys2Proof.Machine.execIdleTimerExpiry t s
  | .frameStart t => Sys2Proof.Machine.execFrameStart t s
  | .multiframeStart t => Sys2Proof.Machine.execMultiframeStart t s
  | .upstreamFrameReceived t u => Sys2Proof.Machine.execUpstreamFrameReceived t u s
  | .reportTake => Sys2Proof.Machine.execReportTake s
  | .roamTimeout x => Sys2Proof.Machine.execRoamTimeout x s
  | .ageExpiry x => Sys2Proof.Machine.execAgeExpiry x s
  | .seatGraceExpiry x => Sys2Proof.Machine.execSeatGraceExpiry x s
  | .steerHoldExpiry x => Sys2Proof.Machine.execSteerHoldExpiry x s
  | .generatorExpiry => Sys2Proof.Machine.execGeneratorExpiry s
  | .portVGraceExpiry => Sys2Proof.Machine.execPortVGraceExpiry s
  | .outboundMessageSent p => Sys2Proof.Machine.execOutboundMessageSent p s
  | .linkReceiverAligned p => Sys2Proof.Machine.execLinkReceiverAligned p s
  | .resetLineAsserted => Sys2Proof.Machine.execResetLineAsserted s
  | .sectorTimeTick => Sys2Proof.Machine.execSectorTimeTick s

end Sys2Proof.Machine
end

