-- ==== Sys2Proof/Safety.lean ====
section
/-! DEFINITION. The words in which claims about the part are stated: when a command is taken, what an
answered command leaves on its port, and the laws that every step of the part keeps. No meaning calls
anything of this file. -/
namespace Sys2Proof.Machine

/-! ### Commands -/

/-- The port and the command of a row that is a master-port command (R9). -/
def portCommand : Instr → Option (PortId × Command)
  | .cellSet p => some (p, .cellSet)
  | .pollListSet p => some (p, .pollListSet)
  | .pollUrgent p => some (p, .pollUrgent)
  | .cellQuery p => some (p, .cellQuery)
  | .loadSet p => some (p, .loadSet)
  | .trunkSet p => some (p, .trunkSet)
  | .trunkStart p => some (p, .trunkStart)
  | .trunkStandby p => some (p, .trunkStandby)
  | .trunkReset p => some (p, .trunkReset)
  | .trunkQuery p => some (p, .trunkQuery)
  | .stationDetach p => some (p, .stationDetach)
  | .stationClear p => some (p, .stationClear)
  | .timersSet p => some (p, .timersSet)
  | .ticketLoad p => some (p, .ticketLoad)
  | .gateAdmit p => some (p, .gateAdmit)
  | .gateExit p => some (p, .gateExit)
  | .ticketVoid p => some (p, .ticketVoid)
  | .ticketQuery p => some (p, .ticketQuery)
  | .ticketClear p => some (p, .ticketClear)
  | .streamOpen p => some (p, .streamOpen)
  | .streamClose p => some (p, .streamClose)
  | .segBegin p => some (p, .segBegin)
  | .segData p => some (p, .segData)
  | .segEnd p => some (p, .segEnd)
  | .segAbort p => some (p, .segAbort)
  | .mark p => some (p, .mark)
  | .markSet p => some (p, .markSet)
  | .streamQuery p => some (p, .streamQuery)
  | .replayClear p => some (p, .replayClear)
  | .fanoutQuery p => some (p, .fanoutQuery)
  | .stationQuery p => some (p, .stationQuery)
  | .partStatus p => some (p, .partStatus)
  | .deviceReset | .linkSignalDetected _ | .linkAligned _ | .linkSignalLost _ | .linkTrainingReceived _
  | .linkFramingFailure _ | .commandWithoutCredit _ | .commandReceived _ _ | .malformedMessage _
  | .outboundSend _ | .wakeSignal _ | .upstreamSignalDetected _ | .wakeTimeout _ | .alignTimeout _
  | .lostGiveUp _ | .idleTimerExpiry _ | .frameStart _ | .multiframeStart _
  | .upstreamFrameReceived _ _ | .reportTake | .roamTimeout _ | .ageExpiry _ | .seatGraceExpiry _
  | .steerHoldExpiry _ | .generatorExpiry | .portVGraceExpiry | .outboundMessageSent _
  | .linkReceiverAligned _ | .resetLineAsserted | .sectorTimeTick => none

/-- Command `c` is taken on port `p` from message `m`: the part is not held in reset, the link is UP,
and `m`, which carries the code of `c`, is the oldest command of the intake. -/
structure State.Heads (s : State) (p : PortId) (c : Command) (m : PortMessage) : Prop where
  released : s.held = false
  up : (s.port p).link = .up
  oldest : (s.port p).waiting.head? = some m
  code : m.code.toNat = c.code

/-- As `State.Heads`, and the message passes every check of R180. -/
structure State.Taking (s : State) (p : PortId) (c : Command) (m : PortMessage) : Prop
    extends State.Heads s p c m where
  accepted : refusal p m = none

/-- The port after its oldest command `m` has been answered: the command leaves the intake and its
response, with the code and the tag of the command, joins the response path (R7, R8). -/
def State.answered (s : State) (p : PortId) (m : PortMessage) (r : Result) (body : List Field) : State :=
  s.setPort p { s.port p with
    waiting := (s.port p).waiting.tail
    responses := (s.port p).responses ++ [⟨m.code, m.tag, r, body, (s.port p).ready⟩]
    ready := (s.port p).ready + 1 }

/-- The ticket token that a gate command's body names (Chapter 12.1). -/
def tokenOf (m : PortMessage) : Token := BitVec.ofNat 64 (numAt m.body 0 8)

/-! ### Reports -/

/-- The Report Processor's next take is report `rep` of trunk `t` (R50): it heads the intake queue of
`t`, and every trunk between the pointer and `t` has an empty intake queue. -/
structure State.Takes (s : State) (t : TrunkId) (rep : Report) : Prop where
  released : s.held = false
  head : (s.trunk t).intake.head? = some rep
  first : ∀ u : TrunkId, (u - s.pointer).val < (t - s.pointer).val → (s.trunk u).intake = []

/-- The part after a report of trunk `t` has been removed from its queue and the pointer moved
(R50 steps 2 and 3). -/
def State.afterTake (s : State) (t : TrunkId) : State :=
  { s.setTrunk t { s.trunk t with intake := (s.trunk t).intake.tail } with pointer := t + 1 }

/-- The station a report of a kind that names one by index names (R42). -/
def ReportBody.index? : ReportBody → Option StationIx
  | .assoc _ _ => none
  | .depart i => some i
  | .presentTicket i _ => some i
  | .subscribe i _ => some i
  | .unsubscribe i _ => some i
  | .urgent => none

/-! ### What stations leave behind -/

/-- The binding and seat-grace start of a station that has settled at a cell (R96, R98, R112): `kind`
is that cell's kind, `before` the kind of the cell it was at. -/
def settledFrom (now : Time) (before kind : CellKind) (r r' : Station) : Prop :=
  (r.binding = .unbound → r'.binding = .unbound ∧ r'.grace =
      if kind = .concourse then none else if before = .concourse then some now else r.grace)
  ∧ (r.binding = .fenced → r'.binding = (if kind = .concourse then .unbound else .fenced)
      ∧ r'.grace = if kind = .concourse then none else r.grace)
  ∧ ∀ k, r.binding = .bound k → r'.binding = .bound k ∧ r'.grace = r.grace

/-- The TIER_UPDATE of a tier recompute (R140 step 4): queued to cell `c` for station `i` when its tier
has changed. -/
def State.tierTold (s : State) (i : StationIx) (c : CellId) (before after : Level) : State :=
  if after = before then s else s.tell c (.tierUpdate i after)

/-- The tier of an UNBOUND station at a cell (R139). -/
def State.tierUnbound (s : State) (c : CellId) : Level :=
  if (s.cell c).kind = .seat then .none else .lean

/-- The roam `m` of station `i`, whose record was `r`, has been completed between `s` and `v` (R112):
one unit has moved from the incoming count of the pending cell to its S, and S of the old cell has
fallen; the station has settled there with the tier of its new place, and a change of its tier has
queued TIER_UPDATE to that cell. Beside that the event has moved counts, demand, Port V notices and
idle timers alone. -/
structure State.RoamDone (s v : State) (i : StationIx) (r : Station) (m : Roam) : Prop where
  station : ∃ r', v.station? i = some r' ∧ r'.tier = v.tierOf r'.binding m.pending
    ∧ r' = { r with cell := m.pending, roam := none
                    binding := r'.binding, grace := r'.grace, tier := r'.tier }
    ∧ settledFrom s.now (s.cell r.cell).kind (s.cell m.pending).kind r r'
  others : ∀ j, j ≠ i → v.station? j = s.station? j
  left : ∀ x, s.cells.get? r.cell = some x →
    v.cells.get? r.cell = some { x with attached := x.attached - 1 }
  joined : ∀ x, s.cells.get? m.pending = some x →
    v.cells.get? m.pending = some { x with attached := x.attached + 1, incoming := x.incoming - 1 }
  cells : ∀ c, c ≠ r.cell → c ≠ m.pending → v.cells.get? c = s.cells.get? c
  told : ∀ r', v.station? i = some r' → ∃ w : State, v = w.tierTold i m.pending r.tier r'.tier
    ∧ (∀ t, w.trunk t = { s.trunk t with idle := (w.trunk t).idle })
    ∧ w = { s with stations := w.stations, cells := w.cells, fan := w.fan, demand := w.demand
                   trunks := w.trunks, ports := { s.ports with v := w.ports.v } }

/-- Station `i`, whose record was `r`, has been removed for a cause between `s` and `v` (R90, R135): its
counts at its cells, its ticket and its index are released, and TICKET_RELEASED is queued for a ticket.
Beside that the removal has moved counts, demand, Port V notices and idle timers alone. -/
structure State.Gone (s v : State) (i : StationIx) (r : Station) (cause : Cause) : Prop where
  station : v.station? i = none
  others : ∀ j, j ≠ i → v.station? j = s.station? j
  current : ∀ x, s.cells.get? r.cell = some x →
    v.cells.get? r.cell = some { x with attached := x.attached - 1 }
  pending : ∀ m x, r.roam = some m → s.cells.get? m.pending = some x →
    v.cells.get? m.pending = some { x with incoming := x.incoming - 1 }
  cells : ∀ c, c ≠ r.cell → (∀ m, r.roam = some m → c ≠ m.pending) → v.cells.get? c = s.cells.get? c
  ticket : ∀ k t, r.binding = .bound k → s.ticket? k = some t →
    v.ticket? k = some { t with state := .admitted }
      ∧ v.ports.t = (s.notify .T (.ticketReleased k i cause t.home)).ports.t
  tickets : ∀ k, r.binding ≠ .bound k → v.ticket? k = s.ticket? k
  silent : (∀ k, r.binding ≠ .bound k) → v.ports.t = s.ports.t
  trunks : ∀ t, v.trunk t = { s.trunk t with idle := (v.trunk t).idle }
  frame : v = { s with
    stations := v.stations, cells := v.cells, tickets := v.tickets, fan := v.fan, demand := v.demand
    trunks := v.trunks, ports := { s.ports with t := v.ports.t, v := v.ports.v } }

/-- Among some cells, `a` has the lowest smoothed score of those that pass a test, and the lowest id
of those with that score (R97, R107); with `none`, no cell passes. -/
def State.LowestOf (s : State) (cells : List CellId) (test : CellId → Prop) : Option CellId → Prop
  | none => ∀ b ∈ cells, ¬ test b
  | some a => a ∈ cells ∧ test a ∧ ∀ b ∈ cells, test b →
      (s.cell a).score < (s.cell b).score ∨ ((s.cell a).score = (s.cell b).score ∧ a ≤ b)

/-- A cell is configured, LIVE, and its accepted code is RUN or DEGRADED (R70). -/
def State.Admits (s : State) (c : CellId) : Prop :=
  s.configured c = true ∧ (s.cell c).live = .live
    ∧ ((s.cell c).accepted = .run ∨ (s.cell c).accepted = .degraded)

/-- The room of a cell: S and the incoming count together lie below Ceff (R70, R105). -/
def State.HasRoom (s : State) (c : CellId) : Prop :=
  (s.cell c).attached + (s.cell c).incoming
    < if (s.cell c).accepted = .degraded then max 1 ((s.cell c).cmax / 2) else (s.cell c).cmax

/-- A cell counts as crowded (R80). -/
def State.IsCrowded (s : State) (c : CellId) : Prop :=
  (s.cell c).load = .crowded ∨ (s.cell c).accepted = .overtemp

/-- Some cell of an ACTIVE trunk meets a test (R145, R146). -/
def State.OnActive (s : State) (test : CellId → Prop) : Prop :=
  ∃ t : TrunkId, (s.trunk t).state = .active ∧ ∃ pos, pos < 32 ∧ test (32 * t.val + pos)

/-- No cell of a trunk has an attached or an incoming station (R30). -/
def State.Deserted (s : State) (t : TrunkId) : Prop :=
  ∀ pos, pos < 32 → (s.cell (32 * t.val + pos)).attached = 0 ∧ (s.cell (32 * t.val + pos)).incoming = 0

/-- The signed distance of a descriptor's release mark to the mark count (R155). -/
def State.ahead (s : State) (r : Desc) : Int := (s.marks.count - r.mark).toInt

/-! ### The laws of the part -/

/-- A port outside UP holds no command, no response and no transmission (R4); a port that is UP and
its controller share 16 credits (R6); a notice queue holds 64 notices at most (R11). -/
structure Port.Sound (q : Port) : Prop where
  away : q.link ≠ .up → q.waiting = [] ∧ q.responses = [] ∧ q.sending = none
  credits : q.link = .up → q.credit + q.taken = 16
  room : q.notices.length ≤ 64

/-- The three ports are sound. -/
def State.PortsSound (s : State) : Prop := ∀ p, (s.port p).Sound

/-- What R21, R22, R33, R38, R45, R61, R63, R170 and R175 say of a trunk's record in every state. -/
structure Trunk.Sound (r : Trunk) : Prop where
  intake : r.intake.length ≤ 32
  control : r.control.length ≤ 512
  urgent : r.urgent.length ≤ 4 ∧ r.urgent.Nodup
  list : r.pollList.length ≤ 32 ∧ ∀ pos ∈ r.pollList, pos < 32
  regular : r.regular < r.pollList.length ∨ r.regular = 0
  settings : r.rmin ≤ 320 ∧ r.idlePeriod ≤ 3600
  judged : r.good ≤ 2 ∧ r.bad ≤ 2
  number : r.nextFrame < 16
  silent : r.state.framing = false → r.frame = none ∧ r.echo = .idle ∧ r.ack = 0
  idle : r.state.serving = false → r.control = []
  bare : r.state ≠ .active → r.replay = [] ∧ r.allocation = none
  off : r.state = .off → r.intake = [] ∧ r.urgent = []

/-- The eight trunks are sound. -/
def State.TrunksSound (s : State) : Prop := ∀ t, (s.trunk t).Sound

/-- Segment memory and every sparse table are in their one canonical form. -/
structure State.TablesSound (s : State) : Prop where
  memory : Memory.wf s.segMem = true
  cells : s.cells.wf = true
  stations : s.stations.wf = true
  tickets : s.tickets.wf = true
  fan : s.fan.wf = true ∧ ∀ e ∈ s.fan.entries, e.2 ≠ ⟨0, 0⟩
  descs : s.descs.wf = true
  used : s.used.Pairwise (· < ·)

/-- Tickets and stations name each other (R120): a BOUND station's ticket is SEATED at it, the
station of a SEATED ticket is BOUND to it, and a BOUND station has no seat-grace start (R96). -/
structure State.TicketLaw (s : State) : Prop where
  stations : s.stations.wf = true
  tickets : s.tickets.wf = true
  bound : ∀ i r k, s.station? i = some r → r.binding = .bound k →
    r.grace = none ∧ ∃ t, s.ticket? k = some t ∧ t.state = .seated i
  seated : ∀ k t h, s.ticket? k = some t → t.state = .seated h →
    ∃ r, s.station? h = some r ∧ r.binding = .bound k

/-- How many stations meet a test. -/
def State.stationsWith (s : State) (f : Station → Bool) : Nat :=
  (s.stations.entries.filter fun e => f e.2).length

/-- Law 1 of the device (R71, R102): S of a configured cell is the number of stations whose current
cell it is, the incoming count the number of stations whose pending cell it is; both cells of a
station are configured, and a roam is toward another cell (R109). -/
structure State.CountLaw (s : State) : Prop where
  stations : s.stations.wf = true
  cells : s.cells.wf = true
  current : ∀ i r, s.station? i = some r → s.configured r.cell = true
  pending : ∀ i r m, s.station? i = some r → r.roam = some m →
    s.configured m.pending = true ∧ m.pending ≠ r.cell
  counts : ∀ c x, s.cells.get? c = some x →
    x.attached = s.stationsWith (fun r => r.cell == c) ∧
    x.incoming = s.stationsWith (fun r => r.pendingAt c)

/-- The law of the fan-out counts (R141): nFull and nLean of a cell and a stream count the stations
whose current cell is the cell, whose list holds the stream and whose tier is FULL or LEAN; a list
holds up to 4 distinct streams (R85), all of them OPEN (R143, R148). -/
structure State.FanoutLaw (s : State) : Prop where
  stations : s.stations.wf = true
  fan : s.fan.wf = true
  lists : ∀ i r, s.station? i = some r →
    r.subs.Nodup ∧ r.subs.length ≤ 4 ∧ ∀ k ∈ r.subs, (s.stream k).state = .opened
  counts : ∀ c k, s.counts c k =
    ⟨s.stationsWith (fun r => r.cell == c && r.tier == .full && r.subs.contains k),
     s.stationsWith (fun r => r.cell == c && r.tier == .lean && r.subs.contains k)⟩

/-- The law of the auto-standby idle timers (R30): a trunk's timer runs exactly while the trunk is
ACTIVE, its period is not 0 and no cell of it has or expects a station. -/
structure State.IdleLaw (s : State) : Prop where
  cells : s.cells.wf = true
  timers : ∀ t, (s.trunk t).idle.isSome = true ↔
    (s.trunk t).state = .active ∧ (s.trunk t).idlePeriod ≠ 0 ∧ s.Deserted t

/-- The law of the stored sector demand (R145, R146): it is the highest trunk demand as the counts, the
cells and the trunks stand. -/
structure State.DemandLaw (s : State) : Prop where
  full : ∀ k, s.sectorDemand k = .full ↔ s.OnActive fun c => ¬ s.IsCrowded c ∧ 0 < (s.counts c k).full
  none : ∀ k, s.sectorDemand k = .none ↔
    ¬ s.OnActive fun c => 0 < (s.counts c k).full + (s.counts c k).lean

/-- The law of the stored tier (R139, R140): it is the one that the station's binding gives at its
current cell. -/
structure State.TierLaw (s : State) : Prop where
  fenced : ∀ i r, s.station? i = some r → r.binding = .fenced → r.tier = .none
  unbound : ∀ i r, s.station? i = some r → r.binding = .unbound →
    r.tier = if (s.cell r.cell).kind = .seat then .none else .lean
  bound : ∀ i r k t, s.station? i = some r → r.binding = .bound k → s.ticket? k = some t →
    r.tier = if (s.cell r.cell).kind = .seat ∧ (s.cell r.cell).section_ ≠ t.section_ then .none
      else t.tier.level

/-- The law of the descriptors and the segment blocks (R151 to R154, R160, R165): a descriptor has a
block for each chunk, the blocks of two descriptors are distinct, and the blocks of all make up the used
set; a stream counts its descriptors, has none when CLOSED and one at least when DRAINING, has one
upload at most, and is OPEN while it has an upload or a held segment. -/
structure State.BlockLaw (s : State) : Prop where
  descs : s.descs.wf = true
  used : s.used.Pairwise (· < ·)
  sizes : ∀ d r, s.desc? d = some r → d < 256 ∧ 0 < r.nL ∧ r.blocks.length = r.nL + r.nX
    ∧ r.blocks.Pairwise (· < ·) ∧ ∀ b ∈ r.blocks, b < 16384
  disjoint : ∀ d e r q, s.desc? d = some r → s.desc? e = some q → d ≠ e → ∀ b ∈ r.blocks, b ∉ q.blocks
  whole : ∀ b, b ∈ s.used ↔ ∃ d r, s.desc? d = some r ∧ b ∈ r.blocks
  counted : ∀ k, (s.stream k).inUse = (s.descs.entries.filter fun e => e.2.stream = k).length
  closed : ∀ k, (s.stream k).state = .closed → (s.stream k).inUse = 0
  draining : ∀ k, (s.stream k).state = .draining → 0 < (s.stream k).inUse
  opened : ∀ d r, s.desc? d = some r → (∀ refs cs, r.state ≠ .released refs cs) →
    (s.stream r.stream).state = .opened
  upload : ∀ d e r q n m, s.desc? d = some r → s.desc? e = some q → r.state = .uploading n →
    q.state = .uploading m → r.stream = q.stream → d = e

/-- The law of the release queue (R158): it holds the HELD descriptors, each once, their marks 1 to
1,024 ahead of the count, nearer marks first. -/
structure State.ReleaseLaw (s : State) : Prop where
  nodup : s.release.Nodup
  held : ∀ d, d ∈ s.release ↔ ∃ r, s.desc? d = some r ∧ r.state = .held
  window : ∀ d r, s.desc? d = some r → r.state = .held → -1024 ≤ s.ahead r ∧ s.ahead r < 0
  order : s.release.Pairwise fun d e => ∀ r q, s.desc? d = some r → s.desc? e = some q →
    s.ahead q ≤ s.ahead r

/-- The law of the replay queues (R159, R173 to R175): a queue holds RELEASED descriptors, each once; a
reference count is the number of queues that hold the descriptor and is never 0; on a trunk whose queue
holds it the descriptor has chunks left to send, no more than its rendition there has, and on another
it has no rendition; a plan names descriptors of the trunk's queue. -/
structure State.QueueLaw (s : State) : Prop where
  queues : ∀ t, (s.trunk t).replay.Nodup ∧ ∀ d ∈ (s.trunk t).replay,
    ∃ r refs cs, s.desc? d = some r ∧ r.state = .released refs cs
  refs : ∀ d r n cs, s.desc? d = some r → r.state = .released n cs →
    0 < n ∧ n = (allTrunks.filter fun t => d ∈ (s.trunk t).replay).length
  left : ∀ d r n cs (t : TrunkId), s.desc? d = some r → r.state = .released n cs →
    d ∈ (s.trunk t).replay → cs[t.val].rendition ≠ .none ∧ 0 < cs[t.val].remaining
      ∧ cs[t.val].remaining ≤ if cs[t.val].rendition = .full then r.nL + r.nX else r.nL
  away : ∀ d r n cs (t : TrunkId), s.desc? d = some r → r.state = .released n cs →
    d ∉ (s.trunk t).replay → cs[t.val] = ⟨.none, 0⟩
  plans : ∀ t a e, (s.trunk t).allocation = some a → some e ∈ a.plan → e.desc ∈ (s.trunk t).replay

/-- The three laws of the replay side. -/
structure State.ReplayLaw (s : State) : Prop where
  blocks : s.BlockLaw
  release : s.ReleaseLaw
  queues : s.QueueLaw

end Sys2Proof.Machine
end

