-- ==== Sys2Proof/Certificates/Slice0/Obligations.lean ====
section
/-! DEFINITION. The statements for the provers. Each says how the part takes a command or an event of
the opcode table, or what every step keeps. "Unchanged" is said by an equation on the whole state. -/

section
open Sys2Proof Sys2Proof.Machine

/-! ### The block -/

/-- The front command is executed with the rest of the queue. That the block idles on an empty queue
is the model's choice (log entry 6). -/
def Obligations.StepTakesFrontCommand : Prop :=
  ∀ (c : Instr) (rest : List Instr) (s : State),
    step { s with pending := c :: rest } = exec c { s with pending := rest }
      ∧ step { s with pending := [] } = .next { s with pending := [] }

/-- R16. Segment memory, which the manual gives no reset value, and the model's own fields `fresh`
and `pending` keep their values (log entries 2, 3 and 6); the reset values of a port's alignment,
credit and readiness number are the model's choices (log entries 5 and 8). -/
def Obligations.DeviceResetRestores : Prop :=
  ∀ s : State,
    exec .deviceReset s = .next { State.reset with
      held := false, segMem := s.segMem, fresh := s.fresh, pending := s.pending }
    ∧ exec .resetLineAsserted s = .next { State.reset with
      held := true, segMem := s.segMem, fresh := s.fresh, pending := s.pending }

/-- The reset values of R13, R16, R37, R54, R72, R84, R101, R138, R150, R169 and R179. -/
def Obligations.ResetValues : Prop :=
  let s := State.reset
  (s.now = 0 ∧ s.timers = ⟨200, 120, 60, 30, 20, 4⟩ ∧ s.pointer = 0 ∧ s.load = ⟨6, 6, 2, 2, 3000, 2400, 3400, 2800⟩)
  ∧ (∀ p, (s.port p).link = .training ∧ (s.port p).waiting = [] ∧ (s.port p).free = 16
      ∧ (s.port p).responses = [] ∧ (s.port p).notices = [] ∧ (s.port p).overflow = false)
  ∧ (∀ t, let r := s.trunk t
      r.state = .off ∧ r.enable = false ∧ r.autoWake = false ∧ r.idlePeriod = 0 ∧ r.markCarriage = true
        ∧ r.rmin = 96 ∧ r.flags = ⟨false, false, false, false⟩ ∧ r.good = 0 ∧ r.bad = 0 ∧ r.idle = none
        ∧ r.intake = [] ∧ r.echo = .idle ∧ r.ack = 0 ∧ r.holdSent = false
        ∧ r.pollList = [] ∧ r.regular = 0 ∧ r.urgent = []
        ∧ r.control = [] ∧ r.replay = [] ∧ s.chunksLeft t = 0 ∧ r.allocation = none)
  ∧ (∀ c, s.configured c = false
      ∧ s.cell c = ⟨.seat, 0, 160, [], none, .unheard, 0, .radioOff, none, 0, 0, 0, 0, .normal⟩)
  ∧ ((∀ i, s.station? i = none) ∧ (∀ a, s.stationAt? a = none) ∧ ∀ k, s.ticket? k = none)
  ∧ (∀ c k, s.counts c k = ⟨0, 0⟩)
  ∧ (∀ k, s.sectorDemand k = .none ∧ s.stream k = ⟨.closed, none, 0, 0⟩)
  ∧ ((∀ d, s.desc? d = none) ∧ s.freeDescs = 256 ∧ s.freeBlocks = 16384 ∧ s.release = [])
  ∧ s.marks = ⟨0, .internal, .periodic, 10, some 10, 8⟩ ∧ s.grace = none

/-- R16: while the RESET line is asserted every block is held, so that no command but the two of the
line itself changes anything. That no row changes anything there is log entry 11's reading of R16. -/
def Obligations.HeldPartIsInert : Prop :=
  ∀ (i : Instr) (s : State), s.held = true → i ≠ .deviceReset → i ≠ .resetLineAsserted →
    exec i s = .next s

/-- R1: sector time is 0 at device reset, counts up by 1 and wraps modulo 2^32; the time elapsed since
a stamp is the modular difference. -/
def Obligations.SectorTimeCounts : Prop :=
  State.reset.now = 0
  ∧ (∀ s : State, s.held = false → ∃ u, exec .sectorTimeTick s = .next u
      ∧ u.now.toNat = (s.now.toNat + 1) % 2 ^ 32 ∧ u = { s with now := u.now })
  ∧ ∀ now stamp : Time, elapsed now stamp = (now.toNat + 2 ^ 32 - stamp.toNat) % 2 ^ 32

/-! ### Ports -/

/-- R11, R12: a notice joins its port's queue with the sector time, or is dropped with the overflow
flag set when 64 are queued. The number that orders readiness is the model's (log entry 5). -/
def Obligations.NoticeQueuedOrDropped : Prop :=
  ∀ (s : State) (p : PortId) (n : Notice), let q := s.port p
    (q.notices.length < 64 → s.notify p n = s.setPort p
      { q with notices := q.notices ++ [⟨s.now, n, q.ready⟩], ready := q.ready + 1 })
    ∧ (64 ≤ q.notices.length → s.notify p n = s.setPort p { q with overflow := true })
    ∧ (s.notify p n).port p = { q with
        notices := ((s.notify p n).port p).notices
        ready := ((s.notify p n).port p).ready
        overflow := ((s.notify p n).port p).overflow }
    ∧ (∀ p', p' ≠ p → (s.notify p n).port p' = s.port p')
    ∧ s.notify p n = { s with ports := (s.notify p n).ports }

/-- R2, R5, R6: DOWN to TRAINING, the receiver's alignment and TRAINING to UP, with the opening credit;
Port V's return stops the grace timer (R166). That an event which R2 does not list for the link's state
changes nothing is the model's choice (log entry 11). -/
def Obligations.LinkComesUp : Prop :=
  ∀ (p : PortId) (s : State), s.held = false → let q := s.port p
    (q.link = .down → exec (.linkSignalDetected p) s
        = .next (s.setPort p { q with link := .training, aligned := false }))
    ∧ (q.link ≠ .down → exec (.linkSignalDetected p) s = .next s)
    ∧ (q.link = .training → exec (.linkReceiverAligned p) s = .next (s.setPort p { q with aligned := true }))
    ∧ (q.link ≠ .training → exec (.linkReceiverAligned p) s = .next s)
    ∧ (q.link = .training → exec (.linkAligned p) s = .next
        (State.setPort { s with grace := if p = .V then none else s.grace } p
          { q with link := .up, aligned := true, credit := 16 - q.taken }))
    ∧ (q.link ≠ .training → exec (.linkAligned p) s = .next s)

/-- R2, R4, R5: the transitions out of UP and out of TRAINING. Leaving UP discards what waits, keeps
the notices and starts the grace timer of Port V (R166). That the receiver then counts as not
aligned and the controller's credit as 0 is the model's choice (log entry 8), and so is that an
event which R2 does not list for the link's state changes nothing (log entry 11). -/
def Obligations.LinkLeavesUp : Prop :=
  ∀ (p : PortId) (s : State), s.held = false → let q := s.port p
    let left := fun dest => State.setPort { s with grace := if p = .V then some s.now else s.grace } p
      { q with link := dest, aligned := false, waiting := [], responses := [], sending := none, credit := 0 }
    (q.link = .up → exec (.linkSignalLost p) s = .next (left .down)
        ∧ exec (.linkTrainingReceived p) s = .next (left .training)
        ∧ exec (.linkFramingFailure p) s = .next (left .training)
        ∧ (16 ≤ q.taken → exec (.commandWithoutCredit p) s = .next (left .training))
        ∧ (q.taken < 16 → exec (.commandWithoutCredit p) s = .next s))
    ∧ (q.link = .training → exec (.linkSignalLost p) s
        = .next (s.setPort p { q with link := .down, aligned := false }))
    ∧ (q.link = .down → exec (.linkSignalLost p) s = .next s)
    ∧ (q.link ≠ .up → exec (.linkTrainingReceived p) s = .next s
        ∧ exec (.linkFramingFailure p) s = .next s ∧ exec (.commandWithoutCredit p) s = .next s)
/-- R3, R6: on an UP link a command takes an intake entry and a credit; with no entry free it is
discarded and the link leaves UP; in DOWN and TRAINING no command is taken. -/
def Obligations.CommandTakesEntry : Prop :=
  ∀ (p : PortId) (m : PortMessage) (s : State), s.held = false → let q := s.port p
    (q.link = .up → q.taken < 16 → exec (.commandReceived p m) s
        = .next (s.setPort p { q with waiting := q.waiting ++ [m], credit := q.credit - 1 }))
    ∧ (q.link = .up → 16 ≤ q.taken → exec (.commandReceived p m) s = exec (.commandWithoutCredit p) s)
    ∧ (q.link ≠ .up → exec (.commandReceived p m) s = .next s)

/-- R3, R6, R10, R12, Chapter 12.1: with the line free, of the head response and the head notice the one
that became ready first is sent; a notice carries the overflow flag and clears it; when a response has
been sent its entry's credit is signalled. The bytes of a message: the 12-byte header, then the body,
whose fields follow one another, most significant byte first, each 2-byte field at an even offset of
the body (log entry 13), an absent optional field as free bytes (log entry 3). The codes of results, the
codes and the fields of the fifteen notices. R2, R3: what is on the line in each link state. That the two
events change nothing where no message waits or none is under transmission is the model's choice (log
entry 11). -/
def Obligations.OutboundLineOrder : Prop :=
  (∀ (n : Nat) (r : Response), (r.message n).kind = 2 ∧ (r.message n).code = r.code
      ∧ (r.message n).tag = r.tag ∧ (r.message n).resultFlags.toNat = r.result.code
      ∧ (r.message n).spare = 0 ∧ (r.message n).sectorTime = 0 ∧ (r.message n).body = bodyBytes n r.body
      ∧ (r.message n).bodyLength.toNat = (bodyBytes n r.body).length % 65536)
  ∧ (∀ (n : Nat) (o : Bool) (x : QueuedNotice), (x.message n o).kind = 3
      ∧ (x.message n o).sectorTime = x.time ∧ (x.message n o).resultFlags.toNat = (if o then 1 else 0)
      ∧ (x.message n o).code.toNat = x.notice.code ∧ (x.message n o).tag = 0 ∧ (x.message n o).spare = 0
      ∧ (x.message n o).body = bodyBytes n x.notice.fields
      ∧ (x.message n o).bodyLength.toNat = (bodyBytes n x.notice.fields).length % 65536)
  ∧ (∀ m : PortMessage, let w := PortMessage.wire m
      w.length = 12 + m.body.length ∧ w.take 2 = [m.kind, m.code] ∧ numAt w 2 2 = m.tag.toNat
      ∧ numAt w 4 2 = m.bodyLength.toNat ∧ (w.drop 6).take 2 = [m.resultFlags, m.spare]
      ∧ numAt w 8 4 = m.sectorTime.toNat ∧ w.drop 12 = m.body)
  ∧ [Result.ok, .notPermitted, .malformed, .badValue, .noSuch, .exists_, .full, .wrongState, .busy, .noSpace,
      .badSequence, .incomplete, .stale].map Result.code = [0, 1, 2, 3, 4, 5, 6, 7, 8, 9, 10, 11, 12]
  ∧ (∀ (t : TrunkId) (c x : CellId) (i h : StationIx) (k : StreamId) (q : Seq) (o : Token) (n e : Nat)
      (home : Option CellId), let laid := fun (y : Notice) code fields => y.code = code ∧ y.fields = fields
    (∀ a b why, laid (.trunkState t a b why) 0x80 [.u8 t.val, .u8 a.code, .u8 b.code, .u8 why.code])
    ∧ (∀ f, laid (.trunkError t f n) 0x81 [.u8 t.val, .u8 f.bit, .u8 n])
    ∧ (∀ was, laid (.cellSilent c was n) 0x82 [.u8 c, .u8 was.code, .u8 n])
    ∧ laid (.cellHeard c) 0x83 [.u8 c]
    ∧ (∀ a b, laid (.cellCondition c a b n) 0x84 [.u8 c, .u8 a.code, .u8 b.code, .u8 n])
    ∧ (∀ l, laid (.cellLoad c l n) 0x85 [.u8 c, .u8 l.code, .u16 n])
    ∧ laid (.roamForced i c x) 0x86 [.u16 i, .u8 c, .u8 x]
    ∧ (∀ r, laid (.ticketBound o i x r n home) 0x90
        [.u64 o.toNat, .u16 i, .u8 x, .u8 r.code, .u8 n, .u8 (if home = none then 0 else 1), ⟨1, home⟩])
    ∧ laid (.ticketConflict o h c e i x) 0x91 [.u64 o.toNat, .u16 h, .u8 c, .u32 e, .u16 i, .u8 x]
    ∧ (∀ r, laid (.ticketTransferred o h c e i x r) 0x92
        [.u64 o.toNat, .u16 h, .u8 c, .u32 e, .u16 i, .u8 x, .u8 r.code])
    ∧ (∀ why, laid (.ticketReleased o i why home) 0x93
        [.u64 o.toNat, .u16 i, .u8 why.code, .u8 (if home = none then 0 else 1), ⟨1, home⟩])
    ∧ (∀ r st, laid (.ticketRefused o i x r st) 0x94 [.u64 o.toNat, .u16 i, .u8 x, .u8 r.code, .u8 st.code])
    ∧ (∀ a b, laid (.streamDemand k a b) 0xA0 [.u8 k.val, .u8 a.code, .u8 b.code])
    ∧ laid (.streamDrained k) 0xA1 [.u8 k.val]
    ∧ ∀ ts : List TrunkId, (Notice.segmentStale k q ts).code = 0xA2
      ∧ ∃ set, (Notice.segmentStale k q ts).fields = [.u8 k.val, .u16 q.toNat, .u8 set]
        ∧ ∀ j : TrunkId, set.testBit j.val = true ↔ j ∈ ts)
  ∧ [TrunkReason.wakeSignal, .answered, .noAnswer, .aligned, .alignTimeout, .alignLoss, .regained, .gaveUp,
      .idle].map TrunkReason.code = [0, 1, 2, 3, 4, 5, 6, 7, 8]
  ∧ [ErrorFlag.unknownCell, .garbledReport, .controlOverflow, .alignLoss].map ErrorFlag.bit = [0, 1, 2, 3]
  ∧ [Cause.departed, .aged, .detached, .cleared, .left].map Cause.code = [1, 2, 3, 4, 5]
  ∧ [TicketResult.unknown, .void, .notAdmitted, .alreadyBound, .bound, .boundWrongSection, .already,
      .conflict].map TicketResult.code = [1, 2, 3, 4, 5, 6, 7, 8]
  ∧ (∀ (s : State) (p : PortId), let q := s.port p
      (q.link ≠ .up → s.portLine p = .training q.aligned)
      ∧ (q.link = .up → q.sending = none → s.portLine p = .idle)
      ∧ ∀ m, q.link = .up → q.sending = some m → s.portLine p = .message (PortMessage.wire m))
  ∧ (∀ n, bodyBytes n [] = [])
  ∧ (∀ (n : Nat) (fs : List Field) (f : Field), let b := bodyBytes n fs
      let pad := if f.width = 2 ∧ b.length % 2 = 1 then 1 else 0
      ∃ x, bodyBytes n (fs ++ [f]) = b ++ List.replicate pad 0 ++ x ∧ x.length = f.width
        ∧ (∀ v, f.value = some v → numAt x 0 f.width = v % 256 ^ f.width)
        ∧ (f.value = none → ∀ i, i < f.width → x.getD i 0 = Config.absentByte n (b.length + pad + i)))
  ∧ ∀ (p : PortId) (s : State), s.held = false → let q := s.port p
    let more := { s with fresh := s.fresh + 1 }
    (q.link = .up → q.sending = none →
      (q.responses = [] → q.notices = [] → exec (.outboundSend p) s = .next s)
      ∧ (∀ r rs, q.responses = r :: rs → (∀ n ∈ q.notices.head?, r.ready < n.ready) →
          exec (.outboundSend p) s = .next (more.setPort p
            { q with responses := rs, sending := some (r.message s.fresh) }))
      ∧ (∀ n ns, q.notices = n :: ns → (∀ r ∈ q.responses.head?, n.ready ≤ r.ready) →
          exec (.outboundSend p) s = .next (more.setPort p
            { q with notices := ns, sending := some (n.message s.fresh q.overflow), overflow := false }))
      ∧ exec (.outboundMessageSent p) s = .next s)
    ∧ (∀ m, q.link = .up → q.sending = some m →
      exec (.outboundSend p) s = .next s
      ∧ exec (.outboundMessageSent p) s = .next (s.setPort p
          { q with sending := none, credit := q.credit + if m.kind = 2 then 1 else 0 }))
    ∧ (q.link ≠ .up → exec (.outboundSend p) s = .next s ∧ exec (.outboundMessageSent p) s = .next s)
/-- R180: the five checks in their order, with the lengths that follow from a count or the selector;
the codes of the commands (Chapter 12.1) and the command set of each port (R9); a message they
refuse is answered with an empty body, by MALFORMED_MESSAGE and by the row of the command it names,
and has no effect on any block. -/
def Obligations.RefusedMessageAnswered : Prop :=
  (∀ (p : PortId) (m : PortMessage),
    (m.kind ≠ 1 → refusal p m = some .malformed)
    ∧ (m.kind = 1 → (∀ c : Command, c.code ≠ m.code.toNat) → refusal p m = some .malformed)
    ∧ ∀ c : Command, m.kind = 1 → c.code = m.code.toNat →
      (c.permitted p = false → refusal p m = some .notPermitted)
      ∧ (c.permitted p = true → (1040 < m.bodyLength.toNat ∨ m.bodyLength.toNat ≠ m.body.length) →
          refusal p m = some .malformed)
      ∧ (c.permitted p = true → m.body.length ≠ c.length m.body → refusal p m = some .malformed)
      ∧ (c.permitted p = true → m.bodyLength.toNat ≤ 1040 → m.bodyLength.toNat = m.body.length →
          m.body.length = c.length m.body → refusal p m = none))
  ∧ (let onW : List Command := [.cellSet, .loadSet, .trunkSet, .trunkStart, .trunkStandby, .trunkReset,
        .pollListSet, .pollUrgent, .timersSet, .stationDetach, .stationClear, .cellQuery, .trunkQuery]
    let onT : List Command := [.ticketLoad, .gateAdmit, .gateExit, .ticketVoid, .ticketQuery, .ticketClear]
    let onV : List Command := [.streamOpen, .streamClose, .segBegin, .segData, .segEnd, .segAbort, .mark,
        .markSet, .streamQuery, .fanoutQuery, .replayClear]
    onW.map Command.code = (List.range 13).map (0x10 + ·) ∧ onT.map Command.code = (List.range 6).map (0x20 + ·)
      ∧ onV.map Command.code = (List.range 11).map (0x30 + ·)
      ∧ Command.stationQuery.code = 0x40 ∧ Command.partStatus.code = 0x41
      ∧ ∀ (p : PortId) (c : Command), c.permitted p = true ↔ c = .stationQuery ∨ c = .partStatus ∨ c ∈ match p with
          | .W => onW
          | .T => onT
          | .V => onV)
  ∧ (∀ b : List Byte, Command.cellSet.length b = 10 + byteAt b 5
      ∧ Command.pollListSet.length b = 2 + byteAt b 1 ∧ Command.ticketLoad.length b = 1 + 12 * byteAt b 0
      ∧ Command.stationQuery.length b = if byteAt b 0 = 0 then 4 else 7)
  ∧ (∀ (p : PortId) (m : PortMessage) (r : Result) (s : State), s.held = false → (s.port p).link = .up →
      (s.port p).waiting.head? = some m → refusal p m = some r →
      exec (.malformedMessage p) s = .next (s.answered p m r []))
  ∧ ∀ (i : Instr) (p : PortId) (c : Command) (m : PortMessage) (r : Result) (s : State),
      portCommand i = some (p, c) → s.Heads p c m → refusal p m = some r →
      exec i s = .next (s.answered p m r [])

/-- R7, R8: the row of a port command takes the oldest command of the port, which leaves the intake;
its response joins the response path with the same code and tag, and with an empty body unless the
result is OK. The other ports' commands and responses are untouched. -/
def Obligations.EveryCommandAnswered : Prop :=
  ∀ (i : Instr) (p : PortId) (c : Command) (m : PortMessage) (s : State),
    portCommand i = some (p, c) → s.Taking p c m →
    ∃ u result body stamp, exec i s = .next u
      ∧ (u.port p).waiting = (s.port p).waiting.tail
      ∧ (u.port p).responses = (s.port p).responses ++ [⟨m.code, m.tag, result, body, stamp⟩]
      ∧ (result ≠ .ok → body = [])
      ∧ (u.port p).link = .up ∧ (u.port p).sending = (s.port p).sending
      ∧ (u.port p).credit = (s.port p).credit
      ∧ ∀ q, q ≠ p → (u.port q).waiting = (s.port q).waiting ∧ (u.port q).responses = (s.port q).responses
          ∧ (u.port q).link = (s.port q).link ∧ (u.port q).sending = (s.port q).sending

/-- R32, R61, R94, R124, R151: a command that names a trunk, a stream, a ticket or a station that does
not exist is answered NO_SUCH and has no effect. -/
def Obligations.UnknownNameRefused : Prop :=
  ∀ (i : Instr) (p : PortId) (c : Command) (m : PortMessage) (s : State),
    portCommand i = some (p, c) → s.Taking p c m →
    ((c ∈ [.trunkSet, .trunkStart, .trunkStandby, .trunkReset, .trunkQuery, .pollListSet]
        ∧ 8 ≤ byteAt m.body 0)
      ∨ (c ∈ [.streamOpen, .streamClose, .segBegin, .segData, .segEnd, .segAbort, .streamQuery, .fanoutQuery]
        ∧ 16 ≤ byteAt m.body 0)
      ∨ (c ∈ [.gateAdmit, .gateExit, .ticketVoid, .ticketQuery] ∧ s.ticket? (tokenOf m) = none)
      ∨ (c = .stationDetach
        ∧ ∀ r, s.station? (numAt m.body 0 2) = some r → r.address.toNat ≠ numAt m.body 2 6)) →
    exec i s = .next (s.answered p m .noSuch [])

/-! ### Timers, queries and the snapshot of the part -/

/-- R13: the six values of TIMERS_SET, the roam timeout rounded down to 4 ms, each clamped into its
range, in effect and returned; a TIMERS_SET of a wrong length is MALFORMED and changes no value. -/
def Obligations.TimersSetClamps : Prop :=
  State.reset.timers = ⟨200, 120, 60, 30, 20, 4⟩
  ∧ (∀ (p : PortId) (m : PortMessage) (s : State), s.Taking p .timersSet m →
      let v := fun o => numAt m.body o 2
      let w : Timers := ⟨max 16 (min 1000 (v 0 - v 0 % 4)), max 10 (min 600 (v 2)), max 5 (min 600 (v 4)),
        max 5 (min 300 (v 6)), max 1 (min 120 (v 8)), max 2 (min 15 (v 10))⟩
      exec (.timersSet p) s = .next (State.answered { s with timers := w } p m .ok
        [.u16 w.roamTimeout, .u16 w.ageLimit, .u16 w.seatGrace, .u16 w.window, .u16 w.steerHold,
         .u16 w.silence]))
  ∧ ∀ (m : PortMessage) (s : State), s.Heads .W .timersSet m → m.kind = 1 → m.body.length ≠ 12 →
      exec (.timersSet .W) s = .next (s.answered .W m .malformed [])

/-- R36, R60, R83, R100, R128, R149, R168: each query answers its snapshot, figure by figure, and changes
nothing; TRUNK_QUERY with the clear option clears the four flags after the snapshot. Ceff and standing
of a cell that is not configured rest on log entry 24. Which fields of an optional group are sent, and
behind which presence byte (the override of a cell, a ticket's holder, the upload, a HELD descriptor),
and that d is sent as 16 bits, are the model's choices (log entry 20); the bytes of an absent field are
free (log entry 3). -/
def Obligations.QueriesReportRecords : Prop :=
  ∀ (p : PortId) (m : PortMessage) (s : State), let b := m.body
    (s.Taking p .cellQuery m →
      let c := byteAt b 0
      let x := s.cell c
      exec (.cellQuery p) s = .next (s.answered p m .ok
        ([.u8 (bit (s.configured c)), .u8 x.kind.code, .u8 x.section_, .u8 x.cmax,
          .u8 x.neighbours.length] ++ x.neighbours.map .u8
          ++ [.u8 (bit x.override.isSome), ⟨2, x.override.map Prod.fst⟩, ⟨2, x.override.map Prod.snd⟩,
              .u8 x.live.code, .u8 x.miss, .u8 x.accepted.code,
              .u8 (match x.candidate with
                | some k => k.code
                | none => 0xFF),
              .u8 x.lastA, .u8 x.attached, .u8 x.incoming, .u16 x.score, .u8 x.load.code,
              .u8 (if x.accepted = .degraded then max 1 (x.cmax / 2) else x.cmax),
              .u8 (bit (s.configured c && x.live == .live
                && (x.accepted == .run || x.accepted == .degraded))),
              .u8 (allStreams.filter fun k => 0 < (s.counts c k).full + (s.counts c k).lean).length])))
    ∧ (∀ t : TrunkId, s.Taking p .trunkQuery m → byteAt b 0 = t.val → let r := s.trunk t
      let snapshot := [.u8 r.state.code, .u8 (bit r.enable), .u8 (bit r.autoWake), .u16 r.idlePeriod,
          .u8 (bit r.markCarriage), .u16 r.rmin,
          .u8 (bit r.flags.unknownCell + 2 * bit r.flags.garbledReport + 4 * bit r.flags.controlOverflow
            + 8 * bit r.flags.alignLoss),
          .u8 r.good, .u8 r.bad, .u8 (bit r.holdSent), .u8 r.intake.length, .u8 r.urgent.length,
          .u16 r.control.length, .u16 r.replay.length,
          .u32 (r.replay.map fun d => ((s.desc? d).map fun x => (x.carry t).remaining).getD 0).sum]
        ++ optField 4 (r.idle.map (elapsed s.now))
      (byteAt b 1 = 0 → exec (.trunkQuery p) s = .next (s.answered p m .ok snapshot))
      ∧ (byteAt b 1 = 1 → exec (.trunkQuery p) s = .next
          (State.answered (s.setTrunk t { r with flags := ⟨false, false, false, false⟩ }) p m .ok snapshot))
      ∧ (2 ≤ byteAt b 1 → exec (.trunkQuery p) s = .next (s.answered p m .badValue [])))
    ∧ (∀ i r, s.Taking p .stationQuery m →
      ((byteAt b 0 = 0 ∧ i = numAt b 2 2 ∧ s.station? i = some r)
        ∨ (byteAt b 0 = 1 ∧ s.stationAt? (BitVec.ofNat 48 (numAt b 1 6)) = some (i, r))) →
      exec (.stationQuery p) s = .next (s.answered p m .ok
        ([.u16 i, .u48 r.address.toNat, .u8 (bit r.roam.isSome), .u8 r.cell]
          ++ optField 1 (r.roam.map fun x => x.pending) ++ optField 4 (r.roam.map fun x => x.start.toNat)
          ++ [.u8 r.binding.code]
          ++ optField 8 (match r.binding with
            | .bound k => some k.toNat
            | _ => none)
          ++ [.u8 r.subs.length] ++ r.subs.map (fun k => .u8 k.val)
          ++ [.u8 r.tier.code, .u32 r.lastHeard.toNat]
          ++ optField 4 (r.grace.map fun x => x.toNat) ++ optField 4 (r.steerHold.map fun x => x.toNat)
          ++ [.u32 s.now.toNat])))
    ∧ (s.Taking p .stationQuery m →
      ((byteAt b 0 = 0 ∧ s.station? (numAt b 2 2) = none)
        ∨ (byteAt b 0 = 1 ∧ s.stationAt? (BitVec.ofNat 48 (numAt b 1 6)) = none)) →
      exec (.stationQuery p) s = .next (s.answered p m .noSuch []))
    ∧ (s.Taking p .stationQuery m → 2 ≤ byteAt b 0 →
      exec (.stationQuery p) s = .next (s.answered p m .badValue []))
    ∧ (∀ t, s.Taking p .ticketQuery m → s.ticket? (tokenOf m) = some t →
      let record := fun holder => [.u64 (tokenOf m).toNat, .u8 t.section_] ++ optField 1 t.home
        ++ [.u8 t.tier.level.code, .u8 t.state.code] ++ optField 2 holder ++ [.u8 t.entries]
      ((∀ h, t.state ≠ .seated h) →
        exec (.ticketQuery p) s = .next (s.answered p m .ok (record none)))
      ∧ ∀ h r, t.state = .seated h → s.station? h = some r →
        exec (.ticketQuery p) s = .next (s.answered p m .ok (record (some h)
          ++ [.u8 r.cell, .u8 (bit r.roam.isSome), .u32 (elapsed s.now r.lastHeard), .u16 s.timers.window])))
    ∧ (∀ k : StreamId, s.Taking p .streamQuery m → byteAt b 0 = k.val → let r := s.stream k
      let entry := fun e : Nat × Desc =>
        [.u8 e.1, .u8 e.2.state.code, .u16 e.2.sequence.toNat, .u16 e.2.mark.toNat,
          .u16 (s.marks.count - e.2.mark).toNat]
        ++ match e.2.state with
          | .released refs cs => .u8 refs :: allTrunks.flatMap fun t =>
              [.u8 (cs[t.val]).rendition.code, .u16 (cs[t.val]).remaining]
          | _ => []
      let listed := s.descs.entries.filter fun e => e.2.stream == k && match e.2.state with
          | .uploading _ => false
          | _ => true
      let answer := fun (upload : List Field) => exec (.streamQuery p) s = .next (s.answered p m .ok
        ([.u8 r.state.code] ++ optField 2 (r.lastSeq.map fun q => q.toNat) ++ [.u16 r.inUse, .u16 r.unwatched]
          ++ upload ++ [.u16 listed.length] ++ listed.flatMap entry
          ++ [.u16 s.marks.count.toNat, .u8 s.marks.source.code, .u8 s.marks.mode.code, .u16 s.marks.period,
              .u16 s.marks.stale]
          ++ optField 4 (s.grace.map (elapsed s.now))))
      (s.upload? k = none → answer [.u8 0, ⟨1, none⟩, ⟨2, none⟩, ⟨2, none⟩, ⟨2, none⟩, ⟨2, none⟩, ⟨2, none⟩])
      ∧ ∀ d x next, s.upload? k = some (d, x, next) →
        (d, x) ∈ s.descs.entries ∧ x.stream = k ∧ x.state = .uploading next
        ∧ answer [.u8 1, .u8 d, .u16 x.sequence.toNat, .u16 x.mark.toNat, .u16 x.nL, .u16 x.nX, .u16 next])
    ∧ (∀ k : StreamId, s.Taking p .fanoutQuery m → byteAt b 0 = k.val →
      let ofTrunk := fun (f : CellId → Nat) (t : TrunkId) =>
        ((List.range 32).map fun pos => f (32 * t.val + pos)).sum
      let fulls := ofTrunk fun c => (s.counts c k).full
      let leans := ofTrunk fun c => (s.counts c k).lean
      let watched := ofTrunk fun c => if 0 < (s.counts c k).full + (s.counts c k).lean then 1 else 0
      exec (.fanoutQuery p) s = .next (s.answered p m .ok
        ([.u8 (s.stream k).state.code, .u8 (s.sectorDemand k).code]
          ++ allTrunks.map (fun t => .u8 (s.trunk t).state.code)
          ++ allTrunks.map (fun t => .u8 (s.trunkDemand t k).code)
          ++ allTrunks.map (fun t => .u16 (fulls t)) ++ allTrunks.map (fun t => .u16 (leans t))
          ++ allTrunks.map (fun t => .u8 (watched t))
          ++ [.u16 (allTrunks.map fulls).sum, .u16 (allTrunks.map leans).sum])))
    ∧ allTrunks = [0, 1, 2, 3, 4, 5, 6, 7]
    ∧ (∀ (w : Nat) (o : Option Nat), optField w o = [.u8 (if o = none then 0 else 1), ⟨w, o⟩])
    ∧ [TrunkState.off, .standby, .waking, .aligning, .active, .lost].map TrunkState.code = [0, 1, 2, 3, 4, 5]
    ∧ [Liveness.unheard, .live, .silent].map Liveness.code = [0, 1, 2]
    ∧ [Condition.run, .degraded, .overtemp, .rebooting, .radioOff].map Condition.code = [0, 1, 2, 3, 4]
    ∧ [CellKind.seat, .concourse].map CellKind.code = [0, 1]
    ∧ [LoadState.normal, .crowded].map LoadState.code = [0, 1]
    ∧ [Level.none, .lean, .full].map Level.code = [0, 1, 2]
    ∧ [Binding.unbound, .bound 1, .fenced].map Binding.code = [0, 1, 2]
    ∧ [TicketState.issued, .admitted, .seated 0, .exited, .void].map TicketState.code = [0, 1, 2, 3, 4]
    ∧ [StreamState.closed, .opened, .draining].map StreamState.code = [0, 1, 2]
    ∧ (∀ n cs, [DescState.uploading n, .held, .released n cs].map DescState.code = [1, 2, 3])
    ∧ [MarkSource.internal, .portV].map MarkSource.code = [0, 1]
    ∧ [GenMode.periodic, .single, .stopped].map GenMode.code = [0, 1, 2]
/-- R15: PART_STATUS is in every port's set; its snapshot has every figure as it stands, reading changes
nothing, and the asking port reads UP. -/
def Obligations.PartStatusSnapshot : Prop :=
  ∀ (p : PortId) (m : PortMessage) (s : State), s.Taking p .partStatus m →
    exec (.partStatus p) s = .next (s.answered p m .ok
      ([.u8 (s.port .W).link.code, .u8 (s.port .T).link.code, .u8 (s.port .V).link.code,
        .u8 (s.port .W).notices.length, .u8 (s.port .T).notices.length, .u8 (s.port .V).notices.length,
        .u8 (bit (s.port .W).overflow), .u8 (bit (s.port .T).overflow), .u8 (bit (s.port .V).overflow)]
        ++ [0, 1, 2, 3, 4, 5, 6, 7].map (fun t : TrunkId => .u8 (s.trunk t).state.code)
        ++ [.u16 s.cells.entries.length, .u16 s.stations.entries.length, .u16 s.tickets.entries.length,
            .u8 (allStreams.filter fun k => (s.stream k).state = .opened).length,
            .u16 (256 - s.descs.entries.length), .u16 (16384 - s.used.length),
            .u32 s.now.toNat, .u16 s.marks.count.toNat]))
    ∧ (s.port p).link.code = 2 ∧ Command.partStatus.permitted .W = true
    ∧ Command.partStatus.permitted .T = true ∧ Command.partStatus.permitted .V = true

/-! ### Trunks -/

/-- R22, R30, R33: TRUNK_SET stores the five settings, clamped, applies the enable setting and returns
them with the trunk's state; the idle timer starts, restarts, runs on or stops; a setting other than on
or off is refused. With the setting on, the rest of the record and of the part stays as it is; with it off
a trunk in STANDBY, WAKING or ALIGNING also stops framing and loses its intake queue and urgent set (ACTIVE
and LOST: `TrunkExitEffects`). The station, ticket and fan-out tables stay as they are (R101, R138, R150). -/
def Obligations.TrunkSetStores : Prop :=
  ∀ (p : PortId) (m : PortMessage) (s : State) (t : TrunkId), s.Taking p .trunkSet m →
    byteAt m.body 0 = t.val →
    let period := min 3600 (numAt m.body 4 2)
    let runs := byteAt m.body 1 = 1 ∧ (s.trunk t).state = .active ∧ period ≠ 0 ∧ s.Deserted t
    ((2 ≤ byteAt m.body 1 ∨ 2 ≤ byteAt m.body 2 ∨ 2 ≤ byteAt m.body 6) →
      exec (.trunkSet p) s = .next (s.answered p m .badValue []))
    ∧ (byteAt m.body 1 < 2 → byteAt m.body 2 < 2 → byteAt m.body 6 < 2 → ∃ u stamp,
      exec (.trunkSet p) s = .next u
      ∧ (u.trunk t).enable = (byteAt m.body 1 == 1) ∧ (u.trunk t).autoWake = (byteAt m.body 2 == 1)
      ∧ (u.trunk t).idlePeriod = period
      ∧ (u.trunk t).markCarriage = (byteAt m.body 6 == 1) ∧ (u.trunk t).rmin = min 320 (numAt m.body 8 2)
      ∧ (u.trunk t).state = (if byteAt m.body 1 = 0 then .off
          else if (s.trunk t).state = .off then .standby else (s.trunk t).state)
      ∧ (¬ runs → (u.trunk t).idle = none)
      ∧ (runs → (u.trunk t).idle = some (match (s.trunk t).idle with
          | some stamp => if period = (s.trunk t).idlePeriod then stamp else s.now
          | none => s.now))
      ∧ (u.port p).responses = (s.port p).responses ++ [⟨m.code, m.tag, .ok,
          [.u8 (byteAt m.body 1), .u8 (byteAt m.body 2), .u16 period,
           .u8 (byteAt m.body 6), .u16 (min 320 (numAt m.body 8 2)), .u8 (u.trunk t).state.code], stamp⟩]
      ∧ (u.trunk t).pollList = (s.trunk t).pollList ∧ (u.trunk t).regular = (s.trunk t).regular
      ∧ (u.trunk t).flags = (s.trunk t).flags
      ∧ (∀ t', t' ≠ t → u.trunk t' = s.trunk t')
      ∧ u = { s with trunks := u.trunks, ports := u.ports, cells := u.cells, demand := u.demand,
                     streams := u.streams, descs := u.descs, used := u.used })
    ∧ (let r := s.trunk t
      let stored : Trunk := { r with
        enable := byteAt m.body 1 == 1, autoWake := byteAt m.body 2 == 1, idlePeriod := period
        markCarriage := byteAt m.body 6 == 1, rmin := min 320 (numAt m.body 8 2) }
      let leads := fun (after : Trunk) => exec (.trunkSet p) s = .next (State.answered (s.setTrunk t after) p m .ok
        [.u8 (byteAt m.body 1), .u8 (byteAt m.body 2), .u16 period, .u8 (byteAt m.body 6),
         .u16 (min 320 (numAt m.body 8 2)), .u8 after.state.code])
      byteAt m.body 2 < 2 → byteAt m.body 6 < 2 →
        (byteAt m.body 1 = 1 → ∃ idle, leads { stored with
          state := if r.state = .off then .standby else r.state, idle := idle })
        ∧ (byteAt m.body 1 = 0 → r.state = .off → leads { stored with idle := none })
        ∧ (byteAt m.body 1 = 0 → r.state ≠ .off → r.state.serving = false → leads { stored with
          state := .off, entry := none, idle := none, control := [], intake := [], urgent := []
          nextFrame := 0, mfTaken := false, markField := none, awaiting := false, polled := none
          marker := false, fails := 0, echo := .idle, ack := 0, allocation := none, frame := none }))
/-- R32, R34: TRUNK_START in every state; TRUNK_STANDBY and TRUNK_RESET in every state but ACTIVE and
LOST, which `TrunkExitEffects` covers. The response carries the trunk's state after the command. -/
def Obligations.TrunkCommandsByState : Prop :=
  ∀ (p : PortId) (m : PortMessage) (s : State) (t : TrunkId), byteAt m.body 0 = t.val →
    let r := s.trunk t
    (s.Taking p .trunkStart m →
      (r.state = .off → exec (.trunkStart p) s = .next (s.answered p m .wrongState []))
      ∧ (r.state = .standby → exec (.trunkStart p) s = .next (State.answered
          (s.setTrunk t { r with state := .waking, entry := some s.now }) p m .ok [.u8 2]))
      ∧ (r.state ≠ .off → r.state ≠ .standby →
          exec (.trunkStart p) s = .next (s.answered p m .ok [.u8 r.state.code])))
    ∧ (s.Taking p .trunkStandby m →
      (r.state = .off → exec (.trunkStandby p) s = .next (s.answered p m .wrongState []))
      ∧ (r.state = .standby → exec (.trunkStandby p) s = .next (s.answered p m .ok [.u8 1]))
      ∧ (r.state = .waking ∨ r.state = .aligning → exec (.trunkStandby p) s = .next (State.answered
          (s.setTrunk t (r.quit .standby none)) p m .ok [.u8 1])))
    ∧ (s.Taking p .trunkReset m →
      (r.state = .off → exec (.trunkReset p) s = .next (s.answered p m .wrongState []))
      ∧ (r.state = .standby → exec (.trunkReset p) s = .next (State.answered
          (s.setTrunk t { r with intake := [], urgent := [], regular := 0
                                 flags := ⟨false, false, false, false⟩ }) p m .ok [.u8 1]))
      ∧ (r.state = .waking ∨ r.state = .aligning → exec (.trunkReset p) s = .next (State.answered
          (s.setTrunk t { r.quit .standby none with intake := [], urgent := [], regular := 0
                                                    flags := ⟨false, false, false, false⟩ })
          p m .ok [.u8 1])))

/-- R22, R28, R29, R30, R31, R34: every way from ACTIVE or LOST to OFF, STANDBY or WAKING stops framing
and the idle timer, discards the control queue and makes the trunk's configured cells UNHEARD (R67);
from ACTIVE the replay queue is flushed; TRUNK_RESET adds its reset effects. An expiry queues its
TRUNK_STATE, a command its response alone; no station, ticket or count is touched. The two expiries do
nothing before their time, or in another state (log entry 11). That a cell already UNHEARD keeps its
whole record is the model's choice (log entry 7). -/
def Obligations.TrunkExitEffects : Prop :=
  (∀ (s : State) (t : TrunkId) (i : Instr) (dest : TrunkState) (after : Trunk) (w : Port), s.held = false →
    (s.trunk t).state.serving = true →
    let r := s.trunk t
    let left : Trunk := { r with
      state := dest, entry := if dest = .waking then some s.now else none, idle := none, control := []
      replay := if r.state = .active then [] else r.replay
      nextFrame := 0, mfTaken := false, markField := none, awaiting := false, polled := none
      marker := false, fails := 0, echo := .idle, ack := 0, allocation := none, frame := none }
    let told := fun why => (s.notify .W (.trunkState t r.state dest why)).ports.w
    ((∃ stamp, i = .idleTimerExpiry t ∧ dest = .standby ∧ r.state = .active ∧ r.idle = some stamp
        ∧ r.idlePeriod * 250 ≤ elapsed s.now stamp ∧ after = left ∧ w = told .idle)
      ∨ (∃ stamp, i = .lostGiveUp t ∧ dest = .waking ∧ r.state = .lost ∧ r.entry = some stamp
        ∧ 250 ≤ elapsed s.now stamp ∧ after = left ∧ w = told .gaveUp)
      ∨ (∃ p m, i = .trunkStandby p ∧ s.Taking p .trunkStandby m ∧ byteAt m.body 0 = t.val
        ∧ dest = .standby ∧ after = left ∧ w = (s.answered .W m .ok [.u8 1]).ports.w)
      ∨ (∃ p m, i = .trunkReset p ∧ s.Taking p .trunkReset m ∧ byteAt m.body 0 = t.val ∧ dest = .standby
        ∧ after = { left with intake := [], urgent := [], regular := 0, flags := ⟨false, false, false, false⟩ }
        ∧ w = (s.answered .W m .ok [.u8 1]).ports.w)
      ∨ (∃ p m, i = .trunkSet p ∧ s.Taking p .trunkSet m ∧ byteAt m.body 0 = t.val ∧ dest = .off
        ∧ byteAt m.body 1 = 0 ∧ byteAt m.body 2 < 2 ∧ byteAt m.body 6 < 2
        ∧ after = { left with
            enable := false, autoWake := byteAt m.body 2 == 1, idlePeriod := min 3600 (numAt m.body 4 2)
            markCarriage := byteAt m.body 6 == 1, rmin := min 320 (numAt m.body 8 2), intake := [], urgent := [] }
        ∧ w = (s.answered .W m .ok [.u8 0, .u8 (byteAt m.body 2), .u16 (min 3600 (numAt m.body 4 2)),
            .u8 (byteAt m.body 6), .u16 (min 320 (numAt m.body 8 2)), .u8 0]).ports.w)) →
    ∃ u, exec i s = .next u ∧ u.trunk t = after ∧ u.ports.w = w ∧ u.ports.t = s.ports.t
      ∧ (∀ c x, c ∈ cellsOf t → s.cells.get? c = some x → ∃ y, u.cells.get? c = some y
          ∧ y.live = .unheard
          ∧ (x.live ≠ .unheard → y = { x with
              live := .unheard, miss := 0, accepted := .radioOff, candidate := none })
          ∧ (x.live = .unheard → y = x))
      ∧ (∀ c, c ∉ cellsOf t → u.cells.get? c = s.cells.get? c)
      ∧ (∀ t', t' ≠ t → (u.trunk t') = s.trunk t')
      ∧ u = { s with trunks := u.trunks, ports := u.ports, cells := u.cells, demand := u.demand,
                     streams := u.streams, descs := u.descs, used := u.used })
  ∧ ∀ (s : State) (t : TrunkId), s.held = false → let r := s.trunk t
    ((r.state ≠ .lost ∨ ∀ stamp, r.entry = some stamp → elapsed s.now stamp < 250) →
      exec (.lostGiveUp t) s = .next s)
    ∧ ((r.state ≠ .active ∨ ∀ stamp, r.idle = some stamp → elapsed s.now stamp < r.idlePeriod * 250) →
      exec (.idleTimerExpiry t) s = .next s)
/-- R23, R24, R25, R31: the events of STANDBY, WAKING and ALIGNING, each with its TRUNK_STATE notice,
and that a wake signal with auto-wake off does nothing. That an expiry before 1,000 ms have passed, and a
signal or an expiry in another state, do nothing is the model's choice (log entry 11). -/
def Obligations.TrunkEventsByState : Prop :=
  ∀ (s : State) (t : TrunkId), s.held = false → let r := s.trunk t
    let due := ∃ stamp, r.entry = some stamp ∧ 250 ≤ elapsed s.now stamp
    let told := fun v a b why => State.notify v .W (.trunkState t a b why)
    (r.state = .standby → r.autoWake = true → exec (.wakeSignal t) s = .next
        (told (s.setTrunk t { r with state := .waking, entry := some s.now }) .standby .waking .wakeSignal))
    ∧ ((r.state ≠ .standby ∨ r.autoWake = false) → exec (.wakeSignal t) s = .next s)
    ∧ (r.state = .waking → exec (.upstreamSignalDetected t) s = .next
        (told (s.setTrunk t { r.stopFraming with state := .aligning, entry := some s.now, good := 0 })
          .waking .aligning .answered))
    ∧ (r.state ≠ .waking → exec (.upstreamSignalDetected t) s = .next s)
    ∧ (r.state = .waking → due → exec (.wakeTimeout t) s = .next
        (told (s.setTrunk t (r.quit .standby none)) .waking .standby .noAnswer))
    ∧ ((r.state ≠ .waking ∨ ¬ due) → exec (.wakeTimeout t) s = .next s)
    ∧ (r.state = .aligning → due → exec (.alignTimeout t) s = .next
        (told (s.setTrunk t (r.quit .waking (some s.now))) .aligning .waking .alignTimeout))
    ∧ ((r.state ≠ .aligning ∨ ¬ due) → exec (.alignTimeout t) s = .next s)

/-- R18, R175: a multiframe start fixes the mark field, and on an ACTIVE trunk the slots: the floor is
min(Dr, Rmin), C is min(Q, 368 − floor), Rp is min(Dr, 368 − C), with the three bounds of R175, and the
plan is the first Rp chunks still to send, in queue order and chunk order. Dr is the number of chunks still
to send. That it does nothing while the last upstream frame is outstanding, or once
taken already, is the model's choice (log entry 17). -/
def Obligations.MultiframeStartAllocates : Prop :=
  ∀ (s : State) (t : TrunkId), s.held = false → let r := s.trunk t
    let left := fun d => match s.desc? d with
      | none => []
      | some y => match y.state with
        | .released _ cs =>
          let n := match cs[t.val].rendition with
            | .none => 0
            | .lean => y.nL
            | .full => y.nL + y.nX
          (List.range cs[t.val].remaining).map fun j => PlanEntry.mk d (n - cs[t.val].remaining + j)
        | .uploading _ | .held => []
    let dr := (r.replay.map fun d => (left d).length).sum
    (r.state.framing = true → r.awaiting = false → r.nextFrame = 0 → r.mfTaken = false →
      ∃ a, exec (.multiframeStart t) s = .next (s.setTrunk t { r with
          mfTaken := true
          markField := if r.markCarriage then some s.marks.count else none
          allocation := a })
        ∧ (r.state ≠ .active → a = none)
        ∧ (r.state = .active → ∃ x, a = some x ∧ x.control = min r.control.length (368 - min dr r.rmin)
            ∧ x.replay = min dr (368 - x.control) ∧ x.control + x.replay ≤ 368
            ∧ (r.rmin ≤ 320 →
                min dr r.rmin ≤ x.replay ∧ min r.control.length 48 ≤ x.control)
            ∧ x.plan = ((r.replay.flatMap left).take x.replay).map some))
    ∧ ((r.state.framing = false ∨ r.awaiting = true ∨ r.nextFrame ≠ 0 ∨ r.mfTaken = true) →
        exec (.multiframeStart t) s = .next s)

/-- R17, R18, R38: a frame of an ALIGNING trunk has the hold flag set, echo IDLE, no poll, ack 0 and 23
EMPTY slots, and what its upstream frame brings is ignored but for the marker and the frame check. That
FRAME_START does nothing while an upstream frame is outstanding is the model's choice (log entry 17). -/
def Obligations.AligningFrames : Prop :=
  ∀ (s : State) (t : TrunkId), s.held = false → (s.trunk t).state = .aligning → let r := s.trunk t
    let due := r.nextFrame = 0 ∧ r.mfTaken = false
    let mark := if due then (if r.markCarriage then some s.marks.count else none) else r.markField
    (r.awaiting = false → exec (.frameStart t) s = .next (s.setTrunk t { r with
        nextFrame := (r.nextFrame + 1) % 16, mfTaken := false, awaiting := true, polled := none
        holdSent := true, markField := mark, allocation := if due then none else r.allocation
        frame := some ⟨r.nextFrame, true, .idle, none, 0, if r.nextFrame = 0 then some mark else none,
          List.replicate 23 .empty⟩ }))
    ∧ (r.awaiting = true → exec (.frameStart t) s = .next s)
    ∧ ∀ f : UpFrame, r.awaiting = true → r.nextFrame ≠ 0 →
        exec (.upstreamFrameReceived t f) s = .next (s.setTrunk t { r with
          awaiting := false, polled := none, echo := .idle, ack := 0
          marker := if r.nextFrame = 1 then f.marker else r.marker
          fails := (if r.nextFrame = 1 then 0 else r.fails) + if f.checkOk then 0 else 1 })

/-- R17, R18, R47, R62, R176, R177: a frame of an ACTIVE or LOST trunk: its number, hold flag, echo, ack
count, poll choice and mark, and its 23 slots, which are slot numbers 23 × frame number onward of the
multiframe, filled in slot order; all EMPTY where no allocation stands. No block but the carriage is
touched. R17, R21, R23: what is on the line in each state; in WAKING it is wake frames. That nothing is
sent while the last upstream frame is outstanding is the model's choice (log entry 17). -/
def Obligations.ServingFrames : Prop :=
  (∀ (s : State) (t : TrunkId), s.held = false → (s.trunk t).state.serving = true → let r := s.trunk t
    let due := r.nextFrame = 0 ∧ r.mfTaken = false
    let mark := if due then (if r.markCarriage then some s.marks.count else none) else r.markField
    (r.awaiting = true → exec (.frameStart t) s = .next s)
    ∧ (r.awaiting = false → ∃ u f, exec (.frameStart t) s = .next u ∧ (u.trunk t).frame = some f
      ∧ f.number = r.nextFrame ∧ f.echo = r.echo ∧ f.ack = r.ack
      ∧ (f.hold = true ↔ 30 ≤ r.intake.length ∨ 497 ≤ r.control.length)
      ∧ f.mark = (if r.nextFrame = 0 then some mark else none)
      ∧ f.slots.length = 23
      ∧ ((r.state = .lost ∧ (due ∨ r.allocation = none)) →
          f.slots = List.replicate 23 .empty ∧ (u.trunk t).control = r.control)
      ∧ (∃ (v : State) (run : Nat → State), exec (.multiframeStart t) s = .next v
        ∧ run 0 = v.setTrunk t { v.trunk t with
            urgent := (u.trunk t).urgent, regular := (u.trunk t).regular }
        ∧ (∀ n, n < 23 → run (n + 1) = ((run n).fillSlot t (23 * r.nextFrame + n)).1
            ∧ f.slots[n]? = some ((run n).fillSlot t (23 * r.nextFrame + n)).2)
        ∧ u = (run 23).setTrunk t { (run 23).trunk t with
            nextFrame := (r.nextFrame + 1) % 16, mfTaken := false, awaiting := true
            polled := f.poll.map fun pos => ⟨pos, false⟩
            holdSent := f.hold, frame := some f })
      ∧ (∀ pos rest, r.urgent = pos :: rest →
          f.poll = some pos ∧ (u.trunk t).urgent = rest ∧ (u.trunk t).regular = r.regular)
      ∧ (r.urgent = [] → (u.trunk t).urgent = [] ∧ ∀ pos, r.pollList[r.regular]? = some pos →
          f.poll = (if s.configured (cellAt t pos) then some pos else none)
          ∧ (u.trunk t).regular = if r.regular + 1 < r.pollList.length then r.regular + 1 else 0)
      ∧ (r.urgent = [] → r.pollList = [] → f.poll = none ∧ (u.trunk t).regular = r.regular)
      ∧ (u.trunk t).nextFrame = (r.nextFrame + 1) % 16 ∧ (u.trunk t).awaiting = true
      ∧ (u.trunk t).polled = f.poll.map (fun pos => ⟨pos, false⟩) ∧ (u.trunk t).holdSent = f.hold ∧ (u.trunk t).intake = r.intake
      ∧ (∀ t', t' ≠ t → u.trunk t' = s.trunk t')
      ∧ u = { s with trunks := u.trunks, ports := u.ports, streams := u.streams, descs := u.descs,
                     used := u.used }))
  ∧ ∀ (s : State) (t : TrunkId), let r := s.trunk t
    (r.state = .off ∨ r.state = .standby → s.trunkLine t = .nothing)
    ∧ (r.state = .waking → s.trunkLine t = .wakeFrames)
    ∧ (r.state.framing = true → s.trunkLine t = match r.frame with
        | some f => .frame f.wire
        | none => .nothing)
/-- R176, R177, R178: slot number n of a multiframe: a control message below C, the planned chunk with
its bytes below C + Rp, EMPTY where the planned descriptor has left the queue and above. Chapter 12.3:
the bytes of a downstream frame, from the header to the last slot, and of the nine control messages with
the codes of their reasons and results;
the fill of an EMPTY slot is free (log entry 4) and the header check is line coding (log entry 14). -/
def Obligations.SlotsFilledInOrder : Prop :=
  (∀ (s : State) (t : TrunkId) (n : Nat) (a : Allocation), (s.trunk t).allocation = some a →
    (∀ m rest, n < a.control → (s.trunk t).control = m :: rest →
      s.fillSlot t n = (s.setTrunk t { s.trunk t with control := rest }, .control m))
    ∧ (∀ e d refs cs, a.control ≤ n → n < a.control + a.replay → a.plan[n - a.control]? = some (some e) →
      s.desc? e.desc = some d → d.state = .released refs cs →
      let x := cs[t.val]
      let after := s.putDesc e.desc
        { d with state := .released refs (cs.set t.val ⟨x.rendition, x.remaining - 1⟩) }
      (s.fillSlot t n).2 = .replay d.stream x.rendition d.sequence e.chunk d.mark (d.chunks x.rendition)
          (Memory.readAll s.segMem (256 * d.blocks.getD e.chunk 0) 256)
      ∧ (1 < x.remaining → (s.fillSlot t n).1 = after)
      ∧ (x.remaining ≤ 1 → (s.fillSlot t n).1 = after.unlink t e.desc
          ∧ e.desc ∉ ((s.fillSlot t n).1.trunk t).replay))
    ∧ (a.control ≤ n → n < a.control + a.replay → a.plan[n - a.control]? = some none →
      s.fillSlot t n = (s, .empty))
    ∧ (a.control + a.replay ≤ n → s.fillSlot t n = (s, .empty)))
  ∧ (∀ f : DownFrame,
      (∀ k l q c m n data, Slot.replay k l q c m n data ∈ f.slots → data.length = 256) →
    let b := f.wire
    let map := if f.mark = none then 5 else 8
    let body := map + 6 * f.slots.length
    b.length = body + 266 * f.slots.length
    ∧ b.take 5 = [BitVec.ofNat 8 f.number, if f.hold then 1 else 0,
        (match f.echo with
          | .position pos => BitVec.ofNat 8 pos
          | .idle => 0x20
          | .garbled => 0x21),
        BitVec.ofNat 8 (f.poll.getD 0x20), BitVec.ofNat 8 f.ack]
    ∧ (f.mark = some none → (b.drop 5).take 3 = [0, 0, 0])
    ∧ (∀ c, f.mark = some (some c) → byteAt b 5 = 1 ∧ numAt b 6 2 = c.toNat)
    ∧ ∀ i x, f.slots[i]? = some x →
      let e := (b.drop (map + 6 * i)).take 6
      let w := (b.drop (body + 266 * i)).take 266
      (x = .empty → e = [0, 0, 0, 0, 0, 0]
        ∧ w = List.replicate 10 0 ++ (List.range 256).map (Config.fillByte i))
      ∧ (∀ m, x = .control m → e = [1, 0, 0, 0, 0, 0]
        ∧ w = [BitVec.ofNat 8 (m.target.getD 0x3F), BitVec.ofNat 8 m.body.kind] ++ List.replicate 8 0
          ++ m.body.payload ++ List.replicate (256 - m.body.payload.length) 0)
      ∧ ∀ k l q c m n data, x = .replay k l q c m n data →
        e = [2, BitVec.ofNat 8 k.val] ++ beBytes 2 q.toNat ++ beBytes 2 c
        ∧ w = [BitVec.ofNat 8 k.val, BitVec.ofNat 8 l.code] ++ beBytes 2 q.toNat ++ beBytes 2 c
          ++ beBytes 2 m.toNat ++ beBytes 2 n ++ data)
  ∧ (∀ w n, (beBytes w n).length = w ∧ numAt (beBytes w n) 0 w = n % 256 ^ w)
  ∧ ∀ (i : StationIx) (c : CellId) (a : Address) (l : Level) (n : Nat) (k : StreamId),
    let laid := fun (x : CtlBody) kind payload => x.kind = kind ∧ x.payload = payload
    laid (.assocAccept i l) 1 (beBytes 2 i ++ beBytes 1 l.code)
    ∧ (∀ why, laid (.assocDeny a why) 2 (beBytes 6 a.toNat ++ beBytes 1 why.code))
    ∧ laid (.steer a c) 3 (beBytes 6 a.toNat ++ beBytes 1 c)
    ∧ laid (.roamRelease i) 4 (beBytes 2 i)
    ∧ (∀ why, laid (.detach (some i) why) 5 (beBytes 2 i ++ beBytes 1 why.code)
        ∧ laid (.detach none why) 5 ([0xFF, 0xFF] ++ beBytes 1 why.code))
    ∧ laid (.tierUpdate i l) 6 (beBytes 2 i ++ beBytes 1 l.code)
    ∧ (∀ x, laid (.ticketResult i x) 7 (beBytes 2 i ++ beBytes 1 x.code))
    ∧ (∀ x, laid (.subResult i n x) 8 (beBytes 2 i ++ beBytes 1 n ++ beBytes 1 x.code))
    ∧ laid (.streamEnd k) 9 (beBytes 1 k.val)
    ∧ [DenyReason.cellDown, .fenced, .full, .tableFull, .busy].map DenyReason.code = [1, 2, 3, 4, 5]
    ∧ [DetachReason.aged, .detached, .cleared, .roamed, .left].map DetachReason.code = [1, 2, 3, 4, 5]
    ∧ [TicketResult.unknown, .void, .notAdmitted, .alreadyBound, .bound, .boundWrongSection, .already,
        .conflict].map TicketResult.code = [1, 2, 3, 4, 5, 6, 7, 8]
    ∧ [SubResult.ok, .okNoTier, .closed, .full, .notAttached].map SubResult.code = [1, 2, 3, 4, 5]
/-! ### Upstream frames -/

/-- R38, R40, R43, R44, R46, R49: what becomes of the report slot of an upstream frame, and the echo
formed for the next header; whole, for a frame that polled no cell and is not frame 15 (`MultiframeJudged`
says how slot, poll and judgment follow one another). R182, Chapter 12.4: how the bytes of a report are read,
and which of them are treated as garbled. -/
def Obligations.ReportSlotSettled : Prop :=
  (∀ (s : State) (t : TrunkId) (f : UpFrame), s.held = false → (s.trunk t).state.serving = true →
    (s.trunk t).awaiting = true → (s.trunk t).polled = none → (s.trunk t).nextFrame ≠ 0 →
    let r := s.trunk t
    let ended := fun (v : State) (e : Echo) => State.setTrunk v t { v.trunk t with
      echo := e, ack := 0, awaiting := false, polled := none
      marker := if r.nextFrame = 1 then f.marker else r.marker
      fails := (if r.nextFrame = 1 then 0 else r.fails) + if f.checkOk then 0 else 1 }
    (f.slot = .silent → exec (.upstreamFrameReceived t f) s = .next (ended s .idle))
    ∧ ((f.slot = .damaged ∨ ∃ b, f.slot = .report b ∧ parseReport t b = none) →
        exec (.upstreamFrameReceived t f) s = .next (ended (s.raiseFlag t .garbledReport) .garbled))
    ∧ ∀ b rep, f.slot = .report b → parseReport t b = some rep →
      let pos := rep.cell % 32
      (s.configured rep.cell = false → exec (.upstreamFrameReceived t f) s
          = .next (ended (s.raiseFlag t .unknownCell) (.position pos)))
      ∧ (s.configured rep.cell = true → rep.body = .urgent → exec (.upstreamFrameReceived t f) s
          = .next (ended (s.setTrunk t { r with urgent :=
              if pos ∈ r.urgent then r.urgent
              else if r.urgent.length < 4 then r.urgent ++ [pos] else r.urgent }) (.position pos)))
      ∧ (s.configured rep.cell = true → rep.body ≠ .urgent → r.intake.length < 32 →
          exec (.upstreamFrameReceived t f) s
            = .next (ended (s.setTrunk t { r with intake := r.intake ++ [rep] }) (.position pos)))
      ∧ (s.configured rep.cell = true → rep.body ≠ .urgent → 32 ≤ r.intake.length →
          exec (.upstreamFrameReceived t f) s = .next (ended s .idle)))
  ∧ (∀ (s : State) (t : TrunkId) (slot : SlotInput), let r := s.trunk t
    let leads := fun (v : State) (e : Echo) => s.settleSlot t slot = v.setTrunk t { v.trunk t with echo := e }
    (slot = .silent → leads s .idle)
    ∧ ((slot = .damaged ∨ ∃ b, slot = .report b ∧ parseReport t b = none) →
        leads (s.raiseFlag t .garbledReport) .garbled)
    ∧ ∀ b rep, slot = .report b → parseReport t b = some rep →
      let pos := rep.cell % 32
      (s.configured rep.cell = false → leads (s.raiseFlag t .unknownCell) (.position pos))
      ∧ (s.configured rep.cell = true → rep.body = .urgent → leads (s.setTrunk t { r with urgent :=
          if pos ∈ r.urgent then r.urgent
          else if r.urgent.length < 4 then r.urgent ++ [pos] else r.urgent }) (.position pos))
      ∧ (s.configured rep.cell = true → rep.body ≠ .urgent → r.intake.length < 32 →
          leads (s.setTrunk t { r with intake := r.intake ++ [rep] }) (.position pos))
      ∧ (s.configured rep.cell = true → rep.body ≠ .urgent → 32 ≤ r.intake.length → leads s .idle))
  ∧ ∀ (t : TrunkId) (b : List Byte), let kind := byteAt b 0 % 8
    let whole := fun n => byteAt b 1 = n ∧ n ≤ b.length
    let reads := fun n (body : ReportBody) =>
      (whole n → parseReport t b = some ⟨32 * t.val + byteAt b 0 / 8, body, false⟩)
        ∧ (¬ whole n → parseReport t b = none)
    (kind = 0 ∨ kind = 7 → parseReport t b = none)
    ∧ (kind = 1 → byteAt b 2 = 0 → reads 11 (.assoc (BitVec.ofNat 48 (numAt b 3 6)) none))
    ∧ (kind = 1 → byteAt b 2 ≠ 0 → reads 19 (.assoc (BitVec.ofNat 48 (numAt b 3 6))
        (if numAt b 9 8 = 0 then none else some (BitVec.ofNat 64 (numAt b 9 8)))))
    ∧ (kind = 2 → reads 6 (.depart (numAt b 2 2)))
    ∧ (kind = 3 → reads 14 (.presentTicket (numAt b 2 2) (BitVec.ofNat 64 (numAt b 4 8))))
    ∧ (kind = 4 → reads 7 (.subscribe (numAt b 2 2) (byteAt b 4)))
    ∧ (kind = 5 → reads 7 (.unsubscribe (numAt b 2 2) (byteAt b 4)))
    ∧ (kind = 6 → reads 4 .urgent)
/-- R65: a poll of a configured cell with no answer raises the miss count, saturating at 15; at the
silence limit the cell becomes SILENT with CELL_SILENT; the poll of a cell that is not configured
any more has no outcome (R64). That no answer leaves the record of a cell removed and configured again
since the poll as it is, is the model's reading of R59 and R64 (log entry 27). R19, R182, Chapter 12.4: which bytes in the poll answer slot are no
answer, and how the parts of an answer are read. -/
def Obligations.PollWithoutAnswer : Prop :=
  (∀ (s : State) (t : TrunkId) (f : UpFrame) (pos : Nat) (removed : Bool), s.held = false →
    (s.trunk t).state.serving = true → (s.trunk t).awaiting = true →
    (s.trunk t).polled = some ⟨pos, removed⟩ → (s.trunk t).nextFrame ≠ 0 → f.slot = .silent →
    (f.checkOk = false ∨ ∀ a, parseAnswer f.answer = some a → a.position ≠ pos) →
    let c := 32 * t.val + pos
    let r := s.trunk t
    let ended := s.setTrunk t { r with
      echo := .idle, ack := 0, awaiting := false, polled := none
      marker := if r.nextFrame = 1 then f.marker else r.marker
      fails := (if r.nextFrame = 1 then 0 else r.fails) + if f.checkOk then 0 else 1 }
    (removed = true ∨ s.cells.get? c = none → exec (.upstreamFrameReceived t f) s = .next ended)
    ∧ ∀ x, removed = false → s.cells.get? c = some x → let n := min 15 (x.miss + 1)
      (x.live = .silent ∨ n < s.timers.silence → exec (.upstreamFrameReceived t f) s
        = .next { ended with cells := s.cells.put c { x with miss := n } })
      ∧ (x.live ≠ .silent → s.timers.silence ≤ n → ∃ u, exec (.upstreamFrameReceived t f) s = .next u
        ∧ u.cells.get? c = some { x with miss := n, live := .silent }
        ∧ (∀ c', c' ≠ c → u.cells.get? c' = s.cells.get? c')
        ∧ u.ports = (s.notify .W (.cellSilent c x.live n)).ports
        ∧ u = { ended with cells := u.cells, ports := u.ports }))
  ∧ (∀ (s : State) (t : TrunkId) (f : UpFrame) (pos : Nat) (removed : Bool), let c := 32 * t.val + pos
    (f.checkOk = false ∨ ∀ a, parseAnswer f.answer = some a → a.position ≠ pos) →
    let unanswered := fun (v : State) =>
      s.settlePoll t ⟨pos, removed⟩ f = v.setTrunk t { v.trunk t with ack := 0 }
    (removed = true ∨ s.cells.get? c = none → unanswered s)
    ∧ ∀ x, removed = false → s.cells.get? c = some x → let n := min 15 (x.miss + 1)
      (x.live = .silent ∨ n < s.timers.silence →
        unanswered { s with cells := s.cells.put c { x with miss := n } })
      ∧ (x.live ≠ .silent → s.timers.silence ≤ n → ∃ v, unanswered v
        ∧ v.cells.get? c = some { x with miss := n, live := .silent }
        ∧ (∀ c', c' ≠ c → v.cells.get? c' = s.cells.get? c')
        ∧ v = { s.notify .W (.cellSilent c x.live n) with cells := v.cells }))
  ∧ ∀ b : List Byte, let h := byteAt b 3
    let n := byteAt b 4
    let fits := fun (start : Nat → Nat) => start 0 = 5 + 2 * h ∧ start 0 ≤ b.length ∧ ∀ i, i < n →
      start i + 2 ≤ b.length ∧ start (i + 1) = start i + byteAt b (start i + 1) ∧ start (i + 1) ≤ b.length
    (parseAnswer b = none ↔
      b.length < 5 ∨ 31 < byteAt b 0 ∨ 16 < h ∨ 4 < n ∨ ∀ start, ¬ fits start)
    ∧ ∀ a start, parseAnswer b = some a → fits start → a = ⟨byteAt b 0, byteAt b 1, byteAt b 2,
        (List.range h).map fun i => numAt b (5 + 2 * i) 2,
        (List.range n).map fun i => (b.drop (start i)).take (byteAt b (start i + 1))⟩
/-- R48, R66, R68, R69, R73 to R79, R93: a received answer of a configured cell: liveness, the
double look, the load update with its smoothing and hysteresis, the heard list, the notices on Port
W in their order, and then the reports, one at a time until one is not accepted, with the ack count
the number accepted. The answer of a cell that is not configured any more has no status part, and
its reports come from an unknown cell (R64); that this holds for a cell removed and configured again
since the poll too is the model's reading of R59 and R64 (log entry 27). The status part
before the reports is log entry 22; that a report naming a cell that is not configured counts as
from an unknown cell, whatever the answering cell, is log entry 18: both are the model's reading. -/
def Obligations.PollAnswerStatus : Prop :=
  let updated := fun (s v : State) (c : CellId) (x : Cell) (a : PollAnswer) =>
    let code := Condition.ofCode a.code
    let accepted := match code with
      | none => x.accepted
      | some k => if x.candidate = some k then k else x.accepted
    let ceff := if accepted = .degraded then max 1 (x.cmax / 2) else x.cmax
    let occ := min 255 (256 * x.attached / ceff)
    let streams := (allStreams.filter fun k => 0 < (s.counts c k).full + (s.counts c k).lean).length
    let target := min 4095 (s.load.wa * a.airtime + s.load.ws * occ + 16 * s.load.wr * streams)
    let score := if x.score ≤ target then x.score + (target - x.score) / 2 ^ s.load.k
      else x.score - (x.score - target) / 2 ^ s.load.k
    let pair : Nat × Nat := match x.override with
      | some h => h
      | none => if x.kind = CellKind.seat then (s.load.seatH, s.load.seatLo) else (s.load.concH, s.load.concLo)
    let crowding := if x.load = .normal then (if pair.1 < score then LoadState.crowded else .normal)
      else (if score < pair.2 then .normal else .crowded)
    let heard := if x.live = .silent then s.notify .W (.cellHeard c) else s
    let looked := if accepted = x.accepted then heard
      else heard.notify .W (.cellCondition c x.accepted accepted ceff)
    let loaded := if crowding = x.load then looked else looked.notify .W (.cellLoad c crowding score)
    v.cells.get? c = some { x with
          live := .live, miss := 0, lastA := a.airtime, candidate := code, accepted := accepted
          score := score, load := crowding }
      ∧ (∀ c', c' ≠ c → v.cells.get? c' = s.cells.get? c')
      ∧ (∀ i q, s.station? i = some q → v.station? i = some { q with
          lastHeard := if i ∈ a.heard ∧ (q.cell = c ∨ q.pendingAt c = true) then s.now else q.lastHeard })
      ∧ (∀ i, s.station? i = none → v.station? i = none)
      ∧ v = { s with cells := v.cells, stations := v.stations, demand := v.demand
                     ports := { loaded.ports with v := v.ports.v } }
  let reported := fun (v : State) (t : TrunkId) (known : Bool) (a : PollAnswer) (f : UpFrame) =>
    let w := v.considerReports t known a.reports f.reportOk
    w.1.setTrunk t { w.1.trunk t with ack := w.2 }
  (∀ (s : State) (t : TrunkId) (f : UpFrame) (a : PollAnswer) (removed : Bool), f.checkOk = true →
    parseAnswer f.answer = some a → let c := 32 * t.val + a.position
    let leads := fun (v : State) (known : Bool) =>
      s.settlePoll t ⟨a.position, removed⟩ f = reported v t known a f
    (∀ x, removed = false → s.cells.get? c = some x → s.stations.wf = true →
      ∃ v, updated s v c x a ∧ leads v true)
    ∧ (removed = true ∨ s.cells.get? c = none → leads s false))
  ∧ (∀ (s : State) (t : TrunkId) (f : UpFrame) (a : PollAnswer) (removed : Bool), s.held = false →
    (s.trunk t).state.serving = true → (s.trunk t).awaiting = true →
    (s.trunk t).polled = some ⟨a.position, removed⟩ → (s.trunk t).nextFrame ≠ 0 → f.slot = .silent → f.checkOk = true → parseAnswer f.answer = some a →
    let r := s.trunk t
    let c := 32 * t.val + a.position
    let idle := s.setTrunk t { r with echo := .idle }
    let leads := fun (v : State) (known : Bool) => let w := reported v t known a f
      exec (.upstreamFrameReceived t f) s = .next (w.setTrunk t { w.trunk t with
        awaiting := false, polled := none
        marker := if r.nextFrame = 1 then f.marker else r.marker
        fails := if r.nextFrame = 1 then 0 else r.fails })
    (∀ x, removed = false → s.cells.get? c = some x → s.stations.wf = true →
      ∃ v, updated idle v c x a ∧ leads v true)
    ∧ (removed = true ∨ s.cells.get? c = none → leads idle false))
  ∧ (∀ (s : State) (t : TrunkId) (known : Bool) (bs : List (List Byte)) (ok : List Bool),
    let w := s.considerReports t known bs ok
    w.2 ≤ bs.length ∧ (∀ t', t' ≠ t → w.1.trunk t' = s.trunk t')
      ∧ w.1 = { s with trunks := w.1.trunks, ports := { s.ports with w := w.1.ports.w } })
  ∧ ∀ (s : State) (t : TrunkId) (known : Bool) (b : List Byte) (bs : List (List Byte)) (ok : List Bool),
    let r := s.trunk t
    let accepts := fun (v : State) => s.considerReports t known (b :: bs) ok
      = ((v.considerReports t known bs ok.tail).1, (v.considerReports t known bs ok.tail).2 + 1)
    s.considerReports t known [] ok = (s, 0)
    ∧ ((ok.headD false = false ∨ parseReport t b = none) →
        s.considerReports t known (b :: bs) ok = (s.raiseFlag t .garbledReport, 0))
    ∧ ∀ rep, ok.headD false = true → parseReport t b = some rep →
      ((known = false ∨ s.configured rep.cell = false) → accepts (s.raiseFlag t .unknownCell))
      ∧ (known = true → s.configured rep.cell = true → rep.body = .urgent →
          accepts (s.setTrunk t { r with urgent :=
            if rep.cell % 32 ∈ r.urgent then r.urgent
            else if r.urgent.length < 4 then r.urgent ++ [rep.cell % 32] else r.urgent }))
      ∧ (known = true → s.configured rep.cell = true → rep.body ≠ .urgent →
          r.intake.length < 32 → accepts (s.setTrunk t { r with intake := r.intake ++ [rep] }))
      ∧ (known = true → s.configured rep.cell = true → rep.body ≠ .urgent →
          32 ≤ r.intake.length → s.considerReports t known (b :: bs) ok = (s, 0))
/-- R20, R25, R26, R27, R28, R38: an upstream frame settles its report slot, then the outcome of its poll,
and at frame 15 the judgment follows; in ALIGNING slot and poll bring nothing. That order of the three is
the model's reading (log entry 22). The judgment: two good multiframes in a row bring ALIGNING or
LOST to ACTIVE; two bad ones in a row bring ACTIVE to LOST, with the replay queue flushed, the control
queue kept and ALIGN_LOSS set. -/
def Obligations.MultiframeJudged : Prop :=
  let judged := fun (s u : State) (t : TrunkId) (good : Prop) => let r := s.trunk t
    (u.trunk t).control = r.control ∧ (u.trunk t).intake = r.intake
      ∧ (r.state ≠ .active → good → r.good = 0 → (u.trunk t).state = r.state ∧ (u.trunk t).good = 1)
      ∧ (r.state ≠ .active → good → r.good ≠ 0 → (u.trunk t).state = .active ∧ (u.trunk t).bad = 0
          ∧ (u.trunk t).entry = none
          ∧ u.ports.w = (s.notify .W (.trunkState t r.state .active
              (if r.state = .aligning then .aligned else .regained))).ports.w)
      ∧ (r.state ≠ .active → ¬ good → (u.trunk t).state = r.state ∧ (u.trunk t).good = 0)
      ∧ (r.state = .active → good → (u.trunk t).state = .active ∧ (u.trunk t).bad = 0)
      ∧ (r.state = .active → ¬ good → r.bad = 0 → (u.trunk t).state = .active ∧ (u.trunk t).bad = 1)
      ∧ (r.state = .active → ¬ good → r.bad ≠ 0 → (u.trunk t).state = .lost ∧ (u.trunk t).good = 0
          ∧ (u.trunk t).entry = some s.now ∧ (u.trunk t).replay = [] ∧ (u.trunk t).idle = none
          ∧ (u.trunk t).flags.alignLoss = true
          ∧ u.ports.w = (State.raiseFlag (s.notify .W (.trunkState t .active .lost .alignLoss)) t
              .alignLoss).ports.w)
      ∧ (∀ t', t' ≠ t → u.trunk t' = s.trunk t')
      ∧ u = { s with trunks := u.trunks, ports := u.ports, demand := u.demand, streams := u.streams,
                     descs := u.descs, used := u.used }
  (∀ (s : State) (t : TrunkId) (f : UpFrame), s.held = false → (s.trunk t).state.framing = true →
    (s.trunk t).awaiting = true →
    let r := s.trunk t
    let v := s.settleSlot t f.slot
    let w := if r.state = .aligning then s.setTrunk t { r with echo := .idle, ack := 0 }
      else match r.polled with
        | some q => v.settlePoll t q f
        | none => v.setTrunk t { v.trunk t with ack := 0 }
    let x := w.setTrunk t { w.trunk t with
      awaiting := false, polled := none
      marker := if r.nextFrame = 1 then f.marker else r.marker
      fails := (if r.nextFrame = 1 then 0 else r.fails) + if f.checkOk then 0 else 1 }
    exec (.upstreamFrameReceived t f) s = .next (if r.nextFrame = 0 then x.judge t else x))
  ∧ (∀ (s : State) (t : TrunkId), (s.trunk t).state.framing = true →
    judged s (s.judge t) t ((s.trunk t).marker = true ∧ (s.trunk t).fails ≤ 1))
  ∧ ∀ (s : State) (t : TrunkId) (f : UpFrame), s.held = false → (s.trunk t).state.framing = true →
    (s.trunk t).awaiting = true → (s.trunk t).nextFrame = 0 → (s.trunk t).polled = none → f.slot = .silent →
    ∃ u, exec (.upstreamFrameReceived t f) s = .next u ∧ (u.trunk t).awaiting = false
      ∧ judged s u t ((s.trunk t).marker = true ∧ (s.trunk t).fails + (if f.checkOk then 0 else 1) ≤ 1)

/-! ### Cells -/

/-- R56, R57, R59: the checks of CELL_SET, the configuration of a cell that is not configured, and the
removal of one that holds no station and expects none, which leaves a poll already issued to the cell and
the reports already placed from it without effect, marked so (`PollWithoutAnswer`, `PollAnswerStatus`,
`ReportsTakenInTurn`; that the mark outlasts a new configuration of the cell is the model's reading of
R59 and R64, log entry 27). The configuration is returned in the layout of
the command, and for a cell that is not configured afterwards with the values of R72: that layout is the
model's choice (log entry 12), and the bytes of an absent override are free (log entry 3). -/
def Obligations.CellSetConfiguresRemoves : Prop :=
  ∀ (p : PortId) (m : PortMessage) (s : State), s.Taking p .cellSet m →
    let b := m.body
    let c := byteAt b 0
    let on := byteAt b 1 % 2 = 1
    let ovr := byteAt b 1 / 2 % 2 = 1
    let bad := 1 < byteAt b 2 ∨ 63 < byteAt b 3 ∨ 6 < byteAt b 5
      ∨ (ovr ∧ (4095 < numAt b 6 2 ∨ 4095 < numAt b 8 2 ∨ numAt b 6 2 ≤ numAt b 8 2))
    let carried := ((b.drop 10).take (byteAt b 5)).map BitVec.toNat
    let removed : List Field :=
      [.u8 c, .u8 0, .u8 0, .u8 0, .u8 160, .u8 0, ⟨2, none⟩, ⟨2, none⟩]
    (bad → exec (.cellSet p) s = .next (s.answered p m .badValue []))
    ∧ (¬ bad → on → s.cells.get? c = none → ∃ nbrs,
        let x : Cell := ⟨if byteAt b 2 = 0 then .seat else .concourse, byteAt b 3, max 1 (byteAt b 4), nbrs,
          if ovr then some (numAt b 6 2, numAt b 8 2) else none,
          .unheard, 0, .radioOff, none, 0, 0, 0, 0, .normal⟩
        exec (.cellSet p) s = .next (State.answered { s with cells := s.cells.put c x } p m .ok
          ([.u8 c, .u8 (if ovr then 3 else 1), .u8 (byteAt b 2), .u8 (byteAt b 3), .u8 (max 1 (byteAt b 4)),
            .u8 nbrs.length, ⟨2, if ovr then some (numAt b 6 2) else none⟩,
            ⟨2, if ovr then some (numAt b 8 2) else none⟩] ++ nbrs.map .u8))
        ∧ nbrs.Nodup ∧ (∀ d, d ∈ nbrs ↔ d ≠ c ∧ d ∈ carried)
        ∧ nbrs.Pairwise fun d e => carried.idxOf d < carried.idxOf e)
    ∧ (¬ bad → ¬ on → s.cells.get? c = none →
        exec (.cellSet p) s = .next (s.answered p m .ok removed))
    ∧ ∀ x, ¬ bad → ¬ on → s.cells.get? c = some x →
        (0 < x.attached + x.incoming → exec (.cellSet p) s = .next (s.answered p m .wrongState []))
        ∧ (x.attached + x.incoming = 0 → exec (.cellSet p) s = .next (State.answered
            (State.setTrunk { s with cells := s.cells.del c } (trunkOf c)
              { s.trunk (trunkOf c) with
                urgent := (s.trunk (trunkOf c)).urgent.filter (· ≠ c % 32)
                intake := (s.trunk (trunkOf c)).intake.map fun e =>
                  ⟨e.cell, e.body, e.orphan || e.cell == c⟩
                polled := (s.trunk (trunkOf c)).polled.map fun q =>
                  ⟨q.position, q.orphan || q.position == c % 32⟩ }) p m .ok removed))
/-- R56, R58, R96, R98: CELL_SET on a configured cell rewrites the five fields of the configuration,
with the neighbours carried less the cell's own id and repeats and the override carried or none, and
keeps the rest of the record; a change of kind or section settles every station of the cell anew, in
ascending index: seat grace, fence, tier, with a TIER_UPDATE for each tier that changes (R140). The
layout of the body returned is the model's choice (log entry 12). -/
def Obligations.CellRewriteSettlesStations : Prop :=
  ∀ (p : PortId) (m : PortMessage) (s : State) (x : Cell), s.Taking p .cellSet m → s.stations.wf = true →
    let b := m.body
    let c := byteAt b 0
    let ovr := byteAt b 1 / 2 % 2 = 1
    let carried := ((b.drop 10).take (byteAt b 5)).map BitVec.toNat
    s.cells.get? c = some x → byteAt b 1 % 2 = 1 →
    ¬ (1 < byteAt b 2 ∨ 63 < byteAt b 3 ∨ 6 < byteAt b 5
      ∨ (ovr ∧ (4095 < numAt b 6 2 ∨ 4095 < numAt b 8 2 ∨ numAt b 6 2 ≤ numAt b 8 2))) →
    ∃ (y : Cell) (u : State) (stamp : Nat), exec (.cellSet p) s = .next u ∧ u.cells = s.cells.put c y
      ∧ y = { x with
          kind := if byteAt b 2 = 0 then .seat else .concourse
          section_ := byteAt b 3, cmax := max 1 (byteAt b 4), neighbours := y.neighbours
          override := if ovr then some (numAt b 6 2, numAt b 8 2) else none }
      ∧ y.neighbours.Nodup ∧ (∀ d, d ∈ y.neighbours ↔ d ≠ c ∧ d ∈ carried)
      ∧ (y.neighbours.Pairwise fun d e => carried.idxOf d < carried.idxOf e)
      ∧ (u.port p).responses = (s.port p).responses ++ [⟨m.code, m.tag, .ok,
          [.u8 c, .u8 (if ovr then 3 else 1), .u8 (byteAt b 2), .u8 (byteAt b 3), .u8 (max 1 (byteAt b 4)),
            .u8 y.neighbours.length, ⟨2, if ovr then some (numAt b 6 2) else none⟩,
            ⟨2, if ovr then some (numAt b 8 2) else none⟩] ++ y.neighbours.map .u8, stamp⟩]
      ∧ (∀ i, s.station? i = none → u.station? i = none)
      ∧ (∀ i r, s.station? i = some r → r.cell ≠ c → u.station? i = some r)
      ∧ (x.kind = y.kind → x.section_ = y.section_ →
          u = State.answered { s with cells := u.cells } p m .ok (configBody c true y))
      ∧ (x.kind ≠ y.kind ∨ x.section_ ≠ y.section_ → ∀ i r, s.station? i = some r → r.cell = c →
          ∃ r', u.station? i = some r' ∧ r'.tier = u.tierOf r'.binding c
            ∧ r' = { r with binding := r'.binding, grace := r'.grace, tier := r'.tier }
            ∧ settledFrom s.now x.kind y.kind r r')
      ∧ (x.kind ≠ y.kind ∨ x.section_ ≠ y.section_ → ∃ v : State, v.stations = u.stations
          ∧ v = { s with cells := u.cells, stations := v.stations, fan := v.fan, demand := v.demand
                         ports := { s.ports with v := v.ports.v } }
          ∧ u = State.answered ((s.stations.entries.filter fun e => e.2.cell = c).foldl
              (fun w e => w.tierTold e.1 c e.2.tier (v.tierOf (if e.2.binding = .fenced ∧ y.kind = .concourse
                then .unbound else e.2.binding) c)) v) p m .ok (configBody c true y))
      ∧ u = { s with cells := u.cells, stations := u.stations, fan := u.fan, demand := u.demand,
                     trunks := u.trunks, ports := u.ports }
/-- R61, R63: POLL_LIST_SET replaces the list and returns to position 0, in every trunk state;
POLL_URGENT adds, merges or is refused. -/
def Obligations.PollCommands : Prop :=
  ∀ (p : PortId) (m : PortMessage) (s : State),
    (∀ t : TrunkId, s.Taking p .pollListSet m → byteAt m.body 0 = t.val →
      let l := ((m.body.drop 2).take (byteAt m.body 1)).map BitVec.toNat
      ((32 < byteAt m.body 1 ∨ ∃ pos ∈ l, 31 < pos) →
        exec (.pollListSet p) s = .next (s.answered p m .badValue []))
      ∧ (byteAt m.body 1 ≤ 32 → (∀ pos ∈ l, pos ≤ 31) → exec (.pollListSet p) s = .next
          (State.answered (s.setTrunk t { s.trunk t with pollList := l, regular := 0 }) p m .ok [])))
    ∧ (s.Taking p .pollUrgent m →
      let c := byteAt m.body 0
      let pos := c % 32
      ∀ t : TrunkId, t.val = c / 32 → let r := s.trunk t
        (s.configured c = false → exec (.pollUrgent p) s = .next (s.answered p m .noSuch []))
        ∧ (s.configured c = true → r.state = .off →
            exec (.pollUrgent p) s = .next (s.answered p m .wrongState []))
        ∧ (s.configured c = true → r.state ≠ .off → pos ∈ r.urgent →
            exec (.pollUrgent p) s = .next (s.answered p m .ok [.u8 1, .u8 r.urgent.length]))
        ∧ (s.configured c = true → r.state ≠ .off → pos ∉ r.urgent → r.urgent.length < 4 →
            exec (.pollUrgent p) s = .next (State.answered
              (s.setTrunk t { r with urgent := r.urgent ++ [pos] }) p m .ok
              [.u8 0, .u8 (r.urgent.length + 1)]))
        ∧ (s.configured c = true → r.state ≠ .off → pos ∉ r.urgent → 4 ≤ r.urgent.length →
            exec (.pollUrgent p) s = .next (s.answered p m .full [])))

/-- R81: LOAD_SET is checked for length, then the SEAT pair, then the CONCOURSE pair; the first check
that fails decides, and a refused LOAD_SET changes no setting. An accepted one stores its eight values,
with the shift clamped to 4, and returns them as stored, each in the bytes of its sort
(Chapter 12.1). -/
def Obligations.LoadSetChecked : Prop :=
  (∀ (m : PortMessage) (s : State), s.Heads .W .loadSet m → m.kind = 1 → m.body.length ≠ 10 →
      exec (.loadSet .W) s = .next (s.answered .W m .malformed []))
  ∧ ∀ (p : PortId) (m : PortMessage) (s : State), s.Taking p .loadSet m →
      let v := fun o => numAt m.body o 2 % 4096
      let w : LoadSettings := ⟨byteAt m.body 0 / 16, byteAt m.body 0 % 16, byteAt m.body 1 / 16,
        min 4 (byteAt m.body 1 / 2 % 8), v 2, v 4, v 6, v 8⟩
      ((v 2 ≤ v 4 ∨ v 6 ≤ v 8) → exec (.loadSet p) s = .next (s.answered p m .badValue []))
      ∧ (v 4 < v 2 → v 8 < v 6 → exec (.loadSet p) s = .next (State.answered { s with load := w } p m .ok
          [.u8 w.wa, .u8 w.ws, .u8 w.wr, .u8 w.k, .u16 w.seatH, .u16 w.seatLo, .u16 w.concH, .u16 w.concLo]))
/-! ### Messages and reports -/

/-- R171: a message joins the control queue of an ACTIVE or LOST trunk below 512 messages; at 512 it is
dropped with CONTROL_OVERFLOW; in another trunk state it is dropped without a flag. A message for every
cell of a trunk joins in the same way. -/
def Obligations.ControlMessageAppended : Prop :=
  (∀ (s : State) (c : CellId) (b : CtlBody) (t : TrunkId), t.val = c / 32 →
    s.tell c b = s.append t ⟨some (c % 32), b⟩)
  ∧ (∀ (s : State) (t : TrunkId) (m : Ctl), let r := s.trunk t
    ((r.state = .active ∨ r.state = .lost) → r.control.length < 512 →
      s.append t m = s.setTrunk t { r with control := r.control ++ [m] })
    ∧ ((r.state = .active ∨ r.state = .lost) → 512 ≤ r.control.length →
      s.append t m = s.raiseFlag t .controlOverflow)
    ∧ (r.state ≠ .active → r.state ≠ .lost → s.append t m = s))
  ∧ ∀ (s : State) (c : CellId) (b : CtlBody) (t : TrunkId), t.val = c / 32 → let r := s.trunk t
    ((r.state = .active ∨ r.state = .lost) → r.control.length < 512 →
      s.tell c b = s.setTrunk t { r with control := r.control ++ [⟨some (c % 32), b⟩] })
    ∧ ((r.state = .active ∨ r.state = .lost) → 512 ≤ r.control.length → ∃ u, s.tell c b = u
      ∧ (u.trunk t).control = r.control ∧ (u.trunk t).flags.controlOverflow = true
      ∧ (r.flags.controlOverflow = true → u = s)
      ∧ (r.flags.controlOverflow = false →
          u = State.notify (s.setTrunk t { r with flags := { r.flags with controlOverflow := true } }) .W
            (.trunkError t .controlOverflow ({ r.flags with controlOverflow := true } : ErrorFlags).byte)))
    ∧ (r.state ≠ .active → r.state ≠ .lost → s.tell c b = s)

/-- R50, R51: the report at the head of the first non-empty queue from the pointer on is removed and
the pointer moves past its trunk; a report of an unconfigured sender, or one that names a station not
standing at the sender, leaves no other trace; with every queue empty nothing is taken. That a
report placed before its sender was removed is discarded with no ASSOC_DENY is the model's reading of
R59 (log entry 25), and so is that it is discarded where the sender has been configured again (log
entry 27). -/
def Obligations.ReportsTakenInTurn : Prop :=
  ∀ s : State,
    (∀ t x b removed, s.Takes t ⟨x, b, removed⟩ →
      (removed = true ∨ s.configured x = false → exec .reportTake s = .next (s.afterTake t))
      ∧ (∀ i, b.index? = some i →
          (∀ r, s.station? i = some r → r.cell ≠ x ∧ ∀ m, r.roam = some m → m.pending ≠ x) →
          exec .reportTake s = .next (s.afterTake t))
      ∧ ∃ u, exec .reportTake s = .next u ∧ u.pointer = t + 1
          ∧ (u.trunk t).intake = (s.trunk t).intake.tail
          ∧ ∀ t', t' ≠ t → (u.trunk t').intake = (s.trunk t').intake)
    ∧ ((∀ t, (s.trunk t).intake = []) → exec .reportTake s = .next s)

/-- R86, R88: an ASSOC of an unknown address: table full, denied, steered, or created at the lowest free
index with the values of R88, and ASSOC_ACCEPT queued; a carried token is then presented. -/
def Obligations.AssocOfUnknownPhone : Prop :=
  ∀ (s : State) (t : TrunkId) (x : CellId) (a : Address) (token : Option Token),
    s.Takes t ⟨x, .assoc a token, false⟩ → s.configured x = true → s.stationAt? a = none →
    s.stations.wf = true →
    let tier := if (s.cell x).kind = .seat then Level.none else Level.lean
    (16384 ≤ s.stations.entries.length →
      exec .reportTake s = .next ((s.afterTake t).tell x (.assocDeny a .tableFull)))
    ∧ (s.stations.entries.length < 16384 →
      (∀ why, s.admission false false x = .deny why →
        exec .reportTake s = .next ((s.afterTake t).tell x (.assocDeny a why)))
      ∧ (∀ n byLoad, s.admission false false x = .steer n byLoad →
        exec .reportTake s = .next ((s.afterTake t).tell x (.steer a n)))
      ∧ (s.admission false false x = .accept → ∃ v u i, u = State.tell v x (.assocAccept i tier)
        ∧ exec .reportTake s = .next (match token with
          | some k => u.present x i k
          | none => u)
        ∧ s.station? i = none ∧ (∀ j, j < i → s.station? j ≠ none)
        ∧ v.station? i = some ⟨a, x, none, .unbound, [], tier, s.now,
            if (s.cell x).kind = .seat then some s.now else none, none⟩
        ∧ (∀ j, j ≠ i → v.station? j = s.station? j)
        ∧ v.cells.get? x = some { s.cell x with attached := (s.cell x).attached + 1 }
        ∧ (∀ c, c ≠ x → v.cells.get? c = s.cells.get? c)
        ∧ (∀ t', (v.trunk t') = { (s.afterTake t).trunk t' with idle := (v.trunk t').idle })
        ∧ v = { s with stations := v.stations, cells := v.cells, trunks := v.trunks, pointer := t + 1 }))

/-- R70, R80, R103 to R107: the four steps of the admission check in their order, and the alternative:
among the neighbours that are admitting, pass the fence, have room and are not crowded, the lowest L,
then the lowest id. -/
def Obligations.AdmissionDecides : Prop :=
  ∀ (s : State) (fenced held : Bool) (x : CellId),
    let fenceOk := fun c => ¬ (fenced = true ∧ (s.cell c).kind = .seat)
    let outcome := s.admission fenced held x
    ∃ alt, s.LowestOf (s.cell x).neighbours
        (fun c => s.Admits c ∧ fenceOk c ∧ s.HasRoom c ∧ ¬ s.IsCrowded c) alt
      ∧ (¬ s.Admits x → outcome = .deny .cellDown)
      ∧ (s.Admits x → ¬ fenceOk x → outcome = .deny .fenced)
      ∧ (s.Admits x → fenceOk x → ¬ s.HasRoom x →
          outcome = match alt with
            | some a => .steer a false
            | none => .deny .full)
      ∧ (s.Admits x → fenceOk x → s.HasRoom x → s.IsCrowded x → held = false →
          outcome = match alt with
            | some a => .steer a true
            | none => .accept)
      ∧ (s.Admits x → fenceOk x → s.HasRoom x → (¬ s.IsCrowded x ∨ held = true) → outcome = .accept)

/-- R52, R87, R89, R106, R109, R110, R115: an ASSOC of a known phone refreshes its record; a repeat is
accepted again, a third cell is denied BUSY; at another cell a SETTLED phone is denied, steered, or
starts roaming. -/
def Obligations.AssocOfKnownPhone : Prop :=
  ∀ (s : State) (t : TrunkId) (x : CellId) (a : Address) (token : Option Token) (i : StationIx)
    (r : Station), s.Takes t ⟨x, .assoc a token, false⟩ → s.configured x = true →
    s.stations.wf = true → s.stationAt? a = some (i, r) →
    let at_ := fun (q : Station) => State.putStation (s.afterTake t) i q
    let q := { r with lastHeard := s.now }
    let carried := fun (v : State) => match token with
      | some k => v.present x i k
      | none => v
    let tierAtX := s.tierOf
      (if r.binding = .fenced ∧ (s.cell x).kind = .concourse then .unbound else r.binding) x
    (r.roam = none → r.cell = x →
      exec .reportTake s = .next (carried ((at_ q).tell x (.assocAccept i r.tier))))
    ∧ (∀ m, r.roam = some m → m.pending = x →
      exec .reportTake s = .next (carried ((at_ q).tell x (.assocAccept i tierAtX))))
    ∧ (∀ m, r.roam = some m → m.pending ≠ x → r.cell = x →
      exec .reportTake s = .next (carried ((at_ q).tell x (.assocAccept i r.tier))))
    ∧ (∀ m, r.roam = some m → m.pending ≠ x → r.cell ≠ x →
      exec .reportTake s = .next ((at_ q).tell x (.assocDeny a .busy)))
    ∧ (r.roam = none → r.cell ≠ x →
      match s.admission (r.binding == .fenced) r.steerHold.isSome x with
      | .deny why => exec .reportTake s = .next ((at_ q).tell x (.assocDeny a why))
      | .steer n false => exec .reportTake s = .next ((at_ q).tell x (.steer a n))
      | .steer n true => exec .reportTake s = .next
          ((at_ { q with steerHold := some (s.now + BitVec.ofNat 32 (s.timers.steerHold * 250)) }).tell x
            (.steer a n))
      | .accept => exec .reportTake s = .next (carried
          (((State.idleUpdate { at_ { q with roam := some ⟨x, s.now⟩ } with
              cells := s.cells.put x { s.cell x with incoming := (s.cell x).incoming + 1 } } (trunkOf x)).tell
            x (.assocAccept i tierAtX)).tell r.cell (.roamRelease i))))

/-! ### Stations -/

/-- R112, R113: a roam whose timeout has come, or whose station departs from the old cell, is completed;
a change of its tier queues TIER_UPDATE to the new cell (R140); the timeout adds DETACH to the old cell and
ROAM_FORCED. That before its time, for a SETTLED station and for a free index the timeout does nothing is the
model's choice (log entry 11). -/
def Obligations.RoamCompleted : Prop :=
  ∀ (s : State) (i : StationIx),
    (s.held = false → s.station? i = none → exec (.roamTimeout i) s = .next s)
    ∧ ∀ r, s.station? i = some r →
      (s.held = false → r.roam = none → exec (.roamTimeout i) s = .next s)
      ∧ ∀ m, r.roam = some m → r.cell ≠ m.pending →
        (s.held = false → elapsed s.now m.start < s.timers.roamTimeout / 4 →
          exec (.roamTimeout i) s = .next s)
        ∧ (s.held = false → s.timers.roamTimeout / 4 ≤ elapsed s.now m.start →
          ∃ v, s.RoamDone v i r m ∧ exec (.roamTimeout i) s = .next
            (State.notify (v.tell r.cell (.detach (some i) .roamed)) .W (.roamForced i r.cell m.pending)))
        ∧ (∀ t, s.Takes t ⟨r.cell, .depart i, false⟩ → s.configured r.cell = true →
          ∃ v, (s.afterTake t).RoamDone v i { r with lastHeard := s.now } m ∧ exec .reportTake s = .next v)

/-- R90, R91, R92, R94, R114, R135: age expiry, STATION_DETACH and a DEPART that is no completion remove
the station, with TICKET_RELEASED for its ticket (R135, R136) and DETACH as the cause gives it. That an age
expiry before its time, of a ROAMING station or of a free index does nothing is the model's choice (log
entry 11). -/
def Obligations.StationRemoved : Prop :=
  ∀ (s : State) (i : StationIx) (r : Station), s.stations.wf = true → s.station? i = some r →
    (∀ m, r.roam = some m → m.pending ≠ r.cell) →
    (s.held = false → r.roam = none → s.timers.ageLimit * 250 ≤ elapsed s.now r.lastHeard →
      ∃ v, s.Gone v i r .aged ∧ exec (.ageExpiry i) s = .next (v.tell r.cell (.detach (some i) .aged)))
    ∧ (s.held = false → (r.roam ≠ none ∨ elapsed s.now r.lastHeard < s.timers.ageLimit * 250) →
      exec (.ageExpiry i) s = .next s)
    ∧ (s.held = false → ∀ j, s.station? j = none → exec (.ageExpiry j) s = .next s)
    ∧ (∀ p m, s.Taking p .stationDetach m → numAt m.body 0 2 = i → numAt m.body 2 6 = r.address.toNat →
      ∃ v, s.Gone v i r .detached
        ∧ let one := v.tell r.cell (.detach (some i) .detached)
          exec (.stationDetach p) s = .next (State.answered (match r.roam with
            | some x => one.tell x.pending (.detach (some i) .detached)
            | none => one) p m .ok []))
    ∧ (∀ t, s.Takes t ⟨r.cell, .depart i, false⟩ → s.configured r.cell = true → r.roam = none →
      ∃ v, (s.afterTake t).Gone v i r .departed ∧ exec .reportTake s = .next v)
    ∧ (∀ t m, r.roam = some m → s.Takes t ⟨m.pending, .depart i, false⟩ → s.configured m.pending = true →
      ∃ v, (s.afterTake t).Gone v i r .left
        ∧ exec .reportTake s = .next (v.tell r.cell (.detach (some i) .left)))

/-- R95, R101, R136, R138, R150: STATION_CLEAR removes every station, in ascending index, each with the
TICKET_RELEASED of its ticket, then queues one all-stations DETACH on every ACTIVE and LOST trunk, and
answers how many it removed; under the laws of the part no ticket is SEATED afterwards, every count of a
configured cell is 0 and every fan-out count is 0. Segments, streams, marks and settings are left as they
are. The order of the trunks is the model's choice (log entry 26). -/
def Obligations.StationClearEmpties : Prop :=
  ∀ (p : PortId) (m : PortMessage) (s : State), s.Taking p .stationClear m → s.stations.wf = true →
    ∃ v : State, exec (.stationClear p) s = .next (State.answered
        (allTrunks.foldl (fun w t => w.append t ⟨none, .detach none .cleared⟩) v) p m .ok
        [.u16 s.stations.entries.length])
      ∧ v.stations.entries = []
      ∧ v.ports.t = (s.stations.entries.foldl (fun w e => match e.2.binding with
          | .bound k => match s.ticket? k with
            | some x => w.notify .T (.ticketReleased k e.1 .cleared x.home)
            | none => w
          | .unbound | .fenced => w) s).ports.t
      ∧ (∀ t, v.trunk t = { s.trunk t with idle := (v.trunk t).idle })
      ∧ (∀ k, (v.ticket? k).isSome = (s.ticket? k).isSome)
      ∧ (∀ k x, s.ticket? k = some x → ∃ y, v.ticket? k = some y ∧ y = { x with state := y.state }
          ∧ y.state = if s.stations.entries.any fun e => e.2.binding == .bound k then .admitted else x.state)
      ∧ (s.TicketLaw → ∀ k x, v.ticket? k = some x → x.state.holder = none)
      ∧ (s.CountLaw → ∀ c x, v.cells.get? c = some x → x.attached = 0 ∧ x.incoming = 0)
      ∧ (s.FanoutLaw → ∀ c k, v.counts c k = ⟨0, 0⟩)
      ∧ v = { s with stations := v.stations, tickets := v.tickets, cells := v.cells, fan := v.fan
                     demand := v.demand, trunks := v.trunks
                     ports := { s.ports with t := v.ports.t, v := v.ports.v } }

/-- R97, R99: a seat grace that has run out fences the station, takes its tier, with TIER_UPDATE where
it had one (R140), and steers a SETTLED one to the fence target; a steer-hold whose end has come is removed.
That the two expiries do nothing before their time, where the field is absent and for a free index is the
model's choice (log entry 11). -/
def Obligations.GraceAndHoldExpire : Prop :=
  ∀ (s : State) (i : StationIx), s.held = false →
    (s.station? i = none →
      exec (.seatGraceExpiry i) s = .next s ∧ exec (.steerHoldExpiry i) s = .next s)
    ∧ ∀ r, s.station? i = some r →
      let v := s.putStation i { r with binding := .fenced, grace := none }
      (r.grace = none → exec (.seatGraceExpiry i) s = .next s)
      ∧ (∀ g, r.grace = some g → elapsed s.now g < s.timers.seatGrace * 250 →
          exec (.seatGraceExpiry i) s = .next s)
      ∧ (∀ g, r.grace = some g → s.timers.seatGrace * 250 ≤ elapsed s.now g →
        ∃ target w, s.LowestOf (s.cell r.cell).neighbours
            (fun c => s.Admits c ∧ (s.cell c).kind = .concourse) target
          ∧ (let z := State.tierTold w i r.cell r.tier .none
            exec (.seatGraceExpiry i) s = .next (match r.roam, target with
              | none, some n => z.tell r.cell (.steer r.address n)
              | none, none | some _, _ => z))
          ∧ w.station? i = some { r with binding := .fenced, grace := none, tier := .none }
          ∧ (∀ j, j ≠ i → w.station? j = s.station? j)
          ∧ (r.tier = .none → w = v)
          ∧ w = { s with stations := w.stations, fan := w.fan, demand := w.demand
                         ports := { s.ports with v := w.ports.v } })
      ∧ (r.steerHold = none → exec (.steerHoldExpiry i) s = .next s)
      ∧ (∀ d, r.steerHold = some d → (s.now - d).toNat < 2 ^ 31 →
          exec (.steerHoldExpiry i) s = .next (s.putStation i { r with steerHold := none }))
      ∧ (∀ d, r.steerHold = some d → 2 ^ 31 ≤ (s.now - d).toNat → exec (.steerHoldExpiry i) s = .next s)

/-! ### Tickets -/

/-- R121: TICKET_LOAD decides its entries one after another, each by the first check that holds, against
the table as the entries before have left it, and answers one result for each. That no count stands
before the results, so that a batch with no entries has the empty body of R121, is the model's choice
(log entry 20). -/
def Obligations.TicketLoadDecidesEntries : Prop :=
  (∀ (s : State) (b : List Byte) (o : Nat),
    let k : Token := BitVec.ofNat 64 (numAt b o 8)
    let tier := byteAt b (o + 9)
    let bad := k = 0 ∨ 63 < byteAt b (o + 8) ∨ (tier ≠ 1 ∧ tier ≠ 2) ∨ 1 < byteAt b (o + 10)
    (bad → s.loadEntry b o = (s, .badValue))
    ∧ (¬ bad → s.ticket? k ≠ none → s.loadEntry b o = (s, .exists_))
    ∧ (¬ bad → s.ticket? k = none → 12288 ≤ s.tickets.entries.length → s.loadEntry b o = (s, .full))
    ∧ (¬ bad → s.ticket? k = none → s.tickets.entries.length < 12288 → s.loadEntry b o
        = (s.putTicket k ⟨byteAt b (o + 8), if byteAt b (o + 10) = 1 then some (byteAt b (o + 11)) else none,
            if tier = 2 then .full else .lean, .issued, 0⟩, .ok)))
  ∧ ∀ (p : PortId) (m : PortMessage) (s : State), s.Taking p .ticketLoad m →
    (16 < byteAt m.body 0 → exec (.ticketLoad p) s = .next (s.answered p m .badValue []))
    ∧ (byteAt m.body 0 ≤ 16 → ∃ run : Nat → State × Result, (run 0).1 = s
      ∧ (∀ n, n < byteAt m.body 0 → run (n + 1) = (run n).1.loadEntry m.body (1 + 12 * n))
      ∧ exec (.ticketLoad p) s = .next ((run (byteAt m.body 0)).1.answered p m .ok
          ((List.range (byteAt m.body 0)).map fun n => .u8 (run (n + 1)).2.code)))

/-- R122, R123, R125, R126, R127: the outcomes of the three gate commands by the ticket's state and the
holder's staleness, and what unbinding does to the holder, with the TIER_UPDATE of a
tier that changes (R140). The one presence byte of GATE_EXIT and
TICKET_VOID, behind which an absent index and cell are sent too, and GATE_ADMIT's holder fields with no
presence byte, are the model's choices (log entry 20). -/
def Obligations.GateCommandsDecide : Prop :=
  (∀ (p : PortId) (m : PortMessage) (s : State) (x : Ticket), s.ticket? (tokenOf m) = some x →
    let k := tokenOf m
    let entered : Ticket := { x with state := .admitted, entries := min 255 (x.entries + 1) }
    let none_ : List Field := [.u8 0, ⟨2, none⟩, ⟨1, none⟩]
    (s.Taking p .gateAdmit m →
      ((x.state = .issued ∨ x.state = .exited) → exec (.gateAdmit p) s
        = .next ((s.putTicket k entered).answered p m .ok [.u8 0, .u8 1, .u8 entered.entries]))
      ∧ (x.state = .admitted → exec (.gateAdmit p) s
        = .next (s.answered p m .ok [.u8 1, .u8 1, .u8 x.entries]))
      ∧ (x.state = .void → exec (.gateAdmit p) s = .next (s.answered p m .ok [.u8 4, .u8 4, .u8 x.entries]))
      ∧ ∀ h r, x.state = .seated h → s.station? h = some r →
        (elapsed s.now r.lastHeard < s.timers.window * 250 → exec (.gateAdmit p) s
          = .next (s.answered p m .ok [.u8 2, .u8 2, .u8 x.entries, .u16 h, .u8 r.cell,
              .u32 (elapsed s.now r.lastHeard)]))
        ∧ (s.timers.window * 250 ≤ elapsed s.now r.lastHeard → exec (.gateAdmit p) s
          = .next (((s.putTicket k entered).unbindStation h).answered p m .ok
              [.u8 3, .u8 1, .u8 entered.entries, .u16 h, .u8 r.cell])))
    ∧ (s.Taking p .gateExit m →
      (x.state = .admitted → exec (.gateExit p) s
        = .next ((s.putTicket k { x with state := .exited }).answered p m .ok none_))
      ∧ ((x.state = .issued ∨ x.state = .exited ∨ x.state = .void) →
          exec (.gateExit p) s = .next (s.answered p m .wrongState []))
      ∧ ∀ h r, x.state = .seated h → s.station? h = some r → exec (.gateExit p) s
        = .next (((s.putTicket k { x with state := .exited }).unbindStation h).answered p m .ok
            [.u8 1, .u16 h, .u8 r.cell]))
    ∧ (s.Taking p .ticketVoid m →
      ((x.state = .issued ∨ x.state = .admitted ∨ x.state = .exited) → exec (.ticketVoid p) s
        = .next ((s.putTicket k { x with state := .void }).answered p m .ok none_))
      ∧ (x.state = .void → exec (.ticketVoid p) s = .next (s.answered p m .ok none_))
      ∧ ∀ h r, x.state = .seated h → s.station? h = some r → exec (.ticketVoid p) s
        = .next (((s.putTicket k { x with state := .void }).unbindStation h).answered p m .ok
            [.u8 1, .u16 h, .u8 r.cell])))
  ∧ ∀ (s : State) (h : StationIx) (r : Station), s.station? h = some r →
    let u := s.unbindStation h
    u.station? h = some { r with
        binding := .unbound
        grace := if (s.cell r.cell).kind = .seat then some s.now else none
        tier := if (s.cell r.cell).kind = .seat then .none else .lean }
      ∧ (∀ j, j ≠ h → u.station? j = s.station? j)
      ∧ ∃ w : State, u = w.tierTold h r.cell r.tier (s.tierUnbound r.cell)
        ∧ w = { s with stations := u.stations, fan := w.fan, demand := w.demand
                       ports := { s.ports with v := w.ports.v } }

/-- R123, R129, R138: TICKET_CLEAR unbinds every BOUND station, in ascending index, each with the
TIER_UPDATE of a tier that changes (R140), and removes every record. -/
def Obligations.TicketClearEmpties : Prop :=
  ∀ (p : PortId) (m : PortMessage) (s : State), s.Taking p .ticketClear m → s.stations.wf = true →
    ∃ v : State, exec (.ticketClear p) s = .next (State.answered
        ((s.stations.entries.filter fun e => e.2.isBound).foldl
          (fun w e => w.tierTold e.1 e.2.cell e.2.tier (s.tierUnbound e.2.cell)) v) p m .ok
        [.u16 s.tickets.entries.length, .u16 (s.stationsWith fun r => r.isBound)])
      ∧ v.tickets.entries = []
      ∧ (∀ i r, s.station? i = some r → v.station? i = some (if r.isBound then
          { r with binding := .unbound, tier := s.tierUnbound r.cell
                   grace := if (s.cell r.cell).kind = .seat then some s.now else none } else r))
      ∧ (∀ i, s.station? i = none → v.station? i = none)
      ∧ v = { s with tickets := v.tickets, stations := v.stations, fan := v.fan, demand := v.demand
                     ports := { s.ports with v := v.ports.v } }

/-- R52, R122, R130 to R134: a presentation is decided by the checks of R130 in their order; it binds an
ADMITTED ticket, and transfers a SEATED one from a stale holder, which is unbound first. TICKET_RESULT goes to
the presenting cell, a TIER_UPDATE of a tier that changes to the station's current cell behind it (R131,
R133, R140), and the notice to Port T. -/
def Obligations.PresentationDecided : Prop :=
  ∀ (s : State) (t : TrunkId) (x : CellId) (i : StationIx) (k : Token) (r : Station),
    s.Takes t ⟨x, .presentTicket i k, false⟩ → s.configured x = true → s.station? i = some r →
    (r.cell = x ∨ r.pendingAt x = true) →
    let q := { r with lastHeard := s.now }
    let v := State.putStation (s.afterTake t) i q
    let told := fun w => v.tell x (.ticketResult i w)
    let elsewhere := ∃ j, r.binding = .bound j ∧ j ≠ k
    (s.ticket? k = none → exec .reportTake s = .next (told .unknown))
    ∧ ∀ y, s.ticket? k = some y →
      let tierHere := if (s.cell r.cell).kind = .seat ∧ (s.cell r.cell).section_ ≠ y.section_ then Level.none
        else y.tier.level
      let result := if (s.cell x).kind = .seat ∧ (s.cell x).section_ ≠ y.section_
        then TicketResult.boundWrongSection else .bound
      let bound := fun (w b : State) =>
        w.station? i = some { q with binding := .bound k, grace := none, tier := tierHere }
          ∧ (∀ j, j ≠ i → w.station? j = b.station? j)
          ∧ w.ticket? k = some { y with state := .seated i }
          ∧ (∀ k', k' ≠ k → w.ticket? k' = s.ticket? k')
          ∧ w = { b with stations := w.stations, tickets := w.tickets, fan := w.fan, demand := w.demand
                         ports := { b.ports with v := w.ports.v } }
      (y.state = .void → exec .reportTake s
          = .next ((told .void).notify .T (.ticketRefused k i x .void .void)))
      ∧ ((y.state = .issued ∨ y.state = .exited) → exec .reportTake s
          = .next ((told .notAdmitted).notify .T (.ticketRefused k i x .notAdmitted y.state)))
      ∧ (y.state = .admitted → elsewhere → exec .reportTake s = .next (told .alreadyBound))
      ∧ (y.state = .admitted → ¬ elsewhere → ∃ w : State, exec .reportTake s = .next (State.notify
            (((w.tell x (.ticketResult i result)).tierTold i r.cell r.tier tierHere)) .T
            (.ticketBound k i x result y.section_ y.home))
          ∧ bound w v)
      ∧ ∀ h, y.state = .seated h →
        (elsewhere → exec .reportTake s = .next (told .alreadyBound))
        ∧ (¬ elsewhere → h = i → exec .reportTake s = .next (told .already))
        ∧ ∀ rh, ¬ elsewhere → h ≠ i → s.station? h = some rh →
          (elapsed s.now rh.lastHeard < s.timers.window * 250 → exec .reportTake s = .next
            ((told .conflict).notify .T
              (.ticketConflict k h rh.cell (elapsed s.now rh.lastHeard) i x)))
          ∧ (s.timers.window * 250 ≤ elapsed s.now rh.lastHeard → ∃ z w : State,
            exec .reportTake s = .next (State.notify
              (((w.tell x (.ticketResult i result)).tierTold i r.cell r.tier tierHere)) .T
              (.ticketTransferred k h rh.cell (elapsed s.now rh.lastHeard) i x result))
            ∧ z.station? h = some { rh with
                binding := .unbound, tier := s.tierUnbound rh.cell
                grace := if (s.cell rh.cell).kind = .seat then some s.now else none }
            ∧ (∀ j, j ≠ h → z.station? j = v.station? j)
            ∧ z = { v with stations := z.stations, fan := z.fan, demand := z.demand
                           ports := { v.ports with v := z.ports.v } }
            ∧ bound w (z.tierTold h rh.cell rh.tier (s.tierUnbound rh.cell)))

/-! ### Fan-out -/

/-- R116, R142 to R144: SUBSCRIBE and UNSUBSCRIBE by the checks in their order; a tier of NONE moves no
count. -/
def Obligations.SubscriptionsDecided : Prop :=
  ∀ (s : State) (t : TrunkId) (x : CellId) (i : StationIx) (n : Nat) (r : Station),
    s.configured x = true → s.station? i = some r → (r.cell = x ∨ r.pendingAt x = true) →
    let q := { r with lastHeard := s.now }
    let at_ := fun (y : Station) => State.putStation (s.afterTake t) i y
    let told := fun (v : State) w => v.tell x (.subResult i n w)
    let moved := fun (v : State) (k : StreamId) (f : Nat → Nat) => State.recompute (match r.tier with
      | .full => v.setCounts r.cell k { s.counts r.cell k with full := f (s.counts r.cell k).full }
      | .lean => v.setCounts r.cell k { s.counts r.cell k with lean := f (s.counts r.cell k).lean }
      | .none => v) k
    (s.Takes t ⟨x, .subscribe i n, false⟩ →
      (r.pendingAt x = true → exec .reportTake s = .next (told (at_ q) .notAttached))
      ∧ (r.pendingAt x = false → 16 ≤ n → exec .reportTake s = .next (told (at_ q) .closed))
      ∧ ∀ k : StreamId, r.pendingAt x = false → k.val = n →
        ((s.stream k).state ≠ .opened → exec .reportTake s = .next (told (at_ q) .closed))
        ∧ ((s.stream k).state = .opened → k ∈ r.subs → exec .reportTake s = .next (told (at_ q) .ok))
        ∧ ((s.stream k).state = .opened → k ∉ r.subs → 4 ≤ r.subs.length →
            exec .reportTake s = .next (told (at_ q) .full))
        ∧ ((s.stream k).state = .opened → k ∉ r.subs → r.subs.length < 4 → exec .reportTake s = .next
            (if r.tier = .none then told (at_ { q with subs := r.subs ++ [k] }) .okNoTier
             else told (moved (at_ { q with subs := r.subs ++ [k] }) k (· + 1)) .ok)))
    ∧ (s.Takes t ⟨x, .unsubscribe i n, false⟩ →
      (r.pendingAt x = true → exec .reportTake s = .next (told (at_ q) .notAttached))
      ∧ (r.pendingAt x = false → 16 ≤ n → exec .reportTake s = .next (told (at_ q) .ok))
      ∧ ∀ k : StreamId, r.pendingAt x = false → k.val = n →
        (k ∉ r.subs → exec .reportTake s = .next (told (at_ q) .ok))
        ∧ (k ∈ r.subs → exec .reportTake s = .next
            (told (if r.tier = .none then at_ { q with subs := r.subs.filter (· ≠ k) }
              else moved (at_ { q with subs := r.subs.filter (· ≠ k) }) k (· - 1)) .ok)))

/-- R145, R146, R147: the trunk demand of a stream, NONE on a trunk that is not ACTIVE; a recompute
stores the highest trunk demand over the ACTIVE trunks, FULL only where a cell that does not count as
crowded has a FULL watcher, and queues STREAM_DEMAND on a change alone. -/
def Obligations.DemandRecomputed : Prop :=
  ∀ (s : State) (k : StreamId), let u := s.recompute k
    (∀ t : TrunkId, let on := fun (f : CellId → Prop) =>
        (s.trunk t).state = .active ∧ ∃ pos, pos < 32 ∧ f (32 * t.val + pos)
      (s.trunkDemand t k = .full ↔ on fun c => ¬ s.IsCrowded c ∧ 0 < (s.counts c k).full)
      ∧ (s.trunkDemand t k = .none ↔ ¬ on fun c => 0 < (s.counts c k).full + (s.counts c k).lean))
    ∧ (u.sectorDemand k = .full ↔ s.OnActive fun c => ¬ s.IsCrowded c ∧ 0 < (s.counts c k).full)
    ∧ (u.sectorDemand k = .none ↔ ¬ s.OnActive fun c => 0 < (s.counts c k).full + (s.counts c k).lean)
    ∧ (u.sectorDemand k = s.sectorDemand k → u = s)
    ∧ (u.sectorDemand k ≠ s.sectorDemand k → u = State.notify (s.setDemand k (u.sectorDemand k)) .V
        (.streamDemand k (s.sectorDemand k) (u.sectorDemand k)))
    ∧ ∀ k', k' ≠ k → u.sectorDemand k' = s.sectorDemand k'
/-- R148, R165, R166: closing an OPEN stream withdraws it from every list and count, frees its upload and
its held segments, starts its drain and answers how many it freed and how many are left; STREAM_END goes
to every ACTIVE trunk; STREAM_DEMAND and STREAM_DRAINED are queued where they are due; RELEASED
descriptors stay. A station's record is otherwise as it was. The Port V grace expiry closes every OPEN
stream; that with the timer stopped, or before 500 units, it does nothing is the model's choice (log
entry 11). -/
def Obligations.StreamsClosed : Prop :=
  ∀ s : State, s.descs.wf = true →
    let kept := fun (u : State) => ∀ d r refs cs, s.desc? d = some r → r.state = .released refs cs →
      d ∉ s.release → u.desc? d = some r
    (∀ (p : PortId) (m : PortMessage) (k : StreamId), s.Taking p .streamClose m → byteAt m.body 0 = k.val →
      ((s.stream k).state ≠ .opened → exec (.streamClose p) s = .next (s.answered p m .wrongState []))
      ∧ ((s.stream k).state = .opened → ∃ u, exec (.streamClose p) s = .next u
        ∧ (u.stream k).state = (if (u.stream k).inUse = 0 then .closed else .draining)
        ∧ (∀ i r, u.station? i = some r → k ∉ r.subs)
        ∧ (∀ i, u.station? i = (s.station? i).map fun r => { r with subs := r.subs.filter (· ≠ k) })
        ∧ (∀ c, u.counts c k = ⟨0, 0⟩) ∧ u.sectorDemand k = .none
        ∧ (∀ d r n, s.upload? k = some (d, r, n) → u.desc? d = none)
        ∧ (∀ d r, d ∈ s.release → s.desc? d = some r → r.stream = k → r.state = .held →
            u.desc? d = none ∧ d ∉ u.release)
        ∧ u.release.Sublist s.release
        ∧ (∀ d r, d ∈ s.release → s.desc? d = some r → r.stream ≠ k →
            d ∈ u.release ∧ u.desc? d = some r)
        ∧ kept u
        ∧ (∀ t, u.trunk t =
            if (s.trunk t).state ≠ .active then s.trunk t
            else if (s.trunk t).control.length < 512 then
              { s.trunk t with control := (s.trunk t).control ++ [⟨none, .streamEnd k⟩] }
            else { s.trunk t with flags := { (s.trunk t).flags with controlOverflow := true } })
        ∧ (let freed := (s.release.filter fun d => (s.desc? d).any fun r => r.stream == k).length
              + bit (s.upload? k).isSome
          let quiet := if s.sectorDemand k = .none then s
            else s.notify .V (.streamDemand k (s.sectorDemand k) .none)
          let ended := if (u.stream k).inUse = 0 then quiet.notify .V (.streamDrained k) else quiet
          u.ports.v = (ended.answered .V m .ok [.u16 freed, .u16 (u.stream k).inUse]).ports.v)
        ∧ (∀ k', k' ≠ k → u.stream k' = s.stream k' ∧ u.sectorDemand k' = s.sectorDemand k'
            ∧ ∀ c, u.counts c k' = s.counts c k')
        ∧ u.tickets = s.tickets ∧ u.cells = s.cells ∧ u.marks = s.marks ∧ u.segMem = s.segMem))
    ∧ (s.held = false → s.grace = none → exec .portVGraceExpiry s = .next s)
    ∧ (∀ g, s.held = false → s.grace = some g → elapsed s.now g < 500 →
        exec .portVGraceExpiry s = .next s)
    ∧ (∀ g, s.held = false → s.grace = some g → 500 ≤ elapsed s.now g →
        ∃ u, exec .portVGraceExpiry s = .next u ∧ u.grace = none
        ∧ (∀ k, (s.stream k).state = .opened →
            (u.stream k).state = (if (u.stream k).inUse = 0 then .closed else .draining)
            ∧ (∀ i r, u.station? i = some r → k ∉ r.subs)
            ∧ (∀ c, u.counts c k = ⟨0, 0⟩) ∧ u.sectorDemand k = .none
            ∧ ∀ d r, d ∈ s.release → s.desc? d = some r → r.stream = k → r.state = .held →
                u.desc? d = none ∧ d ∉ u.release)
        ∧ (∀ k, (s.stream k).state ≠ .opened → u.stream k = s.stream k)
        ∧ (∀ i, u.station? i = (s.station? i).map fun r =>
            { r with subs := r.subs.filter fun k => (s.stream k).state ≠ .opened })
        ∧ kept u
        ∧ (let ends := (allStreams.filter fun k => (s.stream k).state = .opened).map fun k =>
            Ctl.mk none (.streamEnd k)
          ∀ t, ((s.trunk t).state ≠ .active → u.trunk t = s.trunk t)
            ∧ ((s.trunk t).state = .active → (s.trunk t).control.length + ends.length ≤ 512 →
              u.trunk t = { s.trunk t with control := (s.trunk t).control ++ ends }))
        ∧ u.tickets = s.tickets ∧ u.cells = s.cells ∧ u.marks = s.marks ∧ u.segMem = s.segMem)
/-! ### Replay -/

/-- R152 to R154, R160, R161, R163: opening a stream, the six checks of SEG_BEGIN and the descriptor it
takes, the chunk that SEG_DATA writes, and SEG_ABORT. -/
def Obligations.StreamUploads : Prop :=
  ∀ (p : PortId) (m : PortMessage) (s : State) (k : StreamId), byteAt m.body 0 = k.val →
    let r := s.stream k
    (s.Taking p .streamOpen m →
      (r.state = .closed → exec (.streamOpen p) s = .next (State.answered
        (s.setStream k { r with state := .opened, lastSeq := none, unwatched := 0 }) p m .ok []))
      ∧ (r.state ≠ .closed → exec (.streamOpen p) s = .next (s.answered p m .wrongState [])))
    ∧ (s.Taking p .segBegin m →
      let q : Seq := BitVec.ofNat 16 (numAt m.body 2 2)
      let mk : Mark := BitVec.ofNat 16 (numAt m.body 4 2)
      let nL := numAt m.body 6 2
      let nX := numAt m.body 8 2
      let late := ∃ l, r.lastSeq = some l ∧ ((q - l).toNat = 0 ∨ 32768 ≤ (q - l).toNat)
      let far := (s.marks.count - mk).toInt < -1024
      let sizes := nL = 0 ∨ 255 < nL ∨ 769 < nX ∨ 1024 < nL + nX
      let exhausted := 256 ≤ s.descs.entries.length ∨ 16384 < s.used.length + (nL + nX)
      let refused := fun w => exec (.segBegin p) s = .next (s.answered p m w [])
      (r.state ≠ .opened → refused .wrongState)
      ∧ (r.state = .opened → s.upload? k ≠ none → refused .busy)
      ∧ (r.state = .opened → s.upload? k = none → late → refused .badSequence)
      ∧ (r.state = .opened → s.upload? k = none → ¬ late → (far ∨ sizes) → refused .badValue)
      ∧ (r.state = .opened → s.upload? k = none → ¬ late → ¬ far → ¬ sizes → exhausted → refused .noSpace)
      ∧ (r.state = .opened → s.upload? k = none → ¬ late → ¬ far → ¬ sizes → ¬ exhausted →
          s.used.Pairwise (· < ·) → s.descs.wf = true →
          ∃ d blocks u, exec (.segBegin p) s = .next (State.answered u p m .ok
              [.u8 d, .u16 (blocks.headD 0), .u16 (blocks.getLastD 0)])
            ∧ s.desc? d = none ∧ (∀ e, e < d → s.desc? e ≠ none)
            ∧ blocks.length = nL + nX ∧ blocks.Pairwise (· < ·) ∧ (∀ b ∈ blocks, b ∉ s.used)
            ∧ (∀ b, b ∉ s.used → b ∉ blocks → ∀ b' ∈ blocks, b' < b)
            ∧ u.desc? d = some ⟨.uploading 0, k, q, mk, nL, nX, blocks⟩
            ∧ (∀ e, e ≠ d → u.desc? e = s.desc? e)
            ∧ (∀ b, b ∈ u.used ↔ b ∈ s.used ∨ b ∈ blocks)
            ∧ u.stream k = { r with inUse := r.inUse + 1 }
            ∧ u = { s with descs := u.descs, used := u.used
                           streams := s.streams.set k.val { r with inUse := r.inUse + 1 } }))
    ∧ (s.Taking p .segData m →
      (s.upload? k = none → exec (.segData p) s = .next (s.answered p m .noSuch []))
      ∧ ∀ d x next, s.upload? k = some (d, x, next) →
        ((numAt m.body 2 2 ≠ next ∨ x.nL + x.nX ≤ next) →
          exec (.segData p) s = .next (s.answered p m .badSequence []))
        ∧ (numAt m.body 2 2 = next → next < x.nL + x.nX → Memory.wf s.segMem = true → ∃ mem,
          exec (.segData p) s = .next (State.answered
            { s.putDesc d { x with state := .uploading (next + 1) } with segMem := mem } p m .ok
            [.u16 (next + 1)])
          ∧ ∀ a, let base := 256 * x.blocks.getD next 0
            Memory.read mem a = if base ≤ a ∧ a < base + 256 then m.body.getD (4 + (a - base)) 0
              else Memory.read s.segMem a))
    ∧ (s.Taking p .segAbort m →
      (s.upload? k = none → exec (.segAbort p) s = .next (s.answered p m .noSuch []))
      ∧ ∀ d x next, s.upload? k = some (d, x, next) → s.descs.wf = true → ∃ u,
        exec (.segAbort p) s = .next (State.answered u p m .ok [])
        ∧ u.desc? d = none ∧ (∀ e, e ≠ d → u.desc? e = s.desc? e)
        ∧ (∀ b, b ∈ u.used ↔ b ∈ s.used ∧ b ∉ x.blocks)
        ∧ (u.stream k).lastSeq = r.lastSeq ∧ (u.stream k).inUse = r.inUse - 1
        ∧ ∀ k', k' ≠ k → u.stream k' = s.stream k')

/-- R158, R162: the outcomes of SEG_END in their order; a held descriptor stands behind every one with
a nearer or an equal mark. That the reference count and the renditions stand in a RELEASED body alone, with
no presence byte, is the model's choice (log entry 20). -/
def Obligations.SegmentEnded : Prop :=
  ∀ (p : PortId) (m : PortMessage) (s : State) (k : StreamId), s.Taking p .segEnd m →
    byteAt m.body 0 = k.val → s.descs.wf = true →
    (s.upload? k = none → exec (.segEnd p) s = .next (s.answered p m .noSuch []))
    ∧ ∀ d x next, s.upload? k = some (d, x, next) →
      let dist := (s.marks.count - x.mark).toInt
      let wanted := allTrunks.filter fun t => s.trunkDemand t k ≠ .none
      let v := s.setStream k { s.stream k with lastSeq := some x.sequence }
      (next < x.nL + x.nX → exec (.segEnd p) s = .next (s.answered p m .incomplete []))
      ∧ (x.nL + x.nX ≤ next → ((s.marks.stale : Int) < dist ∨ dist < -1024) →
          exec (.segEnd p) s = .next ((v.freeDesc d).answered p m .stale []))
      ∧ (x.nL + x.nX ≤ next → dist ≤ s.marks.stale → 0 ≤ dist → ∃ body,
          exec (.segEnd p) s = .next ((v.releaseDesc d).answered p m .ok (.u8 d :: body))
          ∧ (wanted = [] → body = [.u8 2])
          ∧ (wanted ≠ [] → body = [.u8 1, .u8 wanted.length]
              ++ allTrunks.map fun t => .u8 (s.trunkDemand t k).code))
      ∧ (x.nL + x.nX ≤ next → -1024 ≤ dist → dist < 0 → ∃ before after,
          s.release = before ++ after
          ∧ (∀ e y, e ∈ before → s.desc? e = some y → dist ≤ (s.marks.count - y.mark).toInt)
          ∧ (∀ e y, after.head? = some e → s.desc? e = some y → (s.marks.count - y.mark).toInt < dist)
          ∧ exec (.segEnd p) s = .next (State.answered
              { v.putDesc d { x with state := .held } with release := before ++ d :: after } p m .ok
              [.u8 d, .u8 0]))

/-- R155 to R157, R164: MARK, the generator expiry and MARK_SET. A mark event raises the count by 1;
releases the held segments whose mark is now reached, in release order, and keeps the others in their
order; then takes each stale segment, in ascending index, out of every replay queue that holds it, with
one SEGMENT_STALE, and so frees it, and touches no other. That an expiry before its time, or with the
generator stopped, changes nothing is the model's choice (log entry 11), and so is that a MARK_SET with
source PORT_V leaves the generator STOPPED with no next expiry (log entry 19). -/
def Obligations.MarksCounted : Prop :=
  (∀ s : State, s.descs.wf = true → let u := s.markEvent
    let counted := { s with marks := { s.marks with count := s.marks.count + 1 } }
    let reached := fun d => (s.desc? d).any fun r => decide (0 ≤ counted.ahead r)
    let v := (s.release.filter reached).foldl
      (fun v d => State.releaseDesc { v with release := v.release.filter (· ≠ d) } d) counted
    let queuesOf := fun (w : State) d => allTrunks.filter fun t => d ∈ (w.trunk t).replay
    let stale := fun d => (v.desc? d).any fun r => decide (s.marks.stale < counted.ahead r) && queuesOf v d != []
    let flush := fun (w : State) d => match w.desc? d with
      | some r => (queuesOf w d).foldl (fun x t => x.unlink t d)
          (w.notify .V (.segmentStale r.stream r.sequence (queuesOf w d)))
      | none => w
    u.marks = { s.marks with count := s.marks.count + 1 }
    ∧ u.release = s.release.filter (fun d => !reached d)
    ∧ u = ((v.descs.entries.map fun e => e.1).filter stale).foldl flush v
    ∧ (∀ d, stale d = false → u.desc? d = v.desc? d)
    ∧ (∀ d ∈ u.release, d ∈ s.release ∧ ∀ r, s.desc? d = some r → (u.marks.count - r.mark).toInt < 0)
    ∧ (∀ t d r, d ∈ (u.trunk t).replay → u.desc? d = some r →
        (u.marks.count - r.mark).toInt ≤ s.marks.stale)
    ∧ (s.ReplayLaw → ∀ d, stale d = true → u.desc? d = none ∧ ∀ t, d ∉ (u.trunk t).replay))
  ∧ (∀ (p : PortId) (m : PortMessage) (s : State),
    (s.Taking p .mark m →
      (s.marks.source = .portV → exec (.mark p) s = .next
        (s.markEvent.answered p m .ok [.u16 (s.marks.count + 1).toNat]))
      ∧ (s.marks.source = .internal → exec (.mark p) s = .next (s.answered p m .wrongState [])))
    ∧ (s.Taking p .markSet m →
      let period := max 1 (min 250 (numAt m.body 2 2))
      let stale := max 1 (min 64 (numAt m.body 4 2))
      let tail : List Field := [.u16 period, .u16 stale, .u16 s.marks.count.toNat]
      ((2 ≤ byteAt m.body 0 ∨ 2 ≤ byteAt m.body 1) →
        exec (.markSet p) s = .next (s.answered p m .badValue []))
      ∧ (byteAt m.body 0 = 0 → byteAt m.body 1 < 2 → exec (.markSet p) s = .next (State.answered
        { s with marks := ⟨s.marks.count, .internal, if byteAt m.body 1 = 0 then .periodic else .single,
            period, some (s.now + BitVec.ofNat 32 period), stale⟩ } p m .ok
        ([.u8 0, .u8 (byteAt m.body 1)] ++ tail)))
      ∧ (byteAt m.body 0 = 1 → byteAt m.body 1 < 2 → ∃ mode, exec (.markSet p) s = .next
        (State.answered { s with marks := ⟨s.marks.count, .portV, .stopped, period, none, stale⟩ } p m .ok
          ([.u8 1, .u8 mode] ++ tail)))))
  ∧ ∀ s : State, s.held = false →
    (∀ due, s.marks.next = some due → (s.now - due).toNat < 2 ^ 31 →
      (s.marks.mode = .periodic → exec .generatorExpiry s = .next { s.markEvent with
        marks := { s.marks with count := s.marks.count + 1
                                next := some (due + BitVec.ofNat 32 s.marks.period) } })
      ∧ (s.marks.mode = .single → exec .generatorExpiry s = .next { s.markEvent with
        marks := { s.marks with count := s.marks.count + 1, mode := .stopped, next := none } }))
    ∧ ((s.marks.mode = .stopped ∨ s.marks.next = none
        ∨ ∃ due, s.marks.next = some due ∧ 2 ^ 31 ≤ (s.now - due).toNat) →
      exec .generatorExpiry s = .next s)
/-- R154, R159, R173, R174: a release sets each trunk's rendition from the demand of that moment and
appends the descriptor to the queue of every trunk that wants it; wanted nowhere it is freed and counted
unwatched. Leaving one queue clears the rendition there and lowers the reference count, which frees it
at 0; freeing gives its blocks back and ends the drain of a DRAINING stream with no other. -/
def Obligations.ReleaseFollowsDemand : Prop :=
  ∀ (s : State) (d : DescIx) (r : Desc), s.desc? d = some r → s.descs.wf = true →
    let u := s.releaseDesc d
    ((∀ t, s.trunkDemand t r.stream = .none) → u.desc? d = none
      ∧ (u.stream r.stream).unwatched = min 65535 ((s.stream r.stream).unwatched + 1)
      ∧ (∀ t, u.trunk t = s.trunk t) ∧ u.used = s.used.filter (· ∉ r.blocks))
    ∧ (∀ t0, s.trunkDemand t0 r.stream ≠ .none → ∃ refs cs,
      u.desc? d = some { r with state := .released refs cs }
      ∧ refs = (allTrunks.filter fun t => s.trunkDemand t r.stream ≠ .none).length
      ∧ (∀ t : TrunkId, cs[t.val] = match s.trunkDemand t r.stream with
          | .none => ⟨.none, 0⟩
          | .lean => ⟨.lean, r.nL⟩
          | .full => ⟨.full, r.nL + r.nX⟩)
      ∧ (∀ t, u.trunk t = { s.trunk t with
          replay := (s.trunk t).replay ++ if s.trunkDemand t r.stream = .none then [] else [d] })
      ∧ (∀ e, e ≠ d → u.desc? e = s.desc? e)
      ∧ u = { s with descs := u.descs, trunks := u.trunks })
    ∧ (∀ (t : TrunkId) refs cs, r.state = .released refs cs →
      let v := s.unlink t d
      let fewer := s.setTrunk t { s.trunk t with
        replay := (s.trunk t).replay.filter (· ≠ d), allocation := (v.trunk t).allocation }
      let cleared := fewer.putDesc d { r with state := .released (refs - 1) (cs.set t.val ⟨.none, 0⟩) }
      v = (if refs ≤ 1 then cleared.freeDesc d else cleared)
      ∧ ∀ a, (s.trunk t).allocation = some a → (v.trunk t).allocation = some { a with
          plan := a.plan.map fun e => if e.any (fun x => x.desc == d) then none else e })
    ∧ let w := s.freeDesc d
      let k := s.stream r.stream
      let last := k.state = .draining ∧ k.inUse ≤ 1
      let freed := State.setStream { s with descs := s.descs.del d, used := s.used.filter (· ∉ r.blocks) }
        r.stream { k with inUse := k.inUse - 1, state := if last then .closed else k.state }
      w = (if last then freed.notify .V (.streamDrained r.stream) else freed)
        ∧ w.desc? d = none ∧ ∀ e, e ≠ d → w.desc? e = s.desc? e
/-- R167: REPLAY_CLEAR empties the replay queues, the release queue and the pool, closes every stream and
withdraws the OPEN ones, ascending, with their STREAM_DEMAND and STREAM_END, and answers how many
descriptors it freed. It queues no STREAM_DRAINED and no SEGMENT_STALE, and keeps each stream's last
sequence and unwatched count. Under the laws of the part no stream has a descriptor and no block is used
afterwards. -/
def Obligations.ReplayClearEmpties : Prop :=
  ∀ (p : PortId) (m : PortMessage) (s : State), s.Taking p .replayClear m →
    let opens := allStreams.filter fun k => (s.stream k).state = .opened
    ∃ u stamp, exec (.replayClear p) s = .next u
      ∧ (u.port p).responses = (s.port p).responses
          ++ [⟨m.code, m.tag, .ok, [.u16 s.descs.entries.length], stamp⟩]
      ∧ u.descs.entries = [] ∧ u.release = []
      ∧ (∀ b ∈ u.used, b ∈ s.used ∧ ∀ e ∈ s.descs.entries, b ∉ e.2.blocks)
      ∧ (s.BlockLaw → u.used = [] ∧ ∀ k, (u.stream k).inUse = 0)
      ∧ (∀ t, (u.trunk t).replay = [])
      ∧ (∀ t a, (u.trunk t).allocation = some a → ∀ e ∈ a.plan, e = none)
      ∧ (∀ t, let ends := opens.map fun k => Ctl.mk none (.streamEnd k)
        u.trunk t = { s.trunk t with
            replay := [], allocation := (u.trunk t).allocation
            control := (u.trunk t).control, flags := (u.trunk t).flags }
          ∧ ((s.trunk t).state ≠ .active → (u.trunk t).control = (s.trunk t).control)
          ∧ ((s.trunk t).state = .active → (s.trunk t).control.length + ends.length ≤ 512 →
            (u.trunk t).control = (s.trunk t).control ++ ends))
      ∧ u.ports.v = ((opens.foldl (fun v k => if s.sectorDemand k = .none then v
            else v.notify .V (.streamDemand k (s.sectorDemand k) .none)) s).answered .V m .ok
          [.u16 s.descs.entries.length]).ports.v
      ∧ (∀ k, u.stream k = { s.stream k with state := .closed, inUse := (u.stream k).inUse })
      ∧ (∀ k, (s.stream k).state = .opened → (∀ c, u.counts c k = ⟨0, 0⟩) ∧ u.sectorDemand k = .none
          ∧ ∀ i r, u.station? i = some r → k ∉ r.subs)
      ∧ (∀ i, u.station? i = (s.station? i).map fun r =>
          { r with subs := r.subs.filter fun k => (s.stream k).state ≠ .opened })
      ∧ u = { s with descs := u.descs, used := u.used, release := u.release, streams := u.streams,
                     trunks := u.trunks, ports := u.ports, stations := u.stations, fan := u.fan,
                     demand := u.demand }
/-! ### What every step keeps -/

/-- The laws of a port (R3, R4, R6, R11) hold after every step. -/
def Obligations.PortsStaySound : Prop :=
  ∀ s u : State, s.PortsSound → step s = .next u → u.PortsSound

/-- The laws of a trunk's record (R21, R22, R33, R45, R61, R63, R170, R175) hold after every step, and so
does the law of the auto-standby idle timers (R30); a timer that runs after a step runs on from its
stamp or has started now. -/
def Obligations.TrunksStaySound : Prop :=
  (∀ s u : State, s.TrunksSound → step s = .next u → u.TrunksSound)
  ∧ ∀ s u : State, s.IdleLaw → step s = .next u → u.IdleLaw ∧ ∀ t stamp, (u.trunk t).idle = some stamp →
      (s.trunk t).idle = some stamp ∨ stamp = u.now
/-- Segment memory and every table keep their one canonical form (log entry 23), and the laws of the
replay side hold after every step: of the descriptors and their blocks (R153, R154), of the release
queue (R158) and of the replay queues and reference counts (R159, R174). -/
def Obligations.TablesStaySound : Prop :=
  (∀ s u : State, s.TablesSound → step s = .next u → u.TablesSound)
  ∧ ∀ s u : State, s.ReplayLaw → step s = .next u → u.ReplayLaw
/-- Tickets and stations name each other after every step (R120). -/
def Obligations.TicketLawKept : Prop :=
  ∀ s u : State, s.TicketLaw → step s = .next u → u.TicketLaw

/-- Law 1 of the device holds after every step (R71, R102). -/
def Obligations.CountLawKept : Prop :=
  ∀ s u : State, s.CountLaw → step s = .next u → u.CountLaw

/-- The law of the fan-out counts holds after every step (R141), and with the laws of the tickets and of
the cells' counts the stored sector demand (R146) and the stored tiers (R139, R140) stay what they are
computed from. -/
def Obligations.FanoutLawKept : Prop :=
  (∀ s u : State, s.FanoutLaw → step s = .next u → u.FanoutLaw)
  ∧ (∀ s u : State, s.CountLaw → s.FanoutLaw → s.DemandLaw → step s = .next u → u.DemandLaw)
  ∧ ∀ s u : State, s.TicketLaw → s.CountLaw → s.TierLaw → step s = .next u → u.TierLaw
/-- Every law holds right after device reset. -/
def Obligations.LawsHoldAtReset : Prop :=
  State.reset.PortsSound ∧ State.reset.TrunksSound ∧ State.reset.TablesSound
    ∧ State.reset.TicketLaw ∧ State.reset.CountLaw ∧ State.reset.FanoutLaw
    ∧ State.reset.IdleLaw ∧ State.reset.DemandLaw ∧ State.reset.TierLaw ∧ State.reset.ReplayLaw
end
end

