-- ==== Sys2Proof/Laws/State.lean ====
section
/-! SUPPORT. What each update of one record of the state does to every field and to every read of a
record: one lemma for each field and update, so that no later proof unfolds an update. -/
namespace Sys2Proof.Machine

/-! ### Ports -/

/-- A written port reads as written; the others are unchanged. -/
@[simp] theorem State.port_setPort (s : State) (p : PortId) (q : Port) (p' : PortId) :
    (s.setPort p q).port p' = if p' = p then q else s.port p' := by
  cases p <;> cases p' <;> rfl

/-- A written port reads as written. -/
theorem State.port_setPort_self (s : State) (p : PortId) (q : Port) : (s.setPort p q).port p = q := by
  cases p <;> rfl

/-- The last write of a port counts. -/
@[simp] theorem State.setPort_setPort (s : State) (p : PortId) (q q' : Port) :
    (s.setPort p q).setPort p q' = s.setPort p q' := by cases p <;> rfl

/-- Writing a port as it stands changes nothing. -/
@[simp] theorem State.setPort_port (s : State) (p : PortId) : s.setPort p (s.port p) = s := by
  cases p <;> rfl

/-- A port write is a change of `ports` alone. -/
theorem State.setPort_frame (s : State) (p : PortId) (q : Port) :
    s.setPort p q = { s with ports := (s.setPort p q).ports } := by cases p <;> rfl

@[simp] theorem State.setPort_now (s : State) (p : PortId) (q : Port) : (s.setPort p q).now = s.now := by
  cases p <;> rfl
@[simp] theorem State.setPort_held (s : State) (p : PortId) (q : Port) : (s.setPort p q).held = s.held := by
  cases p <;> rfl
@[simp] theorem State.setPort_timers (s : State) (p : PortId) (q : Port) : (s.setPort p q).timers = s.timers := by
  cases p <;> rfl
@[simp] theorem State.setPort_trunks (s : State) (p : PortId) (q : Port) : (s.setPort p q).trunks = s.trunks := by
  cases p <;> rfl
@[simp] theorem State.setPort_pointer (s : State) (p : PortId) (q : Port) : (s.setPort p q).pointer = s.pointer := by
  cases p <;> rfl
@[simp] theorem State.setPort_cells (s : State) (p : PortId) (q : Port) : (s.setPort p q).cells = s.cells := by
  cases p <;> rfl
@[simp] theorem State.setPort_load (s : State) (p : PortId) (q : Port) : (s.setPort p q).load = s.load := by
  cases p <;> rfl
@[simp] theorem State.setPort_stations (s : State) (p : PortId) (q : Port) : (s.setPort p q).stations = s.stations := by
  cases p <;> rfl
@[simp] theorem State.setPort_tickets (s : State) (p : PortId) (q : Port) : (s.setPort p q).tickets = s.tickets := by
  cases p <;> rfl
@[simp] theorem State.setPort_fan (s : State) (p : PortId) (q : Port) : (s.setPort p q).fan = s.fan := by
  cases p <;> rfl
@[simp] theorem State.setPort_demand (s : State) (p : PortId) (q : Port) : (s.setPort p q).demand = s.demand := by
  cases p <;> rfl
@[simp] theorem State.setPort_streams (s : State) (p : PortId) (q : Port) : (s.setPort p q).streams = s.streams := by
  cases p <;> rfl
@[simp] theorem State.setPort_descs (s : State) (p : PortId) (q : Port) : (s.setPort p q).descs = s.descs := by
  cases p <;> rfl
@[simp] theorem State.setPort_used (s : State) (p : PortId) (q : Port) : (s.setPort p q).used = s.used := by
  cases p <;> rfl
@[simp] theorem State.setPort_segMem (s : State) (p : PortId) (q : Port) : (s.setPort p q).segMem = s.segMem := by
  cases p <;> rfl
@[simp] theorem State.setPort_release (s : State) (p : PortId) (q : Port) : (s.setPort p q).release = s.release := by
  cases p <;> rfl
@[simp] theorem State.setPort_marks (s : State) (p : PortId) (q : Port) : (s.setPort p q).marks = s.marks := by
  cases p <;> rfl
@[simp] theorem State.setPort_grace (s : State) (p : PortId) (q : Port) : (s.setPort p q).grace = s.grace := by
  cases p <;> rfl
@[simp] theorem State.setPort_fresh (s : State) (p : PortId) (q : Port) : (s.setPort p q).fresh = s.fresh := by
  cases p <;> rfl
@[simp] theorem State.setPort_pending (s : State) (p : PortId) (q : Port) : (s.setPort p q).pending = s.pending := by
  cases p <;> rfl
@[simp] theorem State.trunk_setPort (s : State) (p : PortId) (q : Port) (t' : TrunkId) :
    (s.setPort p q).trunk t' = s.trunk t' := by cases p <;> rfl
@[simp] theorem State.cell_setPort (s : State) (p : PortId) (q : Port) (c : CellId) :
    (s.setPort p q).cell c = s.cell c := by cases p <;> rfl
@[simp] theorem State.configured_setPort (s : State) (p : PortId) (q : Port) (c : CellId) :
    (s.setPort p q).configured c = s.configured c := by cases p <;> rfl
@[simp] theorem State.station?_setPort (s : State) (p : PortId) (q : Port) (i' : StationIx) :
    (s.setPort p q).station? i' = s.station? i' := by cases p <;> rfl
@[simp] theorem State.stationAt?_setPort (s : State) (p : PortId) (q : Port) (a : Address) :
    (s.setPort p q).stationAt? a = s.stationAt? a := by cases p <;> rfl
@[simp] theorem State.ticket?_setPort (s : State) (p : PortId) (q : Port) (k' : Token) :
    (s.setPort p q).ticket? k' = s.ticket? k' := by cases p <;> rfl
@[simp] theorem State.counts_setPort (s : State) (p : PortId) (q : Port) (c : CellId) (k' : StreamId) :
    (s.setPort p q).counts c k' = s.counts c k' := by cases p <;> rfl
@[simp] theorem State.stream_setPort (s : State) (p : PortId) (q : Port) (k' : StreamId) :
    (s.setPort p q).stream k' = s.stream k' := by cases p <;> rfl
@[simp] theorem State.sectorDemand_setPort (s : State) (p : PortId) (q : Port) (k' : StreamId) :
    (s.setPort p q).sectorDemand k' = s.sectorDemand k' := by cases p <;> rfl
@[simp] theorem State.desc?_setPort (s : State) (p : PortId) (q : Port) (d' : DescIx) :
    (s.setPort p q).desc? d' = s.desc? d' := by cases p <;> rfl

/-! ### setTrunk -/

@[simp] theorem State.setTrunk_now (s : State) (t : TrunkId) (r : Trunk) : (s.setTrunk t r).now = s.now := rfl
@[simp] theorem State.setTrunk_held (s : State) (t : TrunkId) (r : Trunk) : (s.setTrunk t r).held = s.held := rfl
@[simp] theorem State.setTrunk_ports (s : State) (t : TrunkId) (r : Trunk) : (s.setTrunk t r).ports = s.ports := rfl
@[simp] theorem State.setTrunk_timers (s : State) (t : TrunkId) (r : Trunk) : (s.setTrunk t r).timers = s.timers := rfl
@[simp] theorem State.setTrunk_pointer (s : State) (t : TrunkId) (r : Trunk) : (s.setTrunk t r).pointer = s.pointer := rfl
@[simp] theorem State.setTrunk_cells (s : State) (t : TrunkId) (r : Trunk) : (s.setTrunk t r).cells = s.cells := rfl
@[simp] theorem State.setTrunk_load (s : State) (t : TrunkId) (r : Trunk) : (s.setTrunk t r).load = s.load := rfl
@[simp] theorem State.setTrunk_stations (s : State) (t : TrunkId) (r : Trunk) : (s.setTrunk t r).stations = s.stations := rfl
@[simp] theorem State.setTrunk_tickets (s : State) (t : TrunkId) (r : Trunk) : (s.setTrunk t r).tickets = s.tickets := rfl
@[simp] theorem State.setTrunk_fan (s : State) (t : TrunkId) (r : Trunk) : (s.setTrunk t r).fan = s.fan := rfl
@[simp] theorem State.setTrunk_demand (s : State) (t : TrunkId) (r : Trunk) : (s.setTrunk t r).demand = s.demand := rfl
@[simp] theorem State.setTrunk_streams (s : State) (t : TrunkId) (r : Trunk) : (s.setTrunk t r).streams = s.streams := rfl
@[simp] theorem State.setTrunk_descs (s : State) (t : TrunkId) (r : Trunk) : (s.setTrunk t r).descs = s.descs := rfl
@[simp] theorem State.setTrunk_used (s : State) (t : TrunkId) (r : Trunk) : (s.setTrunk t r).used = s.used := rfl
@[simp] theorem State.setTrunk_segMem (s : State) (t : TrunkId) (r : Trunk) : (s.setTrunk t r).segMem = s.segMem := rfl
@[simp] theorem State.setTrunk_release (s : State) (t : TrunkId) (r : Trunk) : (s.setTrunk t r).release = s.release := rfl
@[simp] theorem State.setTrunk_marks (s : State) (t : TrunkId) (r : Trunk) : (s.setTrunk t r).marks = s.marks := rfl
@[simp] theorem State.setTrunk_grace (s : State) (t : TrunkId) (r : Trunk) : (s.setTrunk t r).grace = s.grace := rfl
@[simp] theorem State.setTrunk_fresh (s : State) (t : TrunkId) (r : Trunk) : (s.setTrunk t r).fresh = s.fresh := rfl
@[simp] theorem State.setTrunk_pending (s : State) (t : TrunkId) (r : Trunk) : (s.setTrunk t r).pending = s.pending := rfl
@[simp] theorem State.port_setTrunk (s : State) (t : TrunkId) (r : Trunk) (p : PortId) :
    (s.setTrunk t r).port p = s.port p := rfl
@[simp] theorem State.cell_setTrunk (s : State) (t : TrunkId) (r : Trunk) (c : CellId) :
    (s.setTrunk t r).cell c = s.cell c := rfl
@[simp] theorem State.configured_setTrunk (s : State) (t : TrunkId) (r : Trunk) (c : CellId) :
    (s.setTrunk t r).configured c = s.configured c := rfl
@[simp] theorem State.station?_setTrunk (s : State) (t : TrunkId) (r : Trunk) (i' : StationIx) :
    (s.setTrunk t r).station? i' = s.station? i' := rfl
@[simp] theorem State.stationAt?_setTrunk (s : State) (t : TrunkId) (r : Trunk) (a : Address) :
    (s.setTrunk t r).stationAt? a = s.stationAt? a := rfl
@[simp] theorem State.ticket?_setTrunk (s : State) (t : TrunkId) (r : Trunk) (k' : Token) :
    (s.setTrunk t r).ticket? k' = s.ticket? k' := rfl
@[simp] theorem State.counts_setTrunk (s : State) (t : TrunkId) (r : Trunk) (c : CellId) (k' : StreamId) :
    (s.setTrunk t r).counts c k' = s.counts c k' := rfl
@[simp] theorem State.stream_setTrunk (s : State) (t : TrunkId) (r : Trunk) (k' : StreamId) :
    (s.setTrunk t r).stream k' = s.stream k' := rfl
@[simp] theorem State.sectorDemand_setTrunk (s : State) (t : TrunkId) (r : Trunk) (k' : StreamId) :
    (s.setTrunk t r).sectorDemand k' = s.sectorDemand k' := rfl
@[simp] theorem State.desc?_setTrunk (s : State) (t : TrunkId) (r : Trunk) (d' : DescIx) :
    (s.setTrunk t r).desc? d' = s.desc? d' := rfl

/-! ### putStation -/

@[simp] theorem State.putStation_now (s : State) (i : StationIx) (r : Station) : (s.putStation i r).now = s.now := rfl
@[simp] theorem State.putStation_held (s : State) (i : StationIx) (r : Station) : (s.putStation i r).held = s.held := rfl
@[simp] theorem State.putStation_ports (s : State) (i : StationIx) (r : Station) : (s.putStation i r).ports = s.ports := rfl
@[simp] theorem State.putStation_timers (s : State) (i : StationIx) (r : Station) : (s.putStation i r).timers = s.timers := rfl
@[simp] theorem State.putStation_trunks (s : State) (i : StationIx) (r : Station) : (s.putStation i r).trunks = s.trunks := rfl
@[simp] theorem State.putStation_pointer (s : State) (i : StationIx) (r : Station) : (s.putStation i r).pointer = s.pointer := rfl
@[simp] theorem State.putStation_cells (s : State) (i : StationIx) (r : Station) : (s.putStation i r).cells = s.cells := rfl
@[simp] theorem State.putStation_load (s : State) (i : StationIx) (r : Station) : (s.putStation i r).load = s.load := rfl
@[simp] theorem State.putStation_tickets (s : State) (i : StationIx) (r : Station) : (s.putStation i r).tickets = s.tickets := rfl
@[simp] theorem State.putStation_fan (s : State) (i : StationIx) (r : Station) : (s.putStation i r).fan = s.fan := rfl
@[simp] theorem State.putStation_demand (s : State) (i : StationIx) (r : Station) : (s.putStation i r).demand = s.demand := rfl
@[simp] theorem State.putStation_streams (s : State) (i : StationIx) (r : Station) : (s.putStation i r).streams = s.streams := rfl
@[simp] theorem State.putStation_descs (s : State) (i : StationIx) (r : Station) : (s.putStation i r).descs = s.descs := rfl
@[simp] theorem State.putStation_used (s : State) (i : StationIx) (r : Station) : (s.putStation i r).used = s.used := rfl
@[simp] theorem State.putStation_segMem (s : State) (i : StationIx) (r : Station) : (s.putStation i r).segMem = s.segMem := rfl
@[simp] theorem State.putStation_release (s : State) (i : StationIx) (r : Station) : (s.putStation i r).release = s.release := rfl
@[simp] theorem State.putStation_marks (s : State) (i : StationIx) (r : Station) : (s.putStation i r).marks = s.marks := rfl
@[simp] theorem State.putStation_grace (s : State) (i : StationIx) (r : Station) : (s.putStation i r).grace = s.grace := rfl
@[simp] theorem State.putStation_fresh (s : State) (i : StationIx) (r : Station) : (s.putStation i r).fresh = s.fresh := rfl
@[simp] theorem State.putStation_pending (s : State) (i : StationIx) (r : Station) : (s.putStation i r).pending = s.pending := rfl
@[simp] theorem State.port_putStation (s : State) (i : StationIx) (r : Station) (p : PortId) :
    (s.putStation i r).port p = s.port p := rfl
@[simp] theorem State.trunk_putStation (s : State) (i : StationIx) (r : Station) (t' : TrunkId) :
    (s.putStation i r).trunk t' = s.trunk t' := rfl
@[simp] theorem State.cell_putStation (s : State) (i : StationIx) (r : Station) (c : CellId) :
    (s.putStation i r).cell c = s.cell c := rfl
@[simp] theorem State.configured_putStation (s : State) (i : StationIx) (r : Station) (c : CellId) :
    (s.putStation i r).configured c = s.configured c := rfl
@[simp] theorem State.ticket?_putStation (s : State) (i : StationIx) (r : Station) (k' : Token) :
    (s.putStation i r).ticket? k' = s.ticket? k' := rfl
@[simp] theorem State.counts_putStation (s : State) (i : StationIx) (r : Station) (c : CellId) (k' : StreamId) :
    (s.putStation i r).counts c k' = s.counts c k' := rfl
@[simp] theorem State.stream_putStation (s : State) (i : StationIx) (r : Station) (k' : StreamId) :
    (s.putStation i r).stream k' = s.stream k' := rfl
@[simp] theorem State.sectorDemand_putStation (s : State) (i : StationIx) (r : Station) (k' : StreamId) :
    (s.putStation i r).sectorDemand k' = s.sectorDemand k' := rfl
@[simp] theorem State.desc?_putStation (s : State) (i : StationIx) (r : Station) (d' : DescIx) :
    (s.putStation i r).desc? d' = s.desc? d' := rfl

/-! ### putTicket -/

@[simp] theorem State.putTicket_now (s : State) (k : Token) (r : Ticket) : (s.putTicket k r).now = s.now := rfl
@[simp] theorem State.putTicket_held (s : State) (k : Token) (r : Ticket) : (s.putTicket k r).held = s.held := rfl
@[simp] theorem State.putTicket_ports (s : State) (k : Token) (r : Ticket) : (s.putTicket k r).ports = s.ports := rfl
@[simp] theorem State.putTicket_timers (s : State) (k : Token) (r : Ticket) : (s.putTicket k r).timers = s.timers := rfl
@[simp] theorem State.putTicket_trunks (s : State) (k : Token) (r : Ticket) : (s.putTicket k r).trunks = s.trunks := rfl
@[simp] theorem State.putTicket_pointer (s : State) (k : Token) (r : Ticket) : (s.putTicket k r).pointer = s.pointer := rfl
@[simp] theorem State.putTicket_cells (s : State) (k : Token) (r : Ticket) : (s.putTicket k r).cells = s.cells := rfl
@[simp] theorem State.putTicket_load (s : State) (k : Token) (r : Ticket) : (s.putTicket k r).load = s.load := rfl
@[simp] theorem State.putTicket_stations (s : State) (k : Token) (r : Ticket) : (s.putTicket k r).stations = s.stations := rfl
@[simp] theorem State.putTicket_fan (s : State) (k : Token) (r : Ticket) : (s.putTicket k r).fan = s.fan := rfl
@[simp] theorem State.putTicket_demand (s : State) (k : Token) (r : Ticket) : (s.putTicket k r).demand = s.demand := rfl
@[simp] theorem State.putTicket_streams (s : State) (k : Token) (r : Ticket) : (s.putTicket k r).streams = s.streams := rfl
@[simp] theorem State.putTicket_descs (s : State) (k : Token) (r : Ticket) : (s.putTicket k r).descs = s.descs := rfl
@[simp] theorem State.putTicket_used (s : State) (k : Token) (r : Ticket) : (s.putTicket k r).used = s.used := rfl
@[simp] theorem State.putTicket_segMem (s : State) (k : Token) (r : Ticket) : (s.putTicket k r).segMem = s.segMem := rfl
@[simp] theorem State.putTicket_release (s : State) (k : Token) (r : Ticket) : (s.putTicket k r).release = s.release := rfl
@[simp] theorem State.putTicket_marks (s : State) (k : Token) (r : Ticket) : (s.putTicket k r).marks = s.marks := rfl
@[simp] theorem State.putTicket_grace (s : State) (k : Token) (r : Ticket) : (s.putTicket k r).grace = s.grace := rfl
@[simp] theorem State.putTicket_fresh (s : State) (k : Token) (r : Ticket) : (s.putTicket k r).fresh = s.fresh := rfl
@[simp] theorem State.putTicket_pending (s : State) (k : Token) (r : Ticket) : (s.putTicket k r).pending = s.pending := rfl
@[simp] theorem State.port_putTicket (s : State) (k : Token) (r : Ticket) (p : PortId) :
    (s.putTicket k r).port p = s.port p := rfl
@[simp] theorem State.trunk_putTicket (s : State) (k : Token) (r : Ticket) (t' : TrunkId) :
    (s.putTicket k r).trunk t' = s.trunk t' := rfl
@[simp] theorem State.cell_putTicket (s : State) (k : Token) (r : Ticket) (c : CellId) :
    (s.putTicket k r).cell c = s.cell c := rfl
@[simp] theorem State.configured_putTicket (s : State) (k : Token) (r : Ticket) (c : CellId) :
    (s.putTicket k r).configured c = s.configured c := rfl
@[simp] theorem State.station?_putTicket (s : State) (k : Token) (r : Ticket) (i' : StationIx) :
    (s.putTicket k r).station? i' = s.station? i' := rfl
@[simp] theorem State.stationAt?_putTicket (s : State) (k : Token) (r : Ticket) (a : Address) :
    (s.putTicket k r).stationAt? a = s.stationAt? a := rfl
@[simp] theorem State.counts_putTicket (s : State) (k : Token) (r : Ticket) (c : CellId) (k' : StreamId) :
    (s.putTicket k r).counts c k' = s.counts c k' := rfl
@[simp] theorem State.stream_putTicket (s : State) (k : Token) (r : Ticket) (k' : StreamId) :
    (s.putTicket k r).stream k' = s.stream k' := rfl
@[simp] theorem State.sectorDemand_putTicket (s : State) (k : Token) (r : Ticket) (k' : StreamId) :
    (s.putTicket k r).sectorDemand k' = s.sectorDemand k' := rfl
@[simp] theorem State.desc?_putTicket (s : State) (k : Token) (r : Ticket) (d' : DescIx) :
    (s.putTicket k r).desc? d' = s.desc? d' := rfl

/-! ### setStream -/

@[simp] theorem State.setStream_now (s : State) (k : StreamId) (r : Stream) : (s.setStream k r).now = s.now := rfl
@[simp] theorem State.setStream_held (s : State) (k : StreamId) (r : Stream) : (s.setStream k r).held = s.held := rfl
@[simp] theorem State.setStream_ports (s : State) (k : StreamId) (r : Stream) : (s.setStream k r).ports = s.ports := rfl
@[simp] theorem State.setStream_timers (s : State) (k : StreamId) (r : Stream) : (s.setStream k r).timers = s.timers := rfl
@[simp] theorem State.setStream_trunks (s : State) (k : StreamId) (r : Stream) : (s.setStream k r).trunks = s.trunks := rfl
@[simp] theorem State.setStream_pointer (s : State) (k : StreamId) (r : Stream) : (s.setStream k r).pointer = s.pointer := rfl
@[simp] theorem State.setStream_cells (s : State) (k : StreamId) (r : Stream) : (s.setStream k r).cells = s.cells := rfl
@[simp] theorem State.setStream_load (s : State) (k : StreamId) (r : Stream) : (s.setStream k r).load = s.load := rfl
@[simp] theorem State.setStream_stations (s : State) (k : StreamId) (r : Stream) : (s.setStream k r).stations = s.stations := rfl
@[simp] theorem State.setStream_tickets (s : State) (k : StreamId) (r : Stream) : (s.setStream k r).tickets = s.tickets := rfl
@[simp] theorem State.setStream_fan (s : State) (k : StreamId) (r : Stream) : (s.setStream k r).fan = s.fan := rfl
@[simp] theorem State.setStream_demand (s : State) (k : StreamId) (r : Stream) : (s.setStream k r).demand = s.demand := rfl
@[simp] theorem State.setStream_descs (s : State) (k : StreamId) (r : Stream) : (s.setStream k r).descs = s.descs := rfl
@[simp] theorem State.setStream_used (s : State) (k : StreamId) (r : Stream) : (s.setStream k r).used = s.used := rfl
@[simp] theorem State.setStream_segMem (s : State) (k : StreamId) (r : Stream) : (s.setStream k r).segMem = s.segMem := rfl
@[simp] theorem State.setStream_release (s : State) (k : StreamId) (r : Stream) : (s.setStream k r).release = s.release := rfl
@[simp] theorem State.setStream_marks (s : State) (k : StreamId) (r : Stream) : (s.setStream k r).marks = s.marks := rfl
@[simp] theorem State.setStream_grace (s : State) (k : StreamId) (r : Stream) : (s.setStream k r).grace = s.grace := rfl
@[simp] theorem State.setStream_fresh (s : State) (k : StreamId) (r : Stream) : (s.setStream k r).fresh = s.fresh := rfl
@[simp] theorem State.setStream_pending (s : State) (k : StreamId) (r : Stream) : (s.setStream k r).pending = s.pending := rfl
@[simp] theorem State.port_setStream (s : State) (k : StreamId) (r : Stream) (p : PortId) :
    (s.setStream k r).port p = s.port p := rfl
@[simp] theorem State.trunk_setStream (s : State) (k : StreamId) (r : Stream) (t' : TrunkId) :
    (s.setStream k r).trunk t' = s.trunk t' := rfl
@[simp] theorem State.cell_setStream (s : State) (k : StreamId) (r : Stream) (c : CellId) :
    (s.setStream k r).cell c = s.cell c := rfl
@[simp] theorem State.configured_setStream (s : State) (k : StreamId) (r : Stream) (c : CellId) :
    (s.setStream k r).configured c = s.configured c := rfl
@[simp] theorem State.station?_setStream (s : State) (k : StreamId) (r : Stream) (i' : StationIx) :
    (s.setStream k r).station? i' = s.station? i' := rfl
@[simp] theorem State.stationAt?_setStream (s : State) (k : StreamId) (r : Stream) (a : Address) :
    (s.setStream k r).stationAt? a = s.stationAt? a := rfl
@[simp] theorem State.ticket?_setStream (s : State) (k : StreamId) (r : Stream) (k' : Token) :
    (s.setStream k r).ticket? k' = s.ticket? k' := rfl
@[simp] theorem State.counts_setStream (s : State) (k : StreamId) (r : Stream) (c : CellId) (k' : StreamId) :
    (s.setStream k r).counts c k' = s.counts c k' := rfl
@[simp] theorem State.sectorDemand_setStream (s : State) (k : StreamId) (r : Stream) (k' : StreamId) :
    (s.setStream k r).sectorDemand k' = s.sectorDemand k' := rfl
@[simp] theorem State.desc?_setStream (s : State) (k : StreamId) (r : Stream) (d' : DescIx) :
    (s.setStream k r).desc? d' = s.desc? d' := rfl

/-! ### setDemand -/

@[simp] theorem State.setDemand_now (s : State) (k : StreamId) (d : Level) : (s.setDemand k d).now = s.now := rfl
@[simp] theorem State.setDemand_held (s : State) (k : StreamId) (d : Level) : (s.setDemand k d).held = s.held := rfl
@[simp] theorem State.setDemand_ports (s : State) (k : StreamId) (d : Level) : (s.setDemand k d).ports = s.ports := rfl
@[simp] theorem State.setDemand_timers (s : State) (k : StreamId) (d : Level) : (s.setDemand k d).timers = s.timers := rfl
@[simp] theorem State.setDemand_trunks (s : State) (k : StreamId) (d : Level) : (s.setDemand k d).trunks = s.trunks := rfl
@[simp] theorem State.setDemand_pointer (s : State) (k : StreamId) (d : Level) : (s.setDemand k d).pointer = s.pointer := rfl
@[simp] theorem State.setDemand_cells (s : State) (k : StreamId) (d : Level) : (s.setDemand k d).cells = s.cells := rfl
@[simp] theorem State.setDemand_load (s : State) (k : StreamId) (d : Level) : (s.setDemand k d).load = s.load := rfl
@[simp] theorem State.setDemand_stations (s : State) (k : StreamId) (d : Level) : (s.setDemand k d).stations = s.stations := rfl
@[simp] theorem State.setDemand_tickets (s : State) (k : StreamId) (d : Level) : (s.setDemand k d).tickets = s.tickets := rfl
@[simp] theorem State.setDemand_fan (s : State) (k : StreamId) (d : Level) : (s.setDemand k d).fan = s.fan := rfl
@[simp] theorem State.setDemand_streams (s : State) (k : StreamId) (d : Level) : (s.setDemand k d).streams = s.streams := rfl
@[simp] theorem State.setDemand_descs (s : State) (k : StreamId) (d : Level) : (s.setDemand k d).descs = s.descs := rfl
@[simp] theorem State.setDemand_used (s : State) (k : StreamId) (d : Level) : (s.setDemand k d).used = s.used := rfl
@[simp] theorem State.setDemand_segMem (s : State) (k : StreamId) (d : Level) : (s.setDemand k d).segMem = s.segMem := rfl
@[simp] theorem State.setDemand_release (s : State) (k : StreamId) (d : Level) : (s.setDemand k d).release = s.release := rfl
@[simp] theorem State.setDemand_marks (s : State) (k : StreamId) (d : Level) : (s.setDemand k d).marks = s.marks := rfl
@[simp] theorem State.setDemand_grace (s : State) (k : StreamId) (d : Level) : (s.setDemand k d).grace = s.grace := rfl
@[simp] theorem State.setDemand_fresh (s : State) (k : StreamId) (d : Level) : (s.setDemand k d).fresh = s.fresh := rfl
@[simp] theorem State.setDemand_pending (s : State) (k : StreamId) (d : Level) : (s.setDemand k d).pending = s.pending := rfl
@[simp] theorem State.port_setDemand (s : State) (k : StreamId) (d : Level) (p : PortId) :
    (s.setDemand k d).port p = s.port p := rfl
@[simp] theorem State.trunk_setDemand (s : State) (k : StreamId) (d : Level) (t' : TrunkId) :
    (s.setDemand k d).trunk t' = s.trunk t' := rfl
@[simp] theorem State.cell_setDemand (s : State) (k : StreamId) (d : Level) (c : CellId) :
    (s.setDemand k d).cell c = s.cell c := rfl
@[simp] theorem State.configured_setDemand (s : State) (k : StreamId) (d : Level) (c : CellId) :
    (s.setDemand k d).configured c = s.configured c := rfl
@[simp] theorem State.station?_setDemand (s : State) (k : StreamId) (d : Level) (i' : StationIx) :
    (s.setDemand k d).station? i' = s.station? i' := rfl
@[simp] theorem State.stationAt?_setDemand (s : State) (k : StreamId) (d : Level) (a : Address) :
    (s.setDemand k d).stationAt? a = s.stationAt? a := rfl
@[simp] theorem State.ticket?_setDemand (s : State) (k : StreamId) (d : Level) (k' : Token) :
    (s.setDemand k d).ticket? k' = s.ticket? k' := rfl
@[simp] theorem State.counts_setDemand (s : State) (k : StreamId) (d : Level) (c : CellId) (k' : StreamId) :
    (s.setDemand k d).counts c k' = s.counts c k' := rfl
@[simp] theorem State.stream_setDemand (s : State) (k : StreamId) (d : Level) (k' : StreamId) :
    (s.setDemand k d).stream k' = s.stream k' := rfl
@[simp] theorem State.desc?_setDemand (s : State) (k : StreamId) (d : Level) (d' : DescIx) :
    (s.setDemand k d).desc? d' = s.desc? d' := rfl

/-! ### putDesc -/

@[simp] theorem State.putDesc_now (s : State) (d : DescIx) (r : Desc) : (s.putDesc d r).now = s.now := rfl
@[simp] theorem State.putDesc_held (s : State) (d : DescIx) (r : Desc) : (s.putDesc d r).held = s.held := rfl
@[simp] theorem State.putDesc_ports (s : State) (d : DescIx) (r : Desc) : (s.putDesc d r).ports = s.ports := rfl
@[simp] theorem State.putDesc_timers (s : State) (d : DescIx) (r : Desc) : (s.putDesc d r).timers = s.timers := rfl
@[simp] theorem State.putDesc_trunks (s : State) (d : DescIx) (r : Desc) : (s.putDesc d r).trunks = s.trunks := rfl
@[simp] theorem State.putDesc_pointer (s : State) (d : DescIx) (r : Desc) : (s.putDesc d r).pointer = s.pointer := rfl
@[simp] theorem State.putDesc_cells (s : State) (d : DescIx) (r : Desc) : (s.putDesc d r).cells = s.cells := rfl
@[simp] theorem State.putDesc_load (s : State) (d : DescIx) (r : Desc) : (s.putDesc d r).load = s.load := rfl
@[simp] theorem State.putDesc_stations (s : State) (d : DescIx) (r : Desc) : (s.putDesc d r).stations = s.stations := rfl
@[simp] theorem State.putDesc_tickets (s : State) (d : DescIx) (r : Desc) : (s.putDesc d r).tickets = s.tickets := rfl
@[simp] theorem State.putDesc_fan (s : State) (d : DescIx) (r : Desc) : (s.putDesc d r).fan = s.fan := rfl
@[simp] theorem State.putDesc_demand (s : State) (d : DescIx) (r : Desc) : (s.putDesc d r).demand = s.demand := rfl
@[simp] theorem State.putDesc_streams (s : State) (d : DescIx) (r : Desc) : (s.putDesc d r).streams = s.streams := rfl
@[simp] theorem State.putDesc_used (s : State) (d : DescIx) (r : Desc) : (s.putDesc d r).used = s.used := rfl
@[simp] theorem State.putDesc_segMem (s : State) (d : DescIx) (r : Desc) : (s.putDesc d r).segMem = s.segMem := rfl
@[simp] theorem State.putDesc_release (s : State) (d : DescIx) (r : Desc) : (s.putDesc d r).release = s.release := rfl
@[simp] theorem State.putDesc_marks (s : State) (d : DescIx) (r : Desc) : (s.putDesc d r).marks = s.marks := rfl
@[simp] theorem State.putDesc_grace (s : State) (d : DescIx) (r : Desc) : (s.putDesc d r).grace = s.grace := rfl
@[simp] theorem State.putDesc_fresh (s : State) (d : DescIx) (r : Desc) : (s.putDesc d r).fresh = s.fresh := rfl
@[simp] theorem State.putDesc_pending (s : State) (d : DescIx) (r : Desc) : (s.putDesc d r).pending = s.pending := rfl
@[simp] theorem State.port_putDesc (s : State) (d : DescIx) (r : Desc) (p : PortId) :
    (s.putDesc d r).port p = s.port p := rfl
@[simp] theorem State.trunk_putDesc (s : State) (d : DescIx) (r : Desc) (t' : TrunkId) :
    (s.putDesc d r).trunk t' = s.trunk t' := rfl
@[simp] theorem State.cell_putDesc (s : State) (d : DescIx) (r : Desc) (c : CellId) :
    (s.putDesc d r).cell c = s.cell c := rfl
@[simp] theorem State.configured_putDesc (s : State) (d : DescIx) (r : Desc) (c : CellId) :
    (s.putDesc d r).configured c = s.configured c := rfl
@[simp] theorem State.station?_putDesc (s : State) (d : DescIx) (r : Desc) (i' : StationIx) :
    (s.putDesc d r).station? i' = s.station? i' := rfl
@[simp] theorem State.stationAt?_putDesc (s : State) (d : DescIx) (r : Desc) (a : Address) :
    (s.putDesc d r).stationAt? a = s.stationAt? a := rfl
@[simp] theorem State.ticket?_putDesc (s : State) (d : DescIx) (r : Desc) (k' : Token) :
    (s.putDesc d r).ticket? k' = s.ticket? k' := rfl
@[simp] theorem State.counts_putDesc (s : State) (d : DescIx) (r : Desc) (c : CellId) (k' : StreamId) :
    (s.putDesc d r).counts c k' = s.counts c k' := rfl
@[simp] theorem State.stream_putDesc (s : State) (d : DescIx) (r : Desc) (k' : StreamId) :
    (s.putDesc d r).stream k' = s.stream k' := rfl
@[simp] theorem State.sectorDemand_putDesc (s : State) (d : DescIx) (r : Desc) (k' : StreamId) :
    (s.putDesc d r).sectorDemand k' = s.sectorDemand k' := rfl

/-! ### Reads of the written record -/

/-- A written trunk reads as written; the others are unchanged. -/
@[simp] theorem State.trunk_setTrunk (s : State) (t : TrunkId) (r : Trunk) (t' : TrunkId) :
    (s.setTrunk t r).trunk t' = if t' = t then r else s.trunk t' := by
  simp only [State.trunk, State.setTrunk, Vector.getElem_set, eq_comm (a := t.val), Fin.val_inj]

/-- The last write of a trunk counts. -/
@[simp] theorem State.setTrunk_setTrunk (s : State) (t : TrunkId) (r r' : Trunk) :
    (s.setTrunk t r).setTrunk t r' = s.setTrunk t r' := by simp [State.setTrunk]

/-- Writing a trunk as it stands changes nothing. -/
@[simp] theorem State.setTrunk_trunk (s : State) (t : TrunkId) : s.setTrunk t (s.trunk t) = s := by
  simp [State.setTrunk, State.trunk]

/-- A written stream reads as written; the others are unchanged. -/
@[simp] theorem State.stream_setStream (s : State) (k : StreamId) (r : Stream) (k' : StreamId) :
    (s.setStream k r).stream k' = if k' = k then r else s.stream k' := by
  simp only [State.stream, State.setStream, Vector.getElem_set, eq_comm (a := k.val), Fin.val_inj]

/-- The last write of a stream counts. -/
@[simp] theorem State.setStream_setStream (s : State) (k : StreamId) (r r' : Stream) :
    (s.setStream k r).setStream k r' = s.setStream k r' := by simp [State.setStream]

/-- A written sector demand reads as written; the others are unchanged. -/
@[simp] theorem State.sectorDemand_setDemand (s : State) (k : StreamId) (d : Level) (k' : StreamId) :
    (s.setDemand k d).sectorDemand k' = if k' = k then d else s.sectorDemand k' := by
  simp only [State.sectorDemand, State.setDemand, Vector.getElem_set, eq_comm (a := k.val), Fin.val_inj]

end Sys2Proof.Machine
end

