-- ==== Sys2Proof/Laws/Tables.lean ====
section
/-! SUPPORT. The laws of sparse tables: what a put and a delete read as, and that both keep the
canonical form. -/
namespace Sys2Proof.Machine

section
variable {α : Type}

/-! ### Reads after writes -/

/-- The key put reads as put; every other key is unchanged. -/
theorem assocGet_put (l : List (Nat × α)) (i : Nat) (v : α) (j : Nat) :
    assocGet (assocPut l i v) j = if j = i then some v else assocGet l j := by
  induction l with
  | nil => simp only [assocPut, assocGet, eq_comm (a := i)]
  | cons e l ih =>
    obtain ⟨k, w⟩ := e
    simp only [assocPut]
    split
    · simp only [assocGet, eq_comm (a := i)]
    · by_cases h : i = k
      · subst h
        by_cases hj : j = i
        · simp [assocGet, hj]
        · simp [assocGet, hj, Ne.symm hj]
      · simp only [if_neg h, assocGet, ih]
        by_cases hj : k = j
        · subst hj; simp [Ne.symm h]
        · simp [hj]

/-- Two puts at one key: the last counts. -/
theorem assocPut_put (l : List (Nat × α)) (i : Nat) (v w : α) :
    assocPut (assocPut l i v) i w = assocPut l i w := by
  induction l with
  | nil => simp [assocPut]
  | cons e l ih =>
    obtain ⟨k, x⟩ := e
    simp only [assocPut]
    split
    · simp [assocPut]
    · split
      · simp [assocPut]
      · simp [assocPut, *]

/-- A rising list lists nothing below its bound. -/
theorem assocGet_below (l : List (Nat × α)) (b i : Nat) (h : risingFrom (some b) l = true) (hi : i ≤ b) :
    assocGet l i = none := by
  induction l generalizing b with
  | nil => rfl
  | cons e l ih =>
    obtain ⟨k, x⟩ := e
    simp only [risingFrom, Bool.and_eq_true, decide_eq_true_eq] at h
    simp only [assocGet]
    rw [if_neg (by omega)]
    exact ih k h.2 (by omega)

/-- A rising list rises from its first key on. -/
theorem risingFrom_none_cons (k : Nat) (x : α) (l : List (Nat × α)) :
    risingFrom none ((k, x) :: l) = risingFrom (some k) l := rfl

/-- A bound may be lowered. -/
theorem risingFrom_mono (l : List (Nat × α)) (b c : Nat) (h : risingFrom (some b) l = true) (hc : c ≤ b) :
    risingFrom (some c) l = true := by
  cases l with
  | nil => rfl
  | cons e l =>
    simp only [risingFrom, Bool.and_eq_true, decide_eq_true_eq] at h ⊢
    exact ⟨by omega, h.2⟩

/-- A bound may be dropped. -/
theorem risingFrom_none (l : List (Nat × α)) (b : Nat) (h : risingFrom (some b) l = true) :
    risingFrom none l = true := by
  cases l with
  | nil => rfl
  | cons e l =>
    simp only [risingFrom, Bool.and_eq_true] at h
    exact h.2

/-- Under the canonical form the key deleted reads as absent; every other key is unchanged. -/
theorem assocGet_del (l : List (Nat × α)) (i j : Nat) (h : risingFrom none l = true) :
    assocGet (assocDel l i) j = if j = i then none else assocGet l j := by
  induction l with
  | nil => simp [assocDel, assocGet]
  | cons e l ih =>
    obtain ⟨k, x⟩ := e
    rw [risingFrom_none_cons] at h
    simp only [assocDel]
    by_cases hki : k = i
    · subst hki
      by_cases hj : j = k
      · subst hj; simp [assocGet_below l j j h (Nat.le_refl j)]
      · simp [assocGet, hj, Ne.symm hj]
    · simp only [if_neg hki, assocGet, ih (risingFrom_none l k h)]
      by_cases hk : k = j
      · subst hk; simp [hki]
      · simp [hk]

/-! ### The canonical form -/

/-- A put above the bound keeps rising keys. -/
theorem risingFrom_put_some (l : List (Nat × α)) (b i : Nat) (v : α) (h : risingFrom (some b) l = true)
    (hi : b < i) : risingFrom (some b) (assocPut l i v) = true := by
  induction l generalizing b with
  | nil => simp [assocPut, risingFrom, hi]
  | cons e l ih =>
    obtain ⟨k, x⟩ := e
    simp only [risingFrom, Bool.and_eq_true, decide_eq_true_eq] at h
    simp only [assocPut]
    split
    · simp only [risingFrom, Bool.and_eq_true, decide_eq_true_eq]; exact ⟨hi, by assumption, h.2⟩
    · split
      · subst_vars; simp only [risingFrom, Bool.and_eq_true, decide_eq_true_eq]; exact h
      · simp only [risingFrom, Bool.and_eq_true, decide_eq_true_eq]
        exact ⟨h.1, ih k h.2 (by omega)⟩

/-- A put keeps rising keys. -/
theorem risingFrom_put (l : List (Nat × α)) (i : Nat) (v : α) (h : risingFrom none l = true) :
    risingFrom none (assocPut l i v) = true := by
  cases l with
  | nil => rfl
  | cons e l =>
    obtain ⟨k, x⟩ := e
    rw [risingFrom_none_cons] at h
    simp only [assocPut]
    split
    · simp only [risingFrom, Bool.and_eq_true, decide_eq_true_eq]; exact ⟨by assumption, h⟩
    · split
      · subst_vars; exact h
      · exact risingFrom_put_some l k i v h (by omega)

/-- A delete keeps rising keys above the bound. -/
theorem risingFrom_del_some (l : List (Nat × α)) (b i : Nat) (h : risingFrom (some b) l = true) :
    risingFrom (some b) (assocDel l i) = true := by
  induction l generalizing b with
  | nil => rfl
  | cons e l ih =>
    obtain ⟨k, x⟩ := e
    simp only [risingFrom, Bool.and_eq_true, decide_eq_true_eq] at h
    simp only [assocDel]
    split
    · exact risingFrom_mono l k b h.2 (by omega)
    · simp only [risingFrom, Bool.and_eq_true, decide_eq_true_eq]; exact ⟨h.1, ih k h.2⟩

/-- A delete keeps rising keys. -/
theorem risingFrom_del (l : List (Nat × α)) (i : Nat) (h : risingFrom none l = true) :
    risingFrom none (assocDel l i) = true := by
  cases l with
  | nil => rfl
  | cons e l =>
    obtain ⟨k, x⟩ := e
    rw [risingFrom_none_cons] at h
    simp only [assocDel]
    split
    · exact risingFrom_none l k h
    · exact risingFrom_del_some l k i h

/-! ### Tables -/

/-- A record put reads as put; every other record is unchanged. -/
@[simp] theorem Table.get?_put (t : Table α) (i : Nat) (v : α) (j : Nat) :
    (t.put i v).get? j = if j = i then some v else t.get? j := assocGet_put t.entries i v j

/-- Two puts at one key: the last counts. -/
@[simp] theorem Table.put_put (t : Table α) (i : Nat) (v w : α) : (t.put i v).put i w = t.put i w :=
  congrArg Table.mk (assocPut_put t.entries i v w)

/-- A deleted record is absent; every other record is unchanged. -/
theorem Table.get?_del (t : Table α) (i j : Nat) (h : t.wf = true) :
    (t.del i).get? j = if j = i then none else t.get? j := assocGet_del t.entries i j h

/-- A put keeps the canonical form. -/
theorem Table.wf_put (t : Table α) (i : Nat) (v : α) (h : t.wf = true) : (t.put i v).wf = true :=
  risingFrom_put t.entries i v h

/-- A delete keeps the canonical form. -/
theorem Table.wf_del (t : Table α) (i : Nat) (h : t.wf = true) : (t.del i).wf = true :=
  risingFrom_del t.entries i h

/-- The empty table is canonical and lists nothing. -/
@[simp] theorem Table.wf_empty : (Table.empty : Table α).wf = true := rfl
@[simp] theorem Table.get?_empty (i : Nat) : (Table.empty : Table α).get? i = none := rfl

end

/-! ### The state's tables -/

@[simp] theorem State.station?_putStation (s : State) (i : StationIx) (r : Station) (j : StationIx) :
    (s.putStation i r).station? j = if j = i then some r else s.station? j :=
  Table.get?_put s.stations i r j

@[simp] theorem State.putStation_putStation (s : State) (i : StationIx) (r r' : Station) :
    (s.putStation i r).putStation i r' = s.putStation i r' := by simp [State.putStation]

@[simp] theorem State.ticket?_putTicket (s : State) (k : Token) (r : Ticket) (k' : Token) :
    (s.putTicket k r).ticket? k' = if k' = k then some r else s.ticket? k' := by
  simp only [State.ticket?, State.putTicket, Table.get?_put, BitVec.toNat_inj]

@[simp] theorem State.desc?_putDesc (s : State) (d : DescIx) (r : Desc) (e : DescIx) :
    (s.putDesc d r).desc? e = if e = d then some r else s.desc? e := Table.get?_put s.descs d r e

end Sys2Proof.Machine
end

