-- ==== Sys2Proof/Laws/Cells.lean ====
section
/-! SUPPORT. What the removal of a cell does: to the records, to the reports already placed and to a poll
already issued (R59). -/
namespace Sys2Proof.Machine

@[simp] theorem Report.without_cell (c : CellId) (r : Report) : (r.without c).cell = r.cell := by
  unfold Report.without; split <;> rfl

@[simp] theorem Report.without_body (c : CellId) (r : Report) : (r.without c).body = r.body := by
  unfold Report.without; split <;> rfl

/-- A report is an orphan after a removal when it was one or its cell is the one removed. -/
@[simp] theorem Report.without_orphan (c : CellId) (r : Report) :
    (r.without c).orphan = (r.orphan || r.cell == c) := by
  unfold Report.without; split <;> simp_all

@[simp] theorem Poll.without_position (pos : Nat) (q : Poll) : (q.without pos).position = q.position := by
  unfold Poll.without; split <;> rfl

/-- A poll is an orphan after a removal when it was one or its position is that of the cell removed. -/
@[simp] theorem Poll.without_orphan (pos : Nat) (q : Poll) :
    (q.without pos).orphan = (q.orphan || q.position == pos) := by
  unfold Poll.without; split <;> simp_all

/-- A removal touches the cells and the trunk of the cell alone. -/
theorem State.removeCell_frame (s : State) (c : CellId) :
    s.removeCell c = { s with cells := s.cells.del c, trunks := (s.removeCell c).trunks } := rfl

theorem State.removeCell_trunk_other (s : State) (c : CellId) {t : TrunkId} (h : t ≠ trunkOf c) :
    (s.removeCell c).trunk t = s.trunk t := by simp [State.removeCell, h]; rfl

/-- The trunk of a removed cell keeps every report and the poll, with the cell's own marked. -/
theorem State.removeCell_trunk (s : State) (c : CellId) :
    (s.removeCell c).trunk (trunkOf c) = { s.trunk (trunkOf c) with
      urgent := (s.trunk (trunkOf c)).urgent.filter (· ≠ positionOf c)
      intake := (s.trunk (trunkOf c)).intake.map (Report.without c)
      polled := (s.trunk (trunkOf c)).polled.map (Poll.without (positionOf c)) } := by
  simp [State.removeCell]

end Sys2Proof.Machine
end

