-- ==== Sys2Proof/Laws/Lists.lean ====
section
/-! SUPPORT. The choices the part makes among numbers and cells: the lowest free index, the lowest free
blocks, a block set, the cell with the lowest score. -/
namespace Sys2Proof.Machine

/-! ### The lowest free number -/

/-- The lowest free number is not below where the search starts. -/
theorem firstFree_ge (l : List Nat) (k : Nat) : k ≤ firstFree k l := by
  induction l generalizing k with
  | nil => exact Nat.le_refl k
  | cons u us ih =>
    simp only [firstFree]
    split
    · exact Nat.le_trans (Nat.le_succ k) (ih (k + 1))
    · exact Nat.le_refl k

/-- Every number below the lowest free one is in the list. -/
theorem mem_of_lt_firstFree (l : List Nat) (k j : Nat) (hk : k ≤ j) (hj : j < firstFree k l) : j ∈ l := by
  induction l generalizing k with
  | nil => simp only [firstFree] at hj; omega
  | cons u us ih =>
    simp only [firstFree] at hj
    split at hj
    · rcases Nat.eq_or_lt_of_le hk with h | h
      · subst h; simp [*]
      · exact List.mem_cons_of_mem u (ih (k + 1) h hj)
    · omega

/-- The lowest free number of a rising list from a number on that the list does not undercut. -/
theorem firstFree_not_mem (l : List Nat) (k : Nat) (h : l.Pairwise (· < ·)) (hk : ∀ u ∈ l, k ≤ u) :
    firstFree k l ∉ l := by
  induction l generalizing k with
  | nil => simp
  | cons u us ih =>
    rw [List.pairwise_cons] at h
    simp only [firstFree]
    split
    · rename_i huk
      have hge := firstFree_ge us (k + 1)
      have hno := ih (k + 1) h.2 (fun x hx => huk ▸ h.1 x hx)
      simp only [List.mem_cons, not_or]
      exact ⟨by omega, hno⟩
    · have hu := hk u (List.mem_cons_self ..)
      simp only [List.mem_cons, not_or]
      refine ⟨by omega, fun hm => ?_⟩
      have := h.1 k hm
      omega

/-! ### A set of numbers as a rising list -/

/-- A number put in its place joins the set. -/
theorem mem_insertRising (l : List Nat) (i j : Nat) : j ∈ insertRising l i ↔ j = i ∨ j ∈ l := by
  induction l with
  | nil => simp [insertRising]
  | cons k l ih =>
    simp only [insertRising]
    split
    · simp
    · split
      · subst_vars; simp
      · simp only [List.mem_cons, ih]
        constructor <;> (intro h; rcases h with h | h | h <;> simp [h])

/-- A number put in its place keeps the list rising. -/
theorem pairwise_insertRising (l : List Nat) (i : Nat) (h : l.Pairwise (· < ·)) :
    (insertRising l i).Pairwise (· < ·) := by
  induction l with
  | nil => simp [insertRising]
  | cons k l ih =>
    have hkl := List.pairwise_cons.mp h
    simp only [insertRising]
    split
    · refine List.pairwise_cons.mpr ⟨fun x hx => ?_, h⟩
      rcases List.mem_cons.mp hx with rfl | hx
      · assumption
      · have := hkl.1 x hx; omega
    · split
      · exact h
      · refine List.pairwise_cons.mpr ⟨fun x hx => ?_, ih hkl.2⟩
        rcases (mem_insertRising l i x).mp hx with rfl | hx
        · omega
        · exact hkl.1 x hx

/-! ### The cell with the lowest score -/

/-- No cell is chosen only among no cells. -/
theorem State.best_eq_none (s : State) (cs : List CellId) : s.best cs = none ↔ cs = [] := by
  cases cs with
  | nil => simp [State.best]
  | cons c cs =>
    simp only [State.best]
    cases s.best cs with
    | none => simp
    | some d => dsimp only; split <;> simp

/-- The cell chosen is one of the cells, and none of them stands before it. -/
theorem State.best_spec (s : State) (cs : List CellId) (a : CellId) (h : s.best cs = some a) :
    a ∈ cs ∧ ∀ b ∈ cs, (s.cell a).score < (s.cell b).score
      ∨ ((s.cell a).score = (s.cell b).score ∧ a ≤ b) := by
  induction cs generalizing a with
  | nil => simp [State.best] at h
  | cons c cs ih =>
    simp only [State.best] at h
    cases hb : s.best cs with
    | none =>
      have hcs := (State.best_eq_none s cs).mp hb
      subst hcs
      simp only [hb, Option.some.injEq] at h
      subst h
      exact ⟨List.mem_cons_self .., by simp⟩
    | some d =>
      obtain ⟨hd, hmin⟩ := ih d hb
      have nat : ∀ x y z u v w : Nat, (x < y ∨ (x = y ∧ u ≤ v)) → (y < z ∨ (y = z ∧ v ≤ w)) →
          (x < z ∨ (x = z ∧ u ≤ w)) := by intros; omega
      simp only [hb, State.better, decide_eq_true_eq] at h
      split at h
      · cases h
        refine ⟨List.mem_cons_of_mem c hd, fun b hbm => ?_⟩
        rcases List.mem_cons.mp hbm with rfl | hbm
        · rename_i hlt; rcases hlt with hlt | ⟨he, hlt⟩
          · exact .inl hlt
          · exact .inr ⟨he, Nat.le_of_lt hlt⟩
        · exact hmin b hbm
      · rename_i hn
        cases h
        refine ⟨List.mem_cons_self .., fun b hbm => ?_⟩
        rcases List.mem_cons.mp hbm with rfl | hbm
        · exact .inr ⟨rfl, Nat.le_refl _⟩
        · refine nat _ (s.cell d).score _ _ d _ ?_ (hmin b hbm)
          have nat2 : ∀ x y u v : Nat, ¬ (y < x ∨ (y = x ∧ v < u)) → (x < y ∨ (x = y ∧ u ≤ v)) := by
            intros; omega
          exact nat2 _ _ _ _ hn

end Sys2Proof.Machine
end

