-- ==== Sys2Proof/Laws/Memory.lean ====
section
/-! SUPPORT. Segment memory: every operation keeps its canonical form, and a byte reads as last
written. -/
namespace Sys2Proof.Machine

/-! ### The canonical form -/

/-- Every entry of a list holds a byte that is not what an unlisted address reads as. -/
def Memory.listed (m : List Host.Cell) : Bool := m.all fun c => decide (c.2 ≠ unwrittenByte)

/-- The canonical form is rising addresses and no entry that could be left out. -/
theorem Memory.wf_iff (m : List Host.Cell) :
    Memory.wf m = true ↔ risingFrom none m = true ∧ Memory.listed m = true := by
  simp [Memory.wf, Memory.listed]

/-- A put of a byte that must be listed keeps `listed`. -/
theorem Memory.listed_put (m : List Host.Cell) (a : Nat) (b : Byte) (h : Memory.listed m = true)
    (hb : b ≠ unwrittenByte) : Memory.listed (assocPut m a b) = true := by
  induction m with
  | nil => simp [assocPut, Memory.listed, hb]
  | cons e m ih =>
    obtain ⟨k, x⟩ := e
    simp only [Memory.listed, List.all_cons, Bool.and_eq_true, decide_eq_true_eq] at h
    simp only [assocPut]
    split
    · simp only [Memory.listed, List.all_cons, Bool.and_eq_true, decide_eq_true_eq]; exact ⟨hb, h⟩
    · split
      · simp only [Memory.listed, List.all_cons, Bool.and_eq_true, decide_eq_true_eq]; exact ⟨hb, h.2⟩
      · have := ih h.2
        simp only [Memory.listed, List.all_cons, Bool.and_eq_true, decide_eq_true_eq] at this ⊢
        exact ⟨h.1, this⟩

/-- A delete keeps `listed`. -/
theorem Memory.listed_del (m : List Host.Cell) (a : Nat) (h : Memory.listed m = true) :
    Memory.listed (assocDel m a) = true := by
  induction m with
  | nil => rfl
  | cons e m ih =>
    obtain ⟨k, x⟩ := e
    simp only [Memory.listed, List.all_cons, Bool.and_eq_true, decide_eq_true_eq] at h
    simp only [assocDel]
    split
    · exact h.2
    · have := ih h.2
      simp only [Memory.listed, List.all_cons, Bool.and_eq_true, decide_eq_true_eq] at this ⊢
      exact ⟨h.1, this⟩

/-- A write of one byte keeps the canonical form. -/
theorem Memory.wf_write (m : List Host.Cell) (a : Nat) (b : Byte) (h : Memory.wf m = true) :
    Memory.wf (Memory.write m a b) = true := by
  rw [Memory.wf_iff] at h ⊢
  simp only [Memory.write]
  split
  · exact ⟨risingFrom_del m a h.1, Memory.listed_del m a h.2⟩
  · exact ⟨risingFrom_put m a b h.1, Memory.listed_put m a b h.2 (by assumption)⟩

/-- A write of several bytes keeps the canonical form. -/
theorem Memory.wf_writeAll (bs : List Byte) (m : List Host.Cell) (a : Nat) (h : Memory.wf m = true) :
    Memory.wf (Memory.writeAll m a bs) = true := by
  induction bs generalizing m a with
  | nil => exact h
  | cons b bs ih => exact ih (Memory.write m a b) (a + 1) (Memory.wf_write m a b h)

/-- Memory after device reset is in the canonical form. -/
theorem Memory.wf_reset : Memory.wf State.reset.segMem = true := rfl

/-! ### Reads after writes -/

/-- The address written reads as written; every other address reads as before. -/
theorem Memory.read_write (m : List Host.Cell) (a : Nat) (b : Byte) (x : Nat) (h : Memory.wf m = true) :
    Memory.read (Memory.write m a b) x = if x = a then b else Memory.read m x := by
  rw [Memory.wf_iff] at h
  simp only [Memory.read, Memory.write]
  by_cases hb : b = unwrittenByte
  · rw [if_pos hb, assocGet_del m a x h.1]
    split <;> simp [*]
  · rw [if_neg hb, assocGet_put]
    split <;> rfl

/-- After a write of several bytes each address in their range reads as its byte, every other as
before. -/
theorem Memory.read_writeAll (bs : List Byte) (m : List Host.Cell) (a x : Nat)
    (h : Memory.wf m = true) : Memory.read (Memory.writeAll m a bs) x =
      if a ≤ x ∧ x < a + bs.length then bs.getD (x - a) 0 else Memory.read m x := by
  induction bs generalizing m a with
  | nil => rw [if_neg (by simp only [List.length_nil]; omega)]; rfl
  | cons b bs ih =>
    simp only [Memory.writeAll, ih _ _ (Memory.wf_write m a b h), Memory.read_write m a b x h,
      List.length_cons]
    by_cases hx : x = a
    · subst hx; rw [if_neg (by omega)]; simp
    · by_cases hr : a + 1 ≤ x ∧ x < a + 1 + bs.length
      · obtain ⟨n, rfl⟩ : ∃ n, x = a + 1 + n := ⟨x - (a + 1), by omega⟩
        rw [if_pos hr, if_pos (by omega), show a + 1 + n - (a + 1) = n by omega,
          show a + 1 + n - a = n + 1 by omega]
        simp
      · rw [if_neg hr, if_neg hx, if_neg (by omega)]

/-- `n` bytes read are `n` bytes. -/
@[simp] theorem Memory.length_readAll (m : List Host.Cell) (a n : Nat) :
    (Memory.readAll m a n).length = n := by
  induction n generalizing a with
  | zero => rfl
  | succ n ih => simp [Memory.readAll, ih]

end Sys2Proof.Machine
end

