-- ==== Sys2Proof/Laws/Ops.lean ====
section
/-! SUPPORT. What each shared operation of the tables and trunks can do, said once: the fields it may
change (its frame) and what it writes there. -/
namespace Sys2Proof.Machine

/-! ### Running a step -/

/-- A part that is not held in reset takes the command. -/
theorem State.live_released (s : State) (h : s.held = false) (f : State → State) :
    s.live f = .next (f s) := by simp [State.live, h]

/-- A part held in reset does nothing. -/
theorem State.live_held (s : State) (h : s.held = true) (f : State → State) : s.live f = .next s := by
  simp [State.live, h]

/-- What each action of a list keeps, the whole list keeps. -/
theorem State.each_keeps {α : Type} (P : State → Prop) (f : State → α → State) (xs : List α) (s : State)
    (h : ∀ s x, x ∈ xs → P s → P (f s x)) (hs : P s) : P (s.each xs f) := by
  induction xs generalizing s with
  | nil => exact hs
  | cons x xs ih =>
    exact ih (f s x) (fun s y hy => h s y (List.mem_cons_of_mem x hy)) (h s x (List.mem_cons_self ..) hs)

/-- An action on no element. -/
@[simp] theorem State.each_nil {α : Type} (f : State → α → State) (s : State) : s.each [] f = s := rfl

/-- An action on a first element and the rest. -/
@[simp] theorem State.each_cons {α : Type} (f : State → α → State) (x : α) (xs : List α) (s : State) :
    s.each (x :: xs) f = (f s x).each xs f := rfl

/-! ### Notices -/

/-- A notice changes its port alone. -/
theorem State.notify_frame (s : State) (p : PortId) (n : Notice) :
    s.notify p n = { s with ports := (s.notify p n).ports } := by
  unfold State.notify
  dsimp only
  split <;> exact State.setPort_frame ..

/-- A notice changes the queue, the overflow flag and the order of readiness of its port. -/
theorem State.port_notify (s : State) (p : PortId) (n : Notice) (p' : PortId) :
    (s.notify p n).port p' = if p' = p then
      (if (s.port p).notices.length < noticeCapacity then
        { s.port p with notices := (s.port p).notices ++ [⟨s.now, n, (s.port p).ready⟩]
                        ready := (s.port p).ready + 1 }
       else { s.port p with overflow := true })
    else s.port p' := by
  simp only [State.notify]
  split <;> simp

/-! ### Error flags -/

/-- A flag that is set stays as it is when set again. -/
theorem ErrorFlags.set_of_get (f : ErrorFlags) (e : ErrorFlag) (h : f.get e = true) : f.set e = f := by
  cases f; cases e <;> simp_all [ErrorFlags.get, ErrorFlags.set]

/-- Raising a flag changes trunk records and ports alone. -/
theorem State.raiseFlag_frame (s : State) (t : TrunkId) (f : ErrorFlag) :
    s.raiseFlag t f = { s with trunks := (s.raiseFlag t f).trunks, ports := (s.raiseFlag t f).ports } := by
  simp only [State.raiseFlag]
  split
  · rfl
  · rw [State.notify_frame]; rfl

/-- Raising a flag sets it in its trunk's record and leaves the rest. -/
theorem State.trunk_raiseFlag (s : State) (t : TrunkId) (f : ErrorFlag) (t' : TrunkId) :
    (s.raiseFlag t f).trunk t' =
      if t' = t then { s.trunk t with flags := (s.trunk t).flags.set f } else s.trunk t' := by
  simp only [State.raiseFlag]
  split
  · rename_i h
    split
    · subst_vars; rw [ErrorFlags.set_of_get _ _ h]
    · rfl
  · rw [State.notify_frame]
    exact State.trunk_setTrunk s t _ t'

/-! ### Control messages -/

/-- A control message changes trunk records and ports alone. -/
theorem State.append_frame (s : State) (t : TrunkId) (m : Ctl) :
    s.append t m = { s with trunks := (s.append t m).trunks, ports := (s.append t m).ports } := by
  simp only [State.append]
  split
  · split
    · rfl
    · exact State.raiseFlag_frame ..
  · rfl

/-- A control message changes the control queue and the flags of its trunk alone. -/
theorem State.trunk_append (s : State) (t : TrunkId) (m : Ctl) (t' : TrunkId) :
    (s.append t m).trunk t' = { s.trunk t' with
      control := ((s.append t m).trunk t').control, flags := ((s.append t m).trunk t').flags } := by
  simp only [State.append]
  split
  · split
    · rw [State.trunk_setTrunk]; split
      · subst_vars; rfl
      · rfl
    · rw [State.trunk_raiseFlag]; split
      · subst_vars; rfl
      · rfl
  · rfl

/-- A message for a cell, as a change of trunk records and ports. -/
theorem State.tell_frame (s : State) (c : CellId) (b : CtlBody) :
    s.tell c b = { s with trunks := (s.tell c b).trunks, ports := (s.tell c b).ports } :=
  State.append_frame ..

/-! ### Cells -/

/-- A change of a cell's record changes the Cell Table alone. -/
theorem State.modCell_frame (s : State) (c : CellId) (f : Cell → Cell) :
    s.modCell c f = { s with cells := (s.modCell c f).cells } := by
  simp only [State.modCell]; split <;> rfl

/-- A change of a cell's record is read back where the cell is configured. -/
theorem State.cells_modCell (s : State) (c : CellId) (f : Cell → Cell) (c' : CellId) :
    (s.modCell c f).cells.get? c' =
      if c' = c then (s.cells.get? c).map f else s.cells.get? c' := by
  simp only [State.modCell]
  split
  · rename_i r h; simp [h]
  · rename_i h; split
    · subst_vars; simp [h]
    · rfl

/-- The idle timer's update changes trunk records alone. -/
theorem State.idleUpdate_frame (s : State) (t : TrunkId) :
    s.idleUpdate t = { s with trunks := (s.idleUpdate t).trunks } := by
  simp only [State.idleUpdate]
  split
  · split <;> rfl
  · rfl

/-- The idle timer's update changes the idle stamp of its trunk alone. -/
theorem State.trunk_idleUpdate (s : State) (t t' : TrunkId) :
    (s.idleUpdate t).trunk t' = if t' = t then
      { s.trunk t with idle :=
          if s.idleHolds t then some ((s.trunk t).idle.getD s.now) else none }
    else s.trunk t' := by
  simp only [State.idleUpdate]
  split
  · split
    · rename_i h; split
      · subst_vars
        generalize s.trunk t' = q at *
        cases q
        simp_all
      · rfl
    · rename_i h; rw [State.trunk_setTrunk]; simp [h]
  · rw [State.trunk_setTrunk]

/-- A change of a cell's counts changes the Cell Table and trunk records alone. -/
theorem State.countCell_frame (s : State) (c : CellId) (f : Cell → Cell) :
    s.countCell c f
      = { s with cells := (s.countCell c f).cells, trunks := (s.countCell c f).trunks } := by
  unfold State.countCell
  rw [State.idleUpdate_frame, State.modCell_frame]

/-! ### Fan-out -/

/-- A cell and a stream are told from their key. -/
theorem fanKey_inj (c c' : CellId) (k k' : StreamId) : fanKey c k = fanKey c' k' ↔ c = c' ∧ k = k' := by
  have key : ∀ a b x y : Nat, x < 16 → y < 16 → (16 * a + x = 16 * b + y ↔ a = b ∧ x = y) := by
    intros; omega
  rw [Fin.ext_iff]
  exact key c c' k.val k'.val k.isLt k'.isLt

/-- Written counts change the fan-out table alone. -/
theorem State.setCounts_frame (s : State) (c : CellId) (k : StreamId) (n : Counts) :
    s.setCounts c k n = { s with fan := (s.setCounts c k n).fan } := by
  simp only [State.setCounts]; split <;> rfl

/-- Under the canonical form written counts read as written, and no other count moves. -/
theorem State.counts_setCounts (s : State) (c : CellId) (k : StreamId) (n : Counts) (c' : CellId)
    (k' : StreamId) (h : s.fan.wf = true) :
    (s.setCounts c k n).counts c' k' = if c' = c ∧ k' = k then n else s.counts c' k' := by
  simp only [State.setCounts]
  split
  · rename_i hn
    simp only [State.counts, Table.get?_del _ _ _ h, fanKey_inj]
    split
    · cases n; simp_all
    · rfl
  · simp only [State.counts, Table.get?_put, fanKey_inj]
    split <;> rfl

/-- Written counts keep the canonical form. -/
theorem State.wf_setCounts (s : State) (c : CellId) (k : StreamId) (n : Counts) (h : s.fan.wf = true) :
    (s.setCounts c k n).fan.wf = true := by
  simp only [State.setCounts]
  split
  · exact Table.wf_del _ _ h
  · exact Table.wf_put _ _ _ h

/-- A recompute changes ports and stored demand alone. -/
theorem State.recompute_frame (s : State) (k : StreamId) :
    s.recompute k = { s with ports := (s.recompute k).ports, demand := (s.recompute k).demand } := by
  simp only [State.recompute]
  split
  · rfl
  · rw [State.notify_frame]; rfl

/-- A recompute stores the highest trunk demand of its stream and no other. -/
theorem State.sectorDemand_recompute (s : State) (k k' : StreamId) :
    (s.recompute k).sectorDemand k' = if k' = k then s.highestDemand k else s.sectorDemand k' := by
  simp only [State.recompute]
  split
  · rename_i h; split
    · subst_vars; exact h.symm
    · rfl
  · rw [State.notify_frame]; exact State.sectorDemand_setDemand ..

/-- Recomputes of several streams change ports and stored demand alone. -/
theorem State.recomputeEach_frame (ks : List StreamId) (s : State) : s.recomputeEach ks
    = { s with ports := (s.recomputeEach ks).ports, demand := (s.recomputeEach ks).demand } := by
  induction ks generalizing s with
  | nil => rfl
  | cons k ks ih =>
    have h := ih (s.recompute k)
    simp only [State.recomputeEach, State.each_cons] at h ⊢
    rw [h, State.recompute_frame]

/-- Streams that join counts change the fan-out table alone. -/
theorem State.joinCounts_frame (ks : List StreamId) (s : State) (c : CellId) (l : Level) :
    s.joinCounts c l ks = { s with fan := (s.joinCounts c l ks).fan } := by
  induction ks generalizing s with
  | nil => rfl
  | cons k ks ih =>
    have h := ih (s.setCounts c k ((s.counts c k).inc l))
    simp only [State.joinCounts, State.each_cons] at h ⊢
    rw [h, State.setCounts_frame]

/-- Streams that leave counts change the fan-out table alone. -/
theorem State.leaveCounts_frame (ks : List StreamId) (s : State) (c : CellId) (l : Level) :
    s.leaveCounts c l ks = { s with fan := (s.leaveCounts c l ks).fan } := by
  induction ks generalizing s with
  | nil => rfl
  | cons k ks ih =>
    have h := ih (s.setCounts c k ((s.counts c k).dec l))
    simp only [State.leaveCounts, State.each_cons] at h ⊢
    rw [h, State.setCounts_frame]

/-- A tier recompute with its message changes the station, the fan-out counts and stored demand, and
trunk records and ports through its messages. -/
theorem State.retier_frame (s : State) (i : StationIx) : s.retier i = { s with
    stations := (s.retier i).stations, fan := (s.retier i).fan, demand := (s.retier i).demand
    trunks := (s.retier i).trunks, ports := (s.retier i).ports } := by
  have tt : ∀ (v : State) o, v.tellTier i o
      = { v with trunks := (v.tellTier i o).trunks, ports := (v.tellTier i o).ports } := by
    intro v o; simp only [State.tellTier]; split
    · exact State.tell_frame ..
    · rfl
    · rfl
  have rt : (s.recomputeTier i).1 = { s with
      stations := (s.recomputeTier i).1.stations, fan := (s.recomputeTier i).1.fan
      demand := (s.recomputeTier i).1.demand, ports := (s.recomputeTier i).1.ports } := by
    simp only [State.recomputeTier]
    split
    · rfl
    · split
      · rfl
      · rw [State.recomputeEach_frame]
        simp only [State.putStation]
        rw [State.joinCounts_frame, State.leaveCounts_frame]
  unfold State.retier
  rw [tt, rt]

/-! ### Descriptors -/

/-- Freeing a descriptor changes the pool, the block set, its stream and Port V alone. -/
theorem State.freeDesc_frame (s : State) (d : DescIx) : s.freeDesc d = { s with
    descs := (s.freeDesc d).descs, used := (s.freeDesc d).used
    streams := (s.freeDesc d).streams, ports := (s.freeDesc d).ports } := by
  have e : ∀ (v : State) k, v.endDrain k
      = { v with streams := (v.endDrain k).streams, ports := (v.endDrain k).ports } := by
    intro v k; simp only [State.endDrain]; split
    · rw [State.notify_frame]; rfl
    · rfl
  have c : s.freeCore d = { s with
      descs := (s.freeCore d).descs, used := (s.freeCore d).used, streams := (s.freeCore d).streams } := by
    simp only [State.freeCore]; split <;> rfl
  simp only [State.freeDesc]
  split
  · rfl
  · rw [e, c]

/-- A descriptor that leaves a trunk's replay queue changes its own trunk, the pool, the block set,
its stream and Port V alone. -/
theorem State.unlink_frame (s : State) (t : TrunkId) (d : DescIx) : s.unlink t d = { s with
    trunks := (s.setTrunk t ((s.trunk t).unlink d)).trunks, descs := (s.unlink t d).descs
    used := (s.unlink t d).used, streams := (s.unlink t d).streams, ports := (s.unlink t d).ports } := by
  simp only [State.unlink]
  split
  · rfl
  · split
    · split
      · rw [State.freeDesc_frame]; rfl
      · rfl
    · rfl
    · rfl

end Sys2Proof.Machine
end

