-- ==== Sys2Proof/Laws/Ports.lean ====
section
/-! SUPPORT. How a command of a port is taken: the acceptance checks pass or refuse it, and either way
its response leaves the port as `State.answered` says. -/
namespace Sys2Proof.Machine

/-! ### Codes -/

/-- Every command is found by its code. -/
@[simp] theorem Command.ofCode_code (c : Command) : Command.ofCode c.code = some c := by
  cases c <;> rfl

/-- A code names the one command that has it. -/
theorem Command.code_of_ofCode (n : Nat) (c : Command) (h : Command.ofCode n = some c) : c.code = n := by
  have := List.find?_some h
  simpa using this

/-- Two commands with one code are one command. -/
theorem Command.code_inj (c d : Command) (h : c.code = d.code) : c = d := by
  have := congrArg Command.ofCode h
  simpa using this

/-! ### The response -/

/-- On an UP link a response joins the response path. -/
theorem State.respond_up (s : State) (p : PortId) (m : PortMessage) (r : Result) (b : List Field)
    (h : (s.port p).link = .up) : s.respond p m r b = s.setPort p { s.port p with
      responses := (s.port p).responses ++ [⟨m.code, m.tag, r, if r = .ok then b else [], (s.port p).ready⟩]
      ready := (s.port p).ready + 1 } := by
  simp only [State.respond]
  rw [h]

/-- A response changes its port alone. -/
theorem State.respond_frame (s : State) (p : PortId) (m : PortMessage) (r : Result) (b : List Field) :
    s.respond p m r b = { s with ports := (s.respond p m r b).ports } := by
  simp only [State.respond]
  split
  · exact State.setPort_frame ..
  · rfl
  · rfl

/-- A command begun and answered at once leaves its port as `State.answered` says. -/
theorem State.respond_begin (s : State) (p : PortId) (m : PortMessage) (r : Result) (b : List Field)
    (h : (s.port p).link = .up) (hb : r ≠ .ok → b = []) :
    (s.begin p).respond p m r b = s.answered p m r b := by
  have e : (if r = Result.ok then b else []) = b := by
    by_cases hr : r = .ok <;> simp [hr, hb]
  have hl : ((s.begin p).port p).link = .up := by simp [State.begin, h]
  rw [State.respond_up _ _ _ _ _ hl, e]
  simp [State.begin, State.answered]

/-- An answer changes its port alone. -/
theorem State.answered_frame (s : State) (p : PortId) (m : PortMessage) (r : Result) (b : List Field) :
    s.answered p m r b = { s with ports := (s.answered p m r b).ports } := State.setPort_frame ..

/-! ### Taking a command -/

/-- A command that the checks pass is acted on by its own rule, and its answer is the response. -/
theorem State.act_taken (s : State) (p : PortId) (c : Command) (m : PortMessage) (h : s.Taking p c m)
    (rule : List Byte → State → Answer) : s.act p c rule
      = (rule m.body (s.begin p)).state.respond p m (rule m.body (s.begin p)).result
          (rule m.body (s.begin p)).body := by
  obtain ⟨⟨-, -, h3, h4⟩, h5⟩ := h
  unfold State.act
  cases hw : (s.port p).waiting with
  | nil => simp [hw] at h3
  | cons m' rest =>
    simp only [hw, List.head?_cons, Option.some.injEq] at h3
    subst h3
    simp [h4, h5]

/-- A command that the checks refuse has no effect but its answer. -/
theorem State.act_refused (s : State) (p : PortId) (c : Command) (m : PortMessage) (r : Result)
    (h : s.Heads p c m) (hr : refusal p m = some r) (rule : List Byte → State → Answer) :
    s.act p c rule = s.answered p m r [] := by
  rw [← State.respond_begin s p m r [] h.up (fun _ => rfl)]
  obtain ⟨-, -, h3, h4⟩ := h
  unfold State.act
  cases hw : (s.port p).waiting with
  | nil => simp [hw] at h3
  | cons m' rest =>
    simp only [hw, List.head?_cons, Option.some.injEq] at h3
    subst h3
    simp [h4, hr]

/-- A rule that leaves the ports as they are answers what it was given. -/
theorem State.respond_of_ports (s u : State) (p : PortId) (m : PortMessage) (r : Result)
    (b : List Field) (h : (s.port p).link = .up) (hb : r ≠ .ok → b = []) (hp : u.ports = s.ports) :
    State.respond { u with ports := (s.begin p).ports } p m r b = u.answered p m r b := by
  have e : ({ u with ports := (s.begin p).ports } : State) = u.begin p := by
    cases u; cases p <;> (simp only at hp; subst hp; rfl)
  rw [e]
  refine State.respond_begin u p m r b ?_ hb
  have : u.port p = s.port p := by cases p <;> simp [State.port, hp]
  rw [this]; exact h

/-- The checks never answer OK. -/
theorem refusal_ne_ok (p : PortId) (m : PortMessage) (r : Result) (h : refusal p m = some r) :
    r ≠ .ok := by
  rintro rfl
  unfold refusal at h
  split at h
  · cases h
  · split at h
    · cases h
    · repeat' (split at h; · cases h)
      cases h

/-! ### Messages to cells -/

/-- A control message reaches no port but W. -/
theorem State.ports_append (s : State) (t : TrunkId) (m : Ctl) :
    (s.append t m).ports = { s.ports with w := (s.append t m).ports.w } := by
  simp only [State.append, State.raiseFlag]
  repeat' split
  all_goals first
    | rfl
    | (simp only [State.notify]; split <;> rfl)

/-- A tier that has not changed is not told. -/
@[simp] theorem State.tierTold_self (s : State) (i : StationIx) (c : CellId) (l : Level) :
    s.tierTold i c l l = s := if_pos rfl

/-- A TIER_UPDATE, where there is one, changes trunk records and Port W alone. -/
theorem State.tierTold_frame (s : State) (i : StationIx) (c : CellId) (a b : Level) :
    s.tierTold i c a b = { s with
      trunks := (s.tierTold i c a b).trunks, ports := { s.ports with w := (s.tierTold i c a b).ports.w } } := by
  simp only [State.tierTold]
  split
  · rfl
  · have h := State.tell_frame s c (.tierUpdate i b)
    have g : (s.tell c (.tierUpdate i b)).ports = _ := State.ports_append ..
    rw [g] at h
    exact h

end Sys2Proof.Machine
end

