-- ==== Sys2Proof/WellFormed.lean ====
section
/-! DEFINITION. Which commands the surroundings of the part can put to it. The types already bound
ports and trunks. What is left are the sizes the line gives an upstream frame (Chapter 12.4) and the
station indices an expiry can name (00_scope.md "Identifiers"). `exec` is total and does not lean on
these checks: an upstream frame outside them is handled by the layout rules of R182. -/
namespace Sys2Proof

/-- The report slot carries up to 64 bytes (R19, Chapter 12.4). -/
def SlotInput.wellFormed : SlotInput → Bool
  | .silent => true
  | .damaged => true
  | .report bytes => decide (bytes.length ≤ 64)

/-- The poll answer slot carries up to 293 bytes, and an answer up to four reports (Chapter 12.4). -/
def UpFrame.wellFormed (u : UpFrame) : Bool :=
  u.slot.wellFormed && decide (u.answer.length ≤ 293) && decide (u.reportOk.length ≤ 4)

/-- A station index is 0..16383 (00_scope.md "Identifiers"). -/
def stationIxWellFormed (i : StationIx) : Bool := decide (i < 16384)

/-- The whole check. Every constructor is named, so that a new row cannot pass unchecked. -/
def Instr.wellFormed : Instr → Bool
  | .deviceReset => true
  | .linkSignalDetected _ => true
  | .linkAligned _ => true
  | .linkSignalLost _ => true
  | .linkTrainingReceived _ => true
  | .linkFramingFailure _ => true
  | .commandWithoutCredit _ => true
  | .commandReceived _ _ => true
  | .malformedMessage _ => true
  | .outboundSend _ => true
  | .cellSet _ => true
  | .pollListSet _ => true
  | .pollUrgent _ => true
  | .cellQuery _ => true
  | .loadSet _ => true
  | .trunkSet _ => true
  | .trunkStart _ => true
  | .trunkStandby _ => true
  | .trunkReset _ => true
  | .trunkQuery _ => true
  | .stationDetach _ => true
  | .stationClear _ => true
  | .timersSet _ => true
  | .ticketLoad _ => true
  | .gateAdmit _ => true
  | .gateExit _ => true
  | .ticketVoid _ => true
  | .ticketQuery _ => true
  | .ticketClear _ => true
  | .streamOpen _ => true
  | .streamClose _ => true
  | .segBegin _ => true
  | .segData _ => true
  | .segEnd _ => true
  | .segAbort _ => true
  | .mark _ => true
  | .markSet _ => true
  | .streamQuery _ => true
  | .replayClear _ => true
  | .fanoutQuery _ => true
  | .stationQuery _ => true
  | .partStatus _ => true
  | .wakeSignal _ => true
  | .upstreamSignalDetected _ => true
  | .wakeTimeout _ => true
  | .alignTimeout _ => true
  | .lostGiveUp _ => true
  | .idleTimerExpiry _ => true
  | .frameStart _ => true
  | .multiframeStart _ => true
  | .upstreamFrameReceived _ u => u.wellFormed
  | .reportTake => true
  | .roamTimeout i => stationIxWellFormed i
  | .ageExpiry i => stationIxWellFormed i
  | .seatGraceExpiry i => stationIxWellFormed i
  | .steerHoldExpiry i => stationIxWellFormed i
  | .generatorExpiry => true
  | .portVGraceExpiry => true
  | .outboundMessageSent _ => true
  | .linkReceiverAligned _ => true
  | .resetLineAsserted => true
  | .sectorTimeTick => true

end Sys2Proof
end

