-- ==== Sys2Proof/Tests/Slice0.lean ====
section
/-! SUPPORT. Tests: the WellFormed smoke, the manual's worked examples, and for each statement states
and operands that meet its hypotheses (`witness_<the statement's name>`). Expected values come from the
manual or from hand calculation. -/
namespace Sys2Proof.Tests
open Sys2Proof.Machine

/-! ### WellFormed: each check refuses an ill-formed term -/

theorem test_wf_report_slot : (Instr.upstreamFrameReceived 0
      ⟨true, true, .report (List.replicate 65 0), [], []⟩).wellFormed = false
    ∧ (Instr.upstreamFrameReceived 0 ⟨true, true, .report (List.replicate 64 0), [], []⟩).wellFormed
      = true := by decide +kernel
theorem test_wf_answer : (Instr.upstreamFrameReceived 0
      ⟨true, true, .silent, List.replicate 294 0, []⟩).wellFormed = false
    ∧ (Instr.upstreamFrameReceived 0 ⟨true, true, .silent, List.replicate 293 0, []⟩).wellFormed
      = true := by decide +kernel
theorem test_wf_reports : (Instr.upstreamFrameReceived 0
      ⟨true, true, .damaged, [], [true, true, true, true, true]⟩).wellFormed = false
    ∧ (Instr.upstreamFrameReceived 0 ⟨true, true, .damaged, [], [true, true, true, true]⟩).wellFormed
      = true := by decide
theorem test_wf_station : (Instr.roamTimeout 16384).wellFormed = false
    ∧ (Instr.ageExpiry 16384).wellFormed = false ∧ (Instr.seatGraceExpiry 16384).wellFormed = false
    ∧ (Instr.steerHoldExpiry 16384).wellFormed = false ∧ (Instr.roamTimeout 16383).wellFormed = true := by
  decide

/-- The opcode table gives no row bits, so no word spells a command. -/
theorem test_no_word_decodes : decodeTableWord 8 0x10 = none
    ∧ State.withFetchWord State.reset 8 0x10 = State.reset := ⟨rfl, rfl⟩

/-! ### Fixtures -/

/-- A command message as a controller sends it. -/
def cmd (c : Command) (body : List Byte) : PortMessage :=
  ⟨1, BitVec.ofNat 8 c.code, 7, BitVec.ofNat 16 body.length, 0, 0, 0, body⟩

/-- The part with a message at the head of the intake of an UP port. -/
def onPort (s : State) (p : PortId) (m : PortMessage) : State :=
  s.setPort p { s.port p with link := .up, waiting := [m], credit := 15 }

/-- The part with a command at the head of the intake of an UP port. -/
def taken (s : State) (p : PortId) (c : Command) (b : List Byte) : State := onPort s p (cmd c b)

/-- Such a command is taken once the acceptance checks pass it. -/
theorem taking (s : State) (p : PortId) (c : Command) (b : List Byte) (hs : s.held = false)
    (h : refusal p (cmd c b) = none) : (taken s p c b).Taking p c (cmd c b) where
  released := by simpa [taken, onPort] using hs
  up := by simp [taken, onPort]
  oldest := by simp [taken, onPort]
  code := by cases c <;> rfl
  accepted := h

/-- Two cells of trunk 0 (a SEAT cell of section 1 with the CONCOURSE cell 1 as its neighbour), one
station at each, ticket 5 bound to station 1, stream 0 OPEN and watched there. -/
def bowl : State := { State.reset with
  trunks := State.reset.trunks.set 0 { Trunk.reset with
    state := .active, enable := true, entry := none, idlePeriod := 10, pollList := [0, 1] }
  cells := ⟨[(0, { Cell.reset with
                section_ := 1, cmax := 4, neighbours := [1], live := .live, accepted := .run, attached := 1 }),
             (1, { Cell.reset with
                kind := .concourse, cmax := 8, live := .live, accepted := .run, attached := 1 })]⟩
  stations := ⟨[(0, ⟨0xA0, 0, none, .unbound, [], .none, 0, some 0, none⟩),
                (1, ⟨0xA1, 1, none, .bound 5, [0], .full, 0, none, none⟩)]⟩
  tickets := ⟨[(5, ⟨1, none, .full, .seated 1, 1⟩), (6, ⟨1, some 0, .lean, .admitted, 1⟩)]⟩
  fan := ⟨[(16, ⟨1, 0⟩)]⟩
  streams := State.reset.streams.set 0 { Stream.reset with state := .opened } }

/-- A trunk's record with another state. -/
def inState (s : State) (t : TrunkId) (st : TrunkState) : State :=
  s.setTrunk t { s.trunk t with state := st, entry := some 0 }

/-- A report at the head of the intake of trunk 0, which the pointer names. -/
def reported (s : State) (x : CellId) (b : ReportBody) : State :=
  { s.setTrunk 0 { s.trunk 0 with intake := [⟨x, b, false⟩] } with pointer := 0 }

/-- Such a report is the next the Report Processor takes. -/
theorem takes (s : State) (x : CellId) (b : ReportBody) (hs : s.held = false) :
    (reported s x b).Takes 0 ⟨x, b, false⟩ where
  released := hs
  head := by simp [reported, State.trunk, State.setTrunk]
  first := fun u h => absurd h (by simp [reported])
/-! ### The manual's worked examples -/

/-- Section 5.5, "Single updates at the limits": occupancy, instant score and smoothing. -/
theorem test_single_updates :
    Cell.occupancy { Cell.reset with attached := 120 } = 192
    ∧ instantScore ⟨6, 6, 2, 2, 0, 0, 0, 0⟩ 200 192 3 = 2448 ∧ smooth 2 2000 2448 = 2112
    ∧ Cell.occupancy { Cell.reset with attached := 160 } = 255
    ∧ instantScore ⟨15, 15, 0, 1, 0, 0, 0, 0⟩ 255 255 0 = 4095 ∧ smooth 1 3000 4095 = 3547
    ∧ smooth 2 3000 2997 = 3000 ∧ smooth 2 3547 1000 = 2911 ∧ smooth 0 3547 1000 = 1000 := by decide

/-- Section 5.5, "Occupancy when a cell is degraded", poll 5. -/
theorem test_degraded_occupancy :
    Cell.occupancy { Cell.reset with attached := 90, accepted := .degraded } = 255
    ∧ instantScore .reset 150 255 2 = 2494 ∧ smooth 2 1807 2494 = 1978 := by decide

/-- Section 5.5, "Hysteresis on a seat cell", answers 1, 2, 5 and 6. -/
theorem test_hysteresis :
    nextLoad (3000, 2400) .normal 3000 = .normal ∧ nextLoad (3000, 2400) .normal 3075 = .crowded
    ∧ nextLoad (3000, 2400) .crowded 2525 = .crowded ∧ nextLoad (3000, 2400) .crowded 2394 = .normal := by
  decide

/-- R70, the table of effective capacities. -/
theorem test_ceff : [1, 2, 7, 160, 255].map (fun n => Cell.ceff { Cell.reset with cmax := n })
      = [1, 2, 7, 160, 255]
    ∧ [1, 2, 7, 160, 255].map (fun n => Cell.ceff { Cell.reset with cmax := n, accepted := .degraded })
      = [1, 1, 3, 80, 127] := by decide

/-- R13, the examples: 203, 7 and 5,000 ms; silence limits 0 and 40. -/
theorem test_timers :
    (timersOf (beBytes 2 203 ++ List.replicate 10 0)).roamTimeout = 200
    ∧ (timersOf (beBytes 2 7 ++ List.replicate 10 0)).roamTimeout = 16
    ∧ (timersOf (beBytes 2 5000 ++ List.replicate 10 0)).roamTimeout = 1000
    ∧ (timersOf (List.replicate 12 0)).silence = 2
    ∧ (timersOf (List.replicate 10 0 ++ [0, 40])).silence = 15 := by decide

/-- Section 11.5, the seven allocations: C and Rp. -/
theorem test_allocations :
    [(40, 500, 96), (300, 500, 96), (300, 30, 96), (10, 0, 96), (600, 1000, 320), (600, 1000, 0),
      (0, 1000, 96)].map (fun x => (controlSlots x.1 x.2.1 x.2.2, replaySlots x.1 x.2.1 x.2.2))
    = [(40, 328), (272, 96), (300, 30), (10, 0), (48, 320), (368, 0), (0, 368)] := by decide

/-- Section 10.9, the distances of marks across the wrap. -/
theorem test_mark_distance :
    [(65530, 4), (900, 2000), (900, 1924), (3, 65533), (3, 65530), (100, 64000)].map
      (fun x => markDistance (BitVec.ofNat 16 x.1) (BitVec.ofNat 16 x.2))
    = [-10, -1100, -1024, 6, 9, 1636] := by decide

/-- Section 8.9, with a table that is full after two more records. -/
theorem test_ticket_batch :
    ((State.reset.loadEntry ([1] ++ beBytes 8 65 ++ [12, 2, 0, 0]) 1).2,
      (State.reset.loadEntry ([1] ++ beBytes 8 0 ++ [12, 2, 0, 0]) 1).2,
      (bowl.loadEntry ([1] ++ beBytes 8 5 ++ [14, 1, 0, 0]) 1).2,
      (State.reset.loadEntry ([1] ++ beBytes 8 65 ++ [70, 2, 0, 0]) 1).2)
    = (.ok, .badValue, .exists_, .badValue) := by decide

/-- Section 3.14: with the pointer at 5 and reports on trunks 1, 4 and 6, trunk 6 is served. -/
theorem test_round_robin :
    let q := { Trunk.reset with intake := [⟨0, .depart 9, false⟩] }
    State.nextServed { State.reset with
      pointer := 5, trunks := ((State.reset.trunks.set 1 q).set 4 q).set 6 q } = some 6 := by decide

/-- Section 4.9, polls 1 and 2: one RUN is a candidate, a second is accepted. -/
theorem test_double_look :
    let s := { State.reset with cells := ⟨[(83, Cell.reset)]⟩ }
    ((s.doubleLook 83 0).cell 83).accepted = .radioOff ∧ ((s.doubleLook 83 0).cell 83).candidate = some .run
    ∧ (((s.doubleLook 83 0).doubleLook 83 0).cell 83).accepted = .run := by decide

/-- Chapter 12.1: a 2-byte field that would begin at an odd offset is preceded by a reserved byte. -/
theorem test_padding : (layoutFrom (fun _ => 0) 0 [.u8 1, .u16 0x0203, .u8 4]) = [1, 0, 2, 3, 4] := by decide

/-- Chapter 12.4: a report's first byte, bits 3 to 7 the position and bits 0 to 2 the kind. -/
theorem test_report_layout :
    parseReport 2 [0x9A, 6, 0x01, 0x02, 0, 0] = some ⟨83, .depart 0x0102, false⟩
    ∧ parseReport 2 [0x98, 6, 0x01, 0x02, 0, 0] = none ∧ parseReport 2 [0x9A, 7, 0x01, 0x02, 0, 0] = none := by
  decide

/-- R1: sector time wraps. -/
theorem test_time_wraps :
    exec .sectorTimeTick { State.reset with now := 0xFFFFFFFF } = .next State.reset := rfl

/-- R122: at exactly the conflict window the holder is stale (30 s are 7,500 units). -/
theorem test_conflict_window : State.stale { bowl with now := 7500 } 1 = true
    ∧ State.stale { bowl with now := 7499 } 1 = false := by decide

/-- R160 check 3: sequences 1 to 32767 after the last one are accepted. -/
theorem test_sequences : badSequence (some 5) 6 = false ∧ badSequence (some 5) 5 = true
    ∧ badSequence (some 5) (5 + 32767) = false ∧ badSequence (some 5) (5 + 32768) = true
    ∧ badSequence none 5 = false := by decide

/-- R2: from device reset the training pattern carries the ready indication once the receiver is
aligned, and no pattern stands on an UP link. -/
theorem test_training_pattern : State.reset.portLine .W = .training false
    ∧ (∀ u, exec (.linkReceiverAligned .W) State.reset = .next u → u.portLine .W = .training true)
    ∧ ∀ u, exec (.linkAligned .W) State.reset = .next u → u.portLine .W = .idle :=
  ⟨rfl, fun u h => by cases h; rfl, fun u h => by cases h; rfl⟩

/-! ### Witnesses: the block and the ports -/

theorem witness_HeldPartIsInert : ({ State.reset with held := true }).held = true
    ∧ Instr.reportTake ≠ .deviceReset ∧ Instr.reportTake ≠ .resetLineAsserted := by decide

theorem witness_SectorTimeCounts : State.reset.held = false := rfl

/-- A port with `n` notices queued. -/
def noticed (n : Nat) : Port :=
  { Port.reset with notices := List.replicate n ⟨0, .streamDrained 0, 0⟩, overflow := true }

theorem witness_NoticeQueuedOrDropped :
    ((State.reset.setPort .V (noticed 63)).port .V).notices.length < 64
    ∧ 64 ≤ ((State.reset.setPort .V (noticed 64)).port .V).notices.length
    ∧ PortId.W ≠ PortId.V := by decide

/-- A part whose port p is in a link state. -/
def linked (p : PortId) (l : Link) : State := State.reset.setPort p { Port.reset with link := l }

theorem witness_LinkComesUp : ∀ p, (linked p .down).held = false ∧ ((linked p .down).port p).link = .down
    ∧ ((linked p .training).port p).link = .training ∧ ((linked p .training).port p).link ≠ .down
    ∧ ((linked p .down).port p).link ≠ .training := by intro p; cases p <;> decide

/-- A port with `n` intake entries taken by waiting commands. -/
def busy (n : Nat) : Port :=
  { Port.reset with link := .up, waiting := List.replicate n (cmd .partStatus []), credit := 16 - n }

theorem witness_LinkLeavesUp :
    let s := fun n => State.reset.setPort .V (busy n)
    (s 16).held = false ∧ ((s 16).port .V).link = .up ∧ 16 ≤ ((s 16).port .V).taken
    ∧ ((s 15).port .V).taken < 16 ∧ ((linked .V .training).port .V).link = .training
    ∧ ((linked .V .down).port .V).link = .down ∧ ((linked .V .down).port .V).link ≠ .up := by decide

theorem witness_CommandTakesEntry :
    let s := fun n => State.reset.setPort .W (busy n)
    (s 15).held = false ∧ ((s 15).port .W).link = .up ∧ ((s 15).port .W).taken < 16
    ∧ 16 ≤ ((s 16).port .W).taken ∧ ((linked .W .down).port .W).link ≠ .up := by decide

/-- A response and a notice with a place in the order of readiness. -/
def resp (n : Nat) : Response := ⟨0x41, 7, .ok, [], n⟩
def note (n : Nat) : QueuedNotice := ⟨0, .streamDrained 0, n⟩
/-- An UP port with some responses, some notices and a message on the line. -/
def line (r : List Response) (n : List QueuedNotice) (m : Option PortMessage) : State :=
  State.reset.setPort .W { Port.reset with link := .up, responses := r, notices := n, sending := m }

theorem witness_OutboundLineOrder :
    ((line [] [] none).port .W).responses = [] ∧ ((line [] [] none).port .W).notices = []
    ∧ ((line [] [] none).port .W).sending = none ∧ ((line [] [] none).port .W).link = .up
    ∧ (line [] [] none).held = false
    ∧ (∀ n ∈ ((line [resp 3] [note 4] none).port .W).notices.head?, (resp 3).ready < n.ready)
    ∧ (∀ r ∈ ((line [resp 4] [note 3] none).port .W).responses.head?, (note 3).ready ≤ r.ready)
    ∧ ((line [] [] (some (cmd .mark []))).port .W).sending = some (cmd .mark [])
    ∧ ((linked .W .down).port .W).link ≠ .up := by decide

/-- A body of an odd length before a 2-byte field, and a field with a value and an absent one. -/
theorem witness_OutboundLineOrder_fields : (bodyBytes 0 [.u8 1]).length % 2 = 1 ∧ (Field.u16 5).width = 2
    ∧ (Field.u16 5).value = some 5 ∧ (⟨2, none⟩ : Field).value = none := by decide

/-- Messages that each check of R180 refuses, and one at the largest body length. -/
theorem witness_RefusedMessageAnswered :
    ({ cmd .mark [] with kind := 2 }).kind ≠ 1
    ∧ (∀ c : Command, c.code ≠ ({ cmd .mark [] with code := 0x1D }).code.toNat)
    ∧ (cmd .mark []).kind = 1 ∧ Command.mark.code = (cmd .mark []).code.toNat
    ∧ Command.mark.permitted .W = false ∧ Command.mark.permitted .V = true
    ∧ 1040 < ({ cmd .mark [] with bodyLength := 1041 }).bodyLength.toNat
    ∧ ({ cmd .mark [] with bodyLength := 1040 }).bodyLength.toNat
        ≠ ({ cmd .mark [] with bodyLength := 1040 }).body.length
    ∧ (cmd .mark [0]).body.length ≠ Command.mark.length (cmd .mark [0]).body
    ∧ (cmd .mark []).bodyLength.toNat ≤ 1040 ∧ refusal .V (cmd .mark []) = none
    ∧ refusal .W (cmd .mark []) = some .notPermitted := by
  refine ⟨by decide, fun c => by cases c <;> decide, by decide, by decide, by decide, by decide, by decide,
    by decide, by decide, by decide, by decide, by decide⟩

/-- A message that names a command, refused on the port it arrived on. -/
theorem witness_RefusedMessageAnswered_heads :
    (taken .reset .W .mark []).Heads .W .mark (cmd .mark []) ∧ portCommand (.mark .W) = some (.W, .mark)
    ∧ refusal .W (cmd .mark []) = some .notPermitted :=
  ⟨⟨rfl, rfl, rfl, rfl⟩, rfl, by decide⟩

theorem witness_EveryCommandAnswered : portCommand (.mark .V) = some (.V, .mark)
    ∧ (taken .reset .V .mark []).Taking .V .mark (cmd .mark []) := ⟨rfl, taking _ _ _ _ rfl (by decide)⟩

theorem witness_UnknownNameRefused :
    (taken .reset .W .trunkStart [8]).Taking .W .trunkStart (cmd .trunkStart [8])
    ∧ 8 ≤ byteAt (cmd .trunkStart [8]).body 0
    ∧ (taken .reset .V .streamOpen [16]).Taking .V .streamOpen (cmd .streamOpen [16])
    ∧ 16 ≤ byteAt (cmd .streamOpen [16]).body 0
    ∧ (taken bowl .T .gateAdmit (beBytes 8 7)).Taking .T .gateAdmit (cmd .gateAdmit (beBytes 8 7))
    ∧ (taken bowl .T .gateAdmit (beBytes 8 7)).ticket? (tokenOf (cmd .gateAdmit (beBytes 8 7))) = none
    ∧ (taken bowl .W .stationDetach [0, 1, 0, 0, 0, 0, 0, 0xA0]).Taking .W .stationDetach
        (cmd .stationDetach [0, 1, 0, 0, 0, 0, 0, 0xA0])
    ∧ (bowl.station? 1).map (fun r => r.address.toNat) ≠ some 0xA0 :=
  ⟨taking _ _ _ _ rfl (by decide), by decide, taking _ _ _ _ rfl (by decide), by decide,
    taking _ _ _ _ rfl (by decide), by decide, taking _ _ _ _ rfl (by decide), by decide⟩

theorem witness_TimersSetClamps :
    (taken .reset .W .timersSet (List.replicate 12 9)).Taking .W .timersSet
      (cmd .timersSet (List.replicate 12 9))
    ∧ (taken .reset .W .timersSet (List.replicate 11 9)).Heads .W .timersSet
      (cmd .timersSet (List.replicate 11 9))
    ∧ (cmd .timersSet (List.replicate 11 9)).kind = 1
    ∧ (cmd .timersSet (List.replicate 11 9)).body.length ≠ 12 :=
  ⟨taking _ _ _ _ rfl (by decide), ⟨rfl, rfl, rfl, rfl⟩, rfl, by decide⟩

theorem witness_QueriesReportRecords :
    (taken bowl .W .cellQuery [0]).Taking .W .cellQuery (cmd .cellQuery [0])
    ∧ (∀ n ∈ ([0, 1, 2] : List Byte),
        (taken bowl .W .trunkQuery [7, n]).Taking .W .trunkQuery (cmd .trunkQuery [7, n]))
    ∧ (taken bowl .T .stationQuery [0, 0, 0, 1]).Taking .T .stationQuery (cmd .stationQuery [0, 0, 0, 1])
    ∧ bowl.station? (numAt (cmd .stationQuery [0, 0, 0, 1]).body 2 2) ≠ none
    ∧ (taken bowl .T .stationQuery [1, 0, 0, 0, 0, 0, 0xA1]).Taking .T .stationQuery
        (cmd .stationQuery [1, 0, 0, 0, 0, 0, 0xA1])
    ∧ bowl.stationAt? 0xA1 ≠ none ∧ bowl.station? 2 = none ∧ bowl.stationAt? 0xA2 = none
    ∧ (taken bowl .T .stationQuery [2, 0, 0, 0, 0, 0, 0]).Taking .T .stationQuery
        (cmd .stationQuery [2, 0, 0, 0, 0, 0, 0])
    ∧ (taken bowl .T .ticketQuery (beBytes 8 5)).Taking .T .ticketQuery (cmd .ticketQuery (beBytes 8 5))
    ∧ (bowl.ticket? 5).map (fun t => t.state) = some (.seated 1) ∧ (bowl.station? 1).isSome = true
    ∧ (bowl.ticket? 6).map (fun t => t.state.holder) = some none
    ∧ (taken bowl .V .streamQuery [15]).Taking .V .streamQuery (cmd .streamQuery [15])
    ∧ (taken bowl .V .fanoutQuery [15]).Taking .V .fanoutQuery (cmd .fanoutQuery [15]) :=
  ⟨taking _ _ _ _ rfl (by decide), fun n hn => taking _ _ _ _ rfl (by revert n; decide),
    taking _ _ _ _ rfl (by decide), by decide, taking _ _ _ _ rfl (by decide), by decide, by decide,
    by decide, taking _ _ _ _ rfl (by decide), taking _ _ _ _ rfl (by decide), by decide, by decide,
    by decide, taking _ _ _ _ rfl (by decide), taking _ _ _ _ rfl (by decide)⟩

theorem witness_PartStatusSnapshot : ∀ p, (taken bowl p .partStatus []).Taking p .partStatus
    (cmd .partStatus []) := fun p => taking _ _ _ _ rfl (by cases p <;> decide)

/-! ### Witnesses: trunks -/

theorem witness_TrunkSetStores :
    (taken bowl .W .trunkSet [0, 2, 1, 0, 0, 0, 1, 0, 0, 0]).Taking .W .trunkSet
      (cmd .trunkSet [0, 2, 1, 0, 0, 0, 1, 0, 0, 0])
    ∧ 2 ≤ byteAt (cmd .trunkSet [0, 2, 1, 0, 0, 0, 1, 0, 0, 0]).body 1
    ∧ (taken bowl .W .trunkSet [0, 1, 1, 0, 0, 0, 1, 0, 0, 0]).Taking .W .trunkSet
      (cmd .trunkSet [0, 1, 1, 0, 0, 0, 1, 0, 0, 0])
    ∧ byteAt (cmd .trunkSet [0, 1, 1, 0, 0, 0, 1, 0, 0, 0]).body 1 < 2
    ∧ byteAt (cmd .trunkSet [0, 1, 1, 0, 0, 0, 1, 0, 0, 0]).body 0 = (0 : TrunkId).val :=
  ⟨taking _ _ _ _ rfl (by decide), by decide, taking _ _ _ _ rfl (by decide), by decide, by decide⟩

/-- Trunk 1, ACTIVE with no station: a period that starts the timer, that lets it run on, and that starts
it again; trunk 0, where stations stand. -/
theorem witness_TrunkSetStores_idle :
    let s := fun i => (inState bowl 1 .active).setTrunk 1 { (inState bowl 1 .active).trunk 1 with
      idlePeriod := 10, idle := i }
    let b := fun n : Byte => [1, 1, 0, 0, 0, n, 1, 0, 0, 0]
    (∀ i, ∀ n ∈ [0, 10, 11], (taken (s i) .W .trunkSet (b n)).Taking .W .trunkSet (cmd .trunkSet (b n)))
    ∧ (∀ i, ((s i).trunk 1).state = .active ∧ ((s i).trunk 1).idle = i) ∧ (s none).Deserted 1
    ∧ min 3600 (numAt (b 10) 4 2) = 10 ∧ min 3600 (numAt (b 11) 4 2) = 11 ∧ min 3600 (numAt (b 0) 4 2) = 0
    ∧ ¬ bowl.Deserted 0 := by
  refine ⟨fun i n hn => taking _ _ _ _ rfl (by revert n; decide), fun i => ⟨rfl, rfl⟩, ?_, by decide,
    by decide, by decide, ?_⟩ <;>
  · simp only [State.Deserted]
    decide +kernel

/-- The enable setting turned off in every state, and trunk states that do not serve. -/
theorem witness_TrunkSetStores_off :
    let b : List Byte := [0, 0, 1, 0, 0, 5, 1, 0, 0, 9]
    (∀ st, (taken (inState bowl 0 st) .W .trunkSet b).Taking .W .trunkSet (cmd .trunkSet b)
      ∧ ((inState bowl 0 st).trunk 0).state = st)
    ∧ byteAt b 1 = 0 ∧ byteAt b 2 < 2 ∧ byteAt b 6 < 2
    ∧ ∀ st ∈ [TrunkState.standby, .waking, .aligning], st ≠ .off ∧ st.serving = false := by
  refine ⟨fun st => ⟨taking _ _ _ _ rfl (by decide), by cases st <;> decide⟩, by decide, by decide,
    by decide, by decide⟩

theorem witness_TrunkCommandsByState :
    (∀ c ∈ [Command.trunkStart, .trunkStandby, .trunkReset], ∀ st,
      (taken (inState bowl 0 st) .W c [0]).Taking .W c (cmd c [0])
      ∧ ((taken (inState bowl 0 st) .W c [0]).trunk 0).state = st)
    ∧ byteAt (cmd .trunkStart [0]).body 0 = (0 : TrunkId).val := by
  refine ⟨fun c hc st => ⟨taking _ _ _ _ rfl (by revert c; decide), ?_⟩, by decide⟩
  cases st <;> simp [taken, onPort, inState]

/-- ACTIVE with a due idle timer, LOST with a due give-up, and the three commands. -/
theorem witness_TrunkExitEffects :
    let idle := { bowl.setTrunk 0 { bowl.trunk 0 with idle := some 0 } with now := 2500 }
    let lost := { inState bowl 0 .lost with now := 250 }
    idle.held = false ∧ (idle.trunk 0).state.serving = true ∧ (idle.trunk 0).state = .active
    ∧ (idle.trunk 0).idle = some 0 ∧ (idle.trunk 0).idlePeriod * 250 ≤ elapsed idle.now 0
    ∧ (lost.trunk 0).state = .lost ∧ (lost.trunk 0).entry = some 0 ∧ 250 ≤ elapsed lost.now 0
    ∧ (∀ st, st = .active ∨ st = .lost →
        (taken (inState bowl 0 st) .W .trunkStandby [0]).Taking .W .trunkStandby (cmd .trunkStandby [0])
        ∧ (taken (inState bowl 0 st) .W .trunkReset [0]).Taking .W .trunkReset (cmd .trunkReset [0])
        ∧ (taken (inState bowl 0 st) .W .trunkSet [0, 0, 1, 0, 0, 0, 1, 0, 0, 0]).Taking .W .trunkSet
            (cmd .trunkSet [0, 0, 1, 0, 0, 0, 1, 0, 0, 0]))
    ∧ byteAt (cmd .trunkSet [0, 0, 1, 0, 0, 0, 1, 0, 0, 0]).body 1 = 0
    ∧ (∀ stamp, (lost.trunk 0).entry = some stamp → elapsed 249 stamp < 250) ∧ (lost.trunk 0).state ≠ .active
    ∧ (∀ stamp, (idle.trunk 0).idle = some stamp → elapsed 2499 stamp < (idle.trunk 0).idlePeriod * 250)
    ∧ (idle.trunk 0).state ≠ .lost := by
  refine ⟨by decide, by decide, by decide, by decide, by decide, by decide, by decide, by decide,
    fun st _ => ⟨taking _ _ _ _ rfl (by decide), taking _ _ _ _ rfl (by decide),
      taking _ _ _ _ rfl (by decide)⟩, by decide, fun stamp h => by cases h; decide, by decide,
    fun stamp h => by cases h; decide, by decide⟩

theorem witness_TrunkEventsByState :
    let s := fun st now => { inState bowl 0 st with now := now }
    (∀ st, ((s st 250).trunk 0).state = st ∧ ((s st 250).trunk 0).entry = some 0)
    ∧ (s .waking 250).held = false ∧ 250 ≤ elapsed (s .waking 250).now 0
    ∧ ¬ 250 ≤ elapsed (s .waking 249).now 0 ∧ ((s .standby 0).trunk 0).autoWake = false
    ∧ (((s .standby 0).setTrunk 0 { (s .standby 0).trunk 0 with autoWake := true }).trunk 0).autoWake
      = true := by
  refine ⟨fun st => by cases st <;> decide, by decide, by decide, by decide, by decide, by decide⟩

theorem witness_MultiframeStartAllocates :
    (∀ st ∈ [TrunkState.active, .lost, .aligning], ((inState bowl 0 st).trunk 0).state.framing = true)
    ∧ bowl.held = false ∧ (bowl.trunk 0).awaiting = false ∧ (bowl.trunk 0).nextFrame = 0
    ∧ (bowl.trunk 0).mfTaken = false ∧ (bowl.trunk 0).rmin ≤ 320
    ∧ ((inState bowl 0 .waking).trunk 0).state.framing = false
    ∧ ((bowl.setTrunk 0 { bowl.trunk 0 with awaiting := true }).trunk 0).awaiting = true
    ∧ ((bowl.setTrunk 0 { bowl.trunk 0 with nextFrame := 1 }).trunk 0).nextFrame ≠ 0
    ∧ ((bowl.setTrunk 0 { bowl.trunk 0 with mfTaken := true }).trunk 0).mfTaken = true := by decide

/-- A trunk between two frames: it waits for the upstream frame of frame `n - 1`. -/
def between (st : TrunkState) (n : Nat) (poll : Option Nat) : State :=
  (inState bowl 0 st).setTrunk 0 { (inState bowl 0 st).trunk 0 with
    awaiting := true, nextFrame := n, polled := poll.map fun pos => ⟨pos, false⟩
    frame := some ⟨0, false, .idle, poll, 0, none, []⟩ }

theorem witness_AligningFrames :
    (inState bowl 0 .aligning).held = false ∧ ((inState bowl 0 .aligning).trunk 0).state = .aligning
    ∧ ((inState bowl 0 .aligning).trunk 0).awaiting = false
    ∧ ((between .aligning 1 none).trunk 0).state = .aligning
    ∧ ((between .aligning 1 none).trunk 0).awaiting = true
    ∧ ((between .aligning 1 none).trunk 0).nextFrame ≠ 0 := by decide

theorem witness_ServingFrames :
    (∀ st ∈ [TrunkState.active, .lost], ((inState bowl 0 st).trunk 0).state.serving = true
      ∧ ((inState bowl 0 st).trunk 0).awaiting = false)
    ∧ bowl.held = false ∧ ((between .active 3 none).trunk 0).awaiting = true
    ∧ ((inState bowl 0 .lost).trunk 0).allocation = none
    ∧ ((bowl.setTrunk 0 { bowl.trunk 0 with urgent := [4] }).trunk 0).urgent = [4]
    ∧ (bowl.trunk 0).urgent = [] ∧ (bowl.trunk 0).pollList[(bowl.trunk 0).regular]? = some 0
    ∧ ((bowl.setTrunk 0 { bowl.trunk 0 with pollList := [] }).trunk 0).pollList = []
    ∧ (∀ st ∈ [TrunkState.off, .standby, .waking], ((inState bowl 0 st).trunk 0).state = st)
    ∧ ((between .active 3 none).trunk 0).state.framing = true
    ∧ ((between .active 3 none).trunk 0).frame.isSome = true := by decide

/-- Trunk 0 with one control slot, three replay slots and two released segments, the first with two
chunks left and the second with one; the third plan entry has been skipped. -/
def slotted : State :=
  let carry := fun n : Nat => perTrunk fun t => if t = 0 then ⟨.lean, n⟩ else ⟨.none, 0⟩
  { bowl.setTrunk 0 { bowl.trunk 0 with
      control := [⟨some 0, .roamRelease 3⟩], replay := [0, 1]
      allocation := some ⟨1, 3, [some ⟨0, 0⟩, some ⟨1, 0⟩, none]⟩ } with
    descs := ⟨[(0, ⟨.released 1 (carry 2), 0, 1, 0, 2, 0, [0, 1]⟩),
               (1, ⟨.released 1 (carry 1), 0, 2, 0, 1, 0, [2]⟩)]⟩
    used := [0, 1, 2] }

theorem witness_SlotsFilledInOrder :
    (slotted.trunk 0).allocation = some ⟨1, 3, [some ⟨0, 0⟩, some ⟨1, 0⟩, none]⟩
    ∧ (slotted.trunk 0).control = [⟨some 0, .roamRelease 3⟩]
    ∧ (slotted.desc? 0).map (fun r => (r.carry 0).remaining) = some 2
    ∧ (slotted.desc? 1).map (fun r => (r.carry 0).remaining) = some 1 := by decide

/-- Frames with each kind of slot and with each mark field. -/
theorem witness_SlotsFilledInOrder_bytes : ∀ mark : Option (Option Mark),
    let f : DownFrame := ⟨0, false, .idle, none, 0, mark,
      [.empty, .control ⟨none, .streamEnd 3⟩, .replay 0 .lean 1 0 7 2 (List.replicate 256 9)]⟩
    (∀ k l q c m n data, Slot.replay k l q c m n data ∈ f.slots → data.length = 256)
      ∧ f.slots[2]? = some (.replay 0 .lean 1 0 7 2 (List.replicate 256 9)) := by
  refine fun mark => ⟨fun k l q c m n data h => ?_, rfl⟩
  simp only [List.mem_cons, List.not_mem_nil, or_false, reduceCtorEq, false_or, Slot.replay.injEq] at h
  rw [h.2.2.2.2.2.2, List.length_replicate]

/-! ### Witnesses: upstream frames -/

/-- An upstream frame that passes its check, with a slot and an answer. -/
def up (slot : SlotInput) (answer : List Byte) : UpFrame := ⟨true, true, slot, answer, [true]⟩

/-- Reports of cell 0 (URGENT and DEPART) and of cell 9, which is not configured. -/
theorem witness_ReportSlotSettled :
    (∀ st ∈ [TrunkState.active, .lost], ((between st 1 none).trunk 0).state.serving = true
      ∧ ((between st 1 none).trunk 0).awaiting = true ∧ ((between st 1 none).trunk 0).polled = none
      ∧ ((between st 1 none).trunk 0).nextFrame ≠ 0)
    ∧ (between .active 1 none).held = false
    ∧ parseReport 0 [0x00, 4, 0, 0] = none ∧ parseReport 0 [0x4E, 4, 0, 0] = some ⟨9, .urgent, false⟩
    ∧ (between .active 1 none).configured 9 = false
    ∧ parseReport 0 [0x06, 4, 0, 0] = some ⟨0, .urgent, false⟩ ∧ (between .active 1 none).configured 0 = true
    ∧ parseReport 0 [0x02, 6, 0, 1, 0, 0] = some ⟨0, .depart 1, false⟩
    ∧ ((between .active 1 none).trunk 0).intake.length < 32
    ∧ 32 ≤ (((between .active 1 none).setTrunk 0 { (between .active 1 none).trunk 0 with
        intake := List.replicate 32 ⟨0, .depart 1, false⟩ }).trunk 0).intake.length := by decide

/-- Reports of each kind, whole and one byte short. -/
theorem witness_ReportSlotSettled_bytes :
    let whole := fun (b : List Byte) => byteAt b 1 = b.length
    let assoc : List Byte := [0x09, 11, 0, 0, 0, 0, 0, 0, 0xB0, 0, 0]
    (byteAt assoc 0 % 8 = 1 ∧ byteAt assoc 2 = 0 ∧ whole assoc)
    ∧ (byteAt [0x09, 19, 1] 0 % 8 = 1 ∧ byteAt [0x09, 19, 1] 2 ≠ 0 ∧ ¬ whole [0x09, 19, 1])
    ∧ (∀ n ∈ [0, 7, 2, 3, 4, 5, 6], byteAt [BitVec.ofNat 8 (8 + n)] 0 % 8 = n)
    ∧ ∀ n ∈ [(2, 6), (3, 14), (4, 7), (5, 7), (6, 4)],
        whole ([BitVec.ofNat 8 n.1, BitVec.ofNat 8 n.2] ++ List.replicate (n.2 - 2) 1)
        ∧ ¬ whole ([BitVec.ofNat 8 n.1, BitVec.ofNat 8 n.2] ++ List.replicate (n.2 - 3) 1) := by decide

/-- Cell 0 polled: one miss below the limit, one at it, and one of a SILENT cell. -/
theorem witness_PollWithoutAnswer :
    let s := fun m l => (between .active 1 (some 0)).modCell 0 fun r => { r with miss := m, live := l }
    (∀ m ∈ [2, 3], (s m .live).held = false ∧ ((s m .live).trunk 0).state.serving = true
      ∧ ((s m .live).trunk 0).awaiting = true ∧ ((s m .live).trunk 0).polled = some ⟨0, false⟩
      ∧ ((s m .live).trunk 0).nextFrame ≠ 0)
    ∧ (up .silent []).slot = .silent ∧ (∀ a, parseAnswer (up .silent []).answer = some a → a.position ≠ 0)
    ∧ ((s 2 .live).cells.get? (32 * 0 + 0)).map (fun x => (x.miss, x.live)) = some (2, .live)
    ∧ min 15 (2 + 1) < (s 2 .live).timers.silence ∧ (s 3 .live).timers.silence ≤ min 15 (3 + 1)
    ∧ ((s 9 .silent).cells.get? 0).map (fun x => x.live) = some .silent := by
  refine ⟨by decide, rfl, by decide, by decide, by decide, by decide, by decide⟩

/-- An answer with one heard station and one report, which its report starts at 7 and ends at 11. -/
theorem witness_PollWithoutAnswer_bytes :
    let b : List Byte := [0, 200, 0, 1, 1, 0, 9, 0x06, 4, 0, 0]
    let start := fun i => 7 + 4 * i
    (start 0 = 5 + 2 * byteAt b 3 ∧ start 0 ≤ b.length ∧ ∀ i, i < byteAt b 4 → start i + 2 ≤ b.length
      ∧ start (i + 1) = start i + byteAt b (start i + 1) ∧ start (i + 1) ≤ b.length)
    ∧ parseAnswer b = some ⟨0, 200, 0, [9], [[0x06, 4, 0, 0]]⟩ ∧ parseAnswer (b.take 10) = none := by decide

/-- Cell 0 polled and answered with code DEGRADED and a heard list that names station 0. -/
theorem witness_PollAnswerStatus :
    (between .active 1 (some 0)).held = false ∧ (between .active 1 (some 0)).stations.wf = true
    ∧ ((between .active 1 (some 0)).trunk 0).state.serving = true
    ∧ ((between .active 1 (some 0)).trunk 0).polled = some ⟨0, false⟩
    ∧ parseAnswer (up .silent [0, 200, 1, 1, 0, 0, 0]).answer = some ⟨0, 200, 1, [0], []⟩
    ∧ (up .silent [0, 200, 1, 1, 0, 0, 0]).checkOk = true
    ∧ ((between .active 1 (some 0)).cells.get? (32 * 0 + 0)).isSome = true := by decide

/-- Position 9 polled, where no cell is configured any more: no answer, and an answer with one report. -/
theorem witness_PollAnswerStatus_removed :
    let s := between .active 1 (some 9)
    let b : List Byte := [9, 200, 0, 0, 1, 0x4E, 4, 0, 0]
    s.cells.get? (32 * (0 : TrunkId).val + 9) = none ∧ (s.trunk 0).polled = some ⟨9, false⟩
    ∧ s.held = false
    ∧ (s.trunk 0).state.serving = true ∧ (s.trunk 0).awaiting = true ∧ (s.trunk 0).nextFrame ≠ 0
    ∧ parseAnswer [] = none ∧ parseAnswer b = some ⟨9, 200, 0, [], [[0x4E, 4, 0, 0]]⟩ := by decide

/-- Cell 9 polled, with a report of it in the intake, then removed and configured again. -/
def renewed : State :=
  let s := (between .active 1 (some 9)).setTrunk 0
    { (between .active 1 (some 9)).trunk 0 with intake := [⟨9, .depart 1, false⟩] }
  let s := State.removeCell { s with cells := s.cells.put 9 .reset } 9
  { s with cells := s.cells.put 9 .reset }

/-- R59, R64: the outcome of that poll has no effect on the new record, whose miss count stays 0 and
which stays UNHEARD, and the report of its answer sets UNKNOWN_CELL and counts as accepted. -/
theorem test_poll_of_removed_cell :
    let after := fun (b : List Byte) => renewed.settlePoll 0 ⟨9, true⟩ (up .silent b)
    (renewed.trunk 0).polled = some ⟨9, true⟩
    ∧ (after []).cells.get? 9 = some .reset ∧ ((after []).trunk 0).ack = 0
    ∧ (after [9, 200, 0, 0, 1, 0x4E, 4, 0, 0]).cells.get? 9 = some .reset
    ∧ ((after [9, 200, 0, 0, 1, 0x4E, 4, 0, 0]).trunk 0).flags.unknownCell = true
    ∧ ((after [9, 200, 0, 0, 1, 0x4E, 4, 0, 0]).trunk 0).ack = 1
    ∧ ((after [9, 200, 0, 0, 1, 0x4E, 4, 0, 0]).trunk 0).urgent = [] := by decide

/-- Cell 9 polled, removed and configured again: no answer, and an answer with one report. -/
theorem witness_PollAnswerStatus_renewed :
    renewed.held = false ∧ (renewed.trunk 0).state.serving = true ∧ (renewed.trunk 0).awaiting = true
    ∧ (renewed.trunk 0).polled = some ⟨9, true⟩ ∧ (renewed.trunk 0).nextFrame ≠ 0
    ∧ (renewed.cells.get? (32 * (0 : TrunkId).val + 9)).isSome = true ∧ parseAnswer [] = none
    ∧ parseAnswer [9, 200, 0, 0, 1, 0x4E, 4, 0, 0] = some ⟨9, 200, 0, [], [[0x4E, 4, 0, 0]]⟩ := by decide

/-- Frame 15 with a report in its slot and a poll. -/
theorem witness_MultiframeJudged_whole :
    let s := between .active 0 (some 0)
    s.held = false ∧ (s.trunk 0).state.framing = true ∧ (s.trunk 0).awaiting = true ∧ (s.trunk 0).nextFrame = 0
    ∧ (s.trunk 0).polled = some ⟨0, false⟩
    ∧ parseReport 0 [0x02, 6, 0, 1, 0, 0] = some ⟨0, .depart 1, false⟩ := by decide

/-- Reports of a poll answer: garbled, from an unknown cell, URGENT, placed, and with no intake entry
free. -/
theorem witness_PollAnswerStatus_reports :
    let s := fun n => bowl.setTrunk 0 { bowl.trunk 0 with intake := List.replicate n ⟨0, .depart 1, false⟩ }
    ([] : List Bool).headD false = false ∧ [true].headD false = true ∧ parseReport 0 [0x00, 4, 0, 0] = none
    ∧ parseReport 0 [0x4E, 4, 0, 0] = some ⟨9, .urgent, false⟩ ∧ bowl.configured 9 = false
    ∧ parseReport 0 [0x06, 4, 0, 0] = some ⟨0, .urgent, false⟩ ∧ bowl.configured 0 = true
    ∧ parseReport 0 [0x02, 6, 0, 1, 0, 0] = some ⟨0, .depart 1, false⟩
    ∧ ((s 31).trunk 0).intake.length < 32 ∧ 32 ≤ ((s 32).trunk 0).intake.length := by decide

/-- Frame 15 of each state, after a good and a bad multiframe, with counts 0 and 1. -/
theorem witness_MultiframeJudged :
    let s := fun st m g b => (between st 0 none).setTrunk 0
      { (between st 0 none).trunk 0 with marker := m, good := g, bad := b }
    (∀ st ∈ [TrunkState.aligning, .active, .lost], ∀ m ∈ [true, false], ∀ g ∈ [0, 1], ∀ b ∈ [0, 1],
      ((s st m g b).trunk 0).state = st ∧ ((s st m g b).trunk 0).state.framing = true
      ∧ ((s st m g b).trunk 0).awaiting = true ∧ ((s st m g b).trunk 0).nextFrame = 0
      ∧ ((s st m g b).trunk 0).polled = none ∧ ((s st m g b).trunk 0).marker = m
      ∧ ((s st m g b).trunk 0).good = g ∧ ((s st m g b).trunk 0).bad = b)
    ∧ (s .active true 0 0).held = false := by
  refine ⟨fun st _ m _ g _ b _ => ?_, rfl⟩
  cases st <;> simp_all [between, inState, TrunkState.framing]

/-! ### Witnesses: cells and reports -/

/-- CELL_SET bodies: a bad kind, a new cell with an override, a removal. -/
theorem witness_CellSetConfiguresRemoves :
    let bad : List Byte := [2, 1, 2, 0, 4, 0, 0, 0, 0, 0]
    let new : List Byte := [2, 3, 1, 63, 0, 2, 0x0F, 0xFF, 0x0F, 0xFE, 1, 2]
    let off := fun c : Byte => [c, 0, 0, 0, 4, 0, 0, 0, 0, 0]
    let free := { bowl with stations := .empty, cells := bowl.cells.put 5 .reset }
    (∀ b ∈ [bad, new, off 2, off 5, off 0],
      (taken free .W .cellSet b).Taking .W .cellSet (cmd .cellSet b))
    ∧ 1 < byteAt bad 2 ∧ byteAt new 1 % 2 = 1 ∧ numAt new 8 2 < numAt new 6 2 ∧ numAt new 6 2 ≤ 4095
    ∧ free.cells.get? 2 = none ∧ byteAt (off 2) 1 % 2 ≠ 1
    ∧ (free.cells.get? 5).map (fun x => x.attached + x.incoming) = some 0
    ∧ (free.cells.get? 0).map (fun x => x.attached + x.incoming) = some 1 := by
  refine ⟨fun b hb => taking _ _ _ _ rfl (by revert b; decide), by decide, by decide, by decide, by decide,
    by decide, by decide, by decide, by decide⟩

/-- Cell 0, with one station, rewritten with another section, as it stands, and with an override and
neighbours that name the cell itself and cell 1 twice. -/
theorem witness_CellRewriteSettlesStations :
    (∀ b ∈ [[0, 1, 0, 2, 4, 0, 0, 0, 0, 0], [0, 1, 0, 1, 9, 0, 0, 0, 0, 0],
        [0, 3, 0, 1, 9, 3, 0x0F, 0xFF, 0x0F, 0xFE, 1, 0, 1]],
      (taken bowl .W .cellSet b).Taking .W .cellSet (cmd .cellSet b) ∧ byteAt b 1 % 2 = 1
      ∧ ¬ (1 < byteAt b 2 ∨ 63 < byteAt b 3 ∨ 6 < byteAt b 5 ∨ (byteAt b 1 / 2 % 2 = 1
        ∧ (4095 < numAt b 6 2 ∨ 4095 < numAt b 8 2 ∨ numAt b 6 2 ≤ numAt b 8 2))))
    ∧ bowl.stations.wf = true ∧ (bowl.cells.get? 0).map (fun x => x.section_) = some 1
    ∧ (bowl.station? 0).map (fun r => r.cell) = some 0 ∧ (bowl.station? 1).map (fun r => r.cell) = some 1 := by
  refine ⟨fun b hb => ⟨taking _ _ _ _ rfl (by revert b; decide), by revert b; decide,
    by revert b; decide⟩, by decide, by decide, by decide, by decide⟩

/-- Lists of 32 positions and of 33, positions 31 and 32; urgent sets with 3 and with 4 positions. -/
theorem witness_PollCommands :
    let list := fun (n : Nat) (pos : Byte) => [0, BitVec.ofNat 8 n] ++ List.replicate n pos
    (∀ b ∈ [list 32 31, list 33 31, list 1 32],
      (taken bowl .W .pollListSet b).Taking .W .pollListSet (cmd .pollListSet b))
    ∧ byteAt (list 32 31) 1 ≤ 32 ∧ 32 < byteAt (list 33 31) 1
    ∧ (∀ pos ∈ ((list 32 31).drop 2).map BitVec.toNat, pos ≤ 31) ∧ 31 < (32 : Byte).toNat
    ∧ (∀ c ∈ [0, 200], (taken bowl .W .pollUrgent [c]).Taking .W .pollUrgent (cmd .pollUrgent [c]))
    ∧ bowl.configured 200 = false ∧ bowl.configured 0 = true
    ∧ (∀ u ∈ [[1, 2, 3], [1, 2, 3, 4], [0]],
        ((bowl.setTrunk 0 { bowl.trunk 0 with urgent := u }).trunk 0).urgent = u)
    ∧ ((inState bowl 0 .off).trunk 0).state = .off := by
  refine ⟨fun b hb => taking _ _ _ _ rfl (by revert b; decide), by decide, by decide, by decide, by decide,
    fun c hc => taking _ _ _ _ rfl (by revert c; decide), by decide, by decide, by decide, by decide⟩

/-- The refused LOAD_SET of section 5.5, the accepted one, and one of a wrong length. -/
theorem witness_LoadSetChecked :
    let b := fun lo : Nat => [0x86, 0x3C] ++ beBytes 2 2500 ++ beBytes 2 lo ++ beBytes 2 3600 ++ beBytes 2 3000
    (taken .reset .W .loadSet (b 2500)).Taking .W .loadSet (cmd .loadSet (b 2500))
    ∧ (taken .reset .W .loadSet (b 2499)).Taking .W .loadSet (cmd .loadSet (b 2499))
    ∧ numAt (b 2500) 2 2 % 4096 ≤ numAt (b 2500) 4 2 % 4096
    ∧ numAt (b 2499) 4 2 % 4096 < numAt (b 2499) 2 2 % 4096
    ∧ numAt (b 2499) 8 2 % 4096 < numAt (b 2499) 6 2 % 4096
    ∧ (taken .reset .W .loadSet [1]).Heads .W .loadSet (cmd .loadSet [1]) ∧ (cmd .loadSet [1]).kind = 1
    ∧ (cmd .loadSet [1]).body.length ≠ 10 :=
  ⟨taking _ _ _ _ rfl (by decide), taking _ _ _ _ rfl (by decide), by decide, by decide, by decide,
    ⟨rfl, rfl, rfl, rfl⟩, rfl, by decide⟩

/-- Trunk 0 with `n` control messages queued. -/
def queued (n : Nat) : State :=
  bowl.setTrunk 0 { bowl.trunk 0 with control := List.replicate n ⟨none, .roamRelease 0⟩ }

theorem queued_length (n : Nat) : ((queued n).trunk 0).control.length = n := by simp [queued]

theorem witness_ControlMessageAppended :
    (0 : TrunkId).val = 31 / 32 ∧ ((queued 511).trunk 0).state = .active
    ∧ ((queued 511).trunk 0).control.length < 512 ∧ 512 ≤ ((queued 512).trunk 0).control.length
    ∧ ((queued 512).trunk 0).flags.controlOverflow = false
    ∧ ((inState bowl 0 .aligning).trunk 0).state ≠ .active
    ∧ ((inState bowl 0 .aligning).trunk 0).state ≠ .lost := by
  refine ⟨by decide, rfl, by rw [queued_length]; decide, Nat.le_of_eq (queued_length 512).symm, rfl, by decide,
    by decide⟩

/-- A report of a cell that is not configured, one that names station 1 from cell 0, and no report. -/
theorem witness_ReportsTakenInTurn :
    (reported bowl 9 (.depart 1)).Takes 0 ⟨9, .depart 1, false⟩
    ∧ (reported bowl 9 (.depart 1)).configured 9 = false
    ∧ (reported bowl 0 (.depart 1)).Takes 0 ⟨0, .depart 1, false⟩ ∧ (ReportBody.depart 1).index? = some 1
    ∧ (∀ r, (reported bowl 0 (.depart 1)).station? 1 = some r →
        r.cell ≠ 0 ∧ ∀ m, r.roam = some m → m.pending ≠ 0)
    ∧ ∀ t, (State.reset.trunk t).intake = [] :=
  ⟨takes _ _ _ rfl, by decide, takes _ _ _ rfl, rfl, fun r h => by cases h; simp, by decide⟩

/-- A report of cell 9, which has been removed since and configured again. -/
theorem witness_ReportsTakenInTurn_renewed :
    renewed.Takes 0 ⟨9, .depart 1, true⟩ ∧ renewed.configured 9 = true :=
  ⟨⟨rfl, by decide, fun u h => absurd h (by simp [show renewed.pointer = 0 from rfl])⟩, by decide⟩

/-- The bowl with cell 0 in each situation of the admission check. -/
def cellOf (f : Cell → Cell) : State := bowl.modCell 0 f

theorem witness_AdmissionDecides :
    (cellOf fun r => { r with live := .silent }).admission false false 0 = .deny .cellDown
    ∧ bowl.admission true false 0 = .deny .fenced
    ∧ (cellOf fun r => { r with attached := 4 }).admission false false 0 = .steer 1 false
    ∧ (cellOf fun r => { r with attached := 4, neighbours := [] }).admission false false 0 = .deny .full
    ∧ (cellOf fun r => { r with load := .crowded }).admission false false 0 = .steer 1 true
    ∧ (cellOf fun r => { r with load := .crowded }).admission false true 0 = .accept
    ∧ (cellOf fun r => { r with attached := 3 }).admission false false 0 = .accept := by decide

/-- An unknown phone at cell 0: each outcome of the check, with and without a carried token. -/
theorem witness_AssocOfUnknownPhone :
    let s := fun v (k : Option Token) => reported v 0 (.assoc 0xB0 k)
    (∀ v ∈ [bowl, cellOf fun r => { r with live := .silent }, cellOf fun r => { r with load := .crowded }],
      ∀ k ∈ [none, some 6], (s v k).Takes 0 ⟨0, .assoc 0xB0 k, false⟩ ∧ (s v k).configured 0 = true
        ∧ (s v k).stationAt? 0xB0 = none ∧ (s v k).stations.wf = true
        ∧ (s v k).stations.entries.length < 16384)
    ∧ (s bowl none).admission false false 0 = .accept
    ∧ (s (cellOf fun r => { r with live := .silent }) none).admission false false 0 = .deny .cellDown
    ∧ (s (cellOf fun r => { r with load := .crowded }) none).admission false false 0 = .steer 1 true := by
  refine ⟨fun v hv k hk => ?_, by decide, by decide, by decide⟩
  simp only [List.mem_cons, List.not_mem_nil, or_false] at hv hk
  rcases hv with rfl | rfl | rfl <;> rcases hk with rfl | rfl <;>
    exact ⟨takes _ _ _ rfl, by decide, by decide, by decide, by decide⟩

/-- The bowl with `n` stations at cell 0. -/
def crowd (n : Nat) : State :=
  { bowl with stations := ⟨(List.range n).map fun i =>
      (i, ⟨BitVec.ofNat 48 i, 0, none, .unbound, [], .none, 0, none, none⟩)⟩ }

theorem crowd_size (n : Nat) : (crowd n).stations.entries.length = n := by simp [crowd]

/-- A table with every place taken. -/
theorem witness_AssocOfUnknownPhone_full : 16384 ≤ (crowd 16384).stations.entries.length :=
  Nat.le_of_eq (crowd_size 16384).symm

/-- Station 1 with a roam toward cell 0, or toward a third cell. -/
def roaming (s : State) (dest : CellId) : State :=
  s.putStation 1 ⟨0xA1, 1, some ⟨dest, 0⟩, .bound 5, [0], .full, 0, none, none⟩

/-- Station 1 at its own cell, at its pending cell, at its old cell, at a third cell, and SETTLED at
another cell. -/
theorem witness_AssocOfKnownPhone :
    let s := fun v x (k : Option Token) => reported v x (.assoc 0xA1 k)
    (∀ v x k, v.held = false → (s v x k).Takes 0 ⟨x, .assoc 0xA1 k, false⟩)
    ∧ (∀ v ∈ [bowl, roaming bowl 0, roaming bowl 2], ∀ x ∈ [0, 1], (s v x none).configured x = true
      ∧ (s v x none).stations.wf = true ∧ ((s v x none).stationAt? 0xA1).map Prod.fst = some 1)
    ∧ (bowl.station? 1).map (fun r => (r.roam, r.cell)) = some (none, 1)
    ∧ ((roaming bowl 0).station? 1).map (fun r => (r.roam, r.cell)) = some (some ⟨0, 0⟩, 1)
    ∧ ((roaming bowl 2).station? 1).map (fun r => (r.roam, r.cell)) = some (some ⟨2, 0⟩, 1)
    ∧ (s bowl 0 none).admission false false 0 = .accept := by
  refine ⟨fun v x k h => takes _ _ _ h, by decide, by decide, by decide, by decide, by decide⟩

/-! ### Witnesses: stations -/

/-- A roam from cell 1 to cell 0 at the timeout (200 ms are 50 units) and one unit before. -/
theorem witness_RoamCompleted :
    let s := fun n => { roaming bowl 0 with now := n }
    (s 50).held = false ∧ bowl.station? 9 = none
    ∧ (bowl.station? 1).map (fun r => r.roam) = some none
    ∧ ((s 50).station? 1).map (fun r => (r.roam, r.cell)) = some (some ⟨0, 0⟩, 1)
    ∧ elapsed (s 49).now 0 < (s 49).timers.roamTimeout / 4
    ∧ (s 50).timers.roamTimeout / 4 ≤ elapsed (s 50).now 0
    ∧ (reported (roaming bowl 0) 1 (.depart 1)).Takes 0 ⟨1, .depart 1, false⟩
    ∧ (reported (roaming bowl 0) 1 (.depart 1)).configured 1 = true := by
  refine ⟨by decide, by decide, by decide, by decide, by decide, by decide, takes _ _ _ rfl, by decide⟩

/-- Station 1 SETTLED (aged at 120 s, 30,000 units, detached, departing) and ROAMING toward cell 0. -/
theorem witness_StationRemoved :
    bowl.stations.wf = true ∧ (bowl.station? 1).map (fun r => (r.roam, r.cell)) = some (none, 1)
    ∧ bowl.held = false ∧ bowl.timers.ageLimit * 250 ≤ elapsed 30000 0
    ∧ elapsed 29999 0 < bowl.timers.ageLimit * 250 ∧ bowl.station? 2 = none
    ∧ (taken bowl .W .stationDetach [0, 1, 0, 0, 0, 0, 0, 0xA1]).Taking .W .stationDetach
        (cmd .stationDetach [0, 1, 0, 0, 0, 0, 0, 0xA1])
    ∧ numAt [0, 1, 0, 0, 0, 0, 0, 0xA1] 0 2 = 1 ∧ numAt [0, 1, 0, 0, 0, 0, 0, 0xA1] 2 6 = 0xA1
    ∧ (reported bowl 1 (.depart 1)).Takes 0 ⟨1, .depart 1, false⟩ ∧ bowl.configured 1 = true
    ∧ (reported (roaming bowl 0) 0 (.depart 1)).Takes 0 ⟨0, .depart 1, false⟩
    ∧ (roaming bowl 0).configured 0 = true
    ∧ ((roaming bowl 0).station? 1).map (fun r => (r.roam, r.cell)) = some (some ⟨0, 0⟩, 1) := by
  refine ⟨by decide, by decide, by decide, by decide, by decide, by decide, taking _ _ _ _ rfl (by decide),
    by decide, by decide, takes _ _ _ rfl, by decide, takes _ _ _ rfl, by decide, by decide⟩

theorem witness_GraceAndHoldExpire :
    let s := bowl.putStation 0 ⟨0xA0, 0, none, .unbound, [], .none, 0, some 0, some 5000⟩
    s.held = false ∧ s.station? 2 = none ∧ (s.station? 1).map (fun r => (r.grace, r.steerHold)) = some (none, none)
    ∧ (s.station? 0).map (fun r => (r.grace, r.steerHold, r.tier)) = some (some 0, some 5000, .none)
    ∧ elapsed 14999 0 < s.timers.seatGrace * 250 ∧ s.timers.seatGrace * 250 ≤ elapsed 15000 0
    ∧ ((5000 : Time) - 5000).toNat < 2 ^ 31 ∧ 2 ^ 31 ≤ ((4999 : Time) - 5000).toNat := by decide


/-- A part with both bowl stations: one of them BOUND, both in the tables. -/
theorem witness_StationClearEmpties :
    (taken bowl .W .stationClear []).Taking .W .stationClear (cmd .stationClear [])
    ∧ (taken bowl .W .stationClear []).stations.wf = true := ⟨taking _ _ _ _ rfl (by decide), by decide⟩

/-! ### Witnesses: tickets -/

/-- A load entry: token, section, tier, home present and home. -/
def entry (token section_ tier present : Nat) : List Byte :=
  beBytes 8 token ++ [BitVec.ofNat 8 section_, BitVec.ofNat 8 tier, BitVec.ofNat 8 present, 9]

/-- Each check of an entry at its boundary, and bodies of 0, 16 and 17 entries. -/
theorem witness_TicketLoadDecidesEntries :
    (numAt (entry 0 63 1 0) 0 8 = 0 ∧ 63 < byteAt (entry 7 64 1 0) 8 ∧ byteAt (entry 7 63 3 0) 9 = 3
      ∧ 1 < byteAt (entry 7 63 2 2) 10)
    ∧ (numAt (entry 7 63 2 1) 0 8 = 7 ∧ byteAt (entry 7 63 2 1) 8 = 63 ∧ byteAt (entry 7 63 2 1) 9 = 2
      ∧ byteAt (entry 7 63 2 1) 10 = 1)
    ∧ bowl.ticket? 5 ≠ none ∧ bowl.ticket? 7 = none ∧ bowl.tickets.entries.length < 12288
    ∧ 12288 ≤ ({ bowl with tickets := ⟨List.replicate 12288 (5, ⟨1, none, .full, .issued, 0⟩)⟩ }
        ).tickets.entries.length
    ∧ (∀ n ∈ [0, 16, 17], (taken bowl .T .ticketLoad
          (BitVec.ofNat 8 n :: List.replicate (12 * n) 1)).Taking .T .ticketLoad
          (cmd .ticketLoad (BitVec.ofNat 8 n :: List.replicate (12 * n) 1)))
    ∧ byteAt (16 :: List.replicate (12 * 16) 1) 0 ≤ 16 ∧ 16 < byteAt (17 :: List.replicate (12 * 17) 1) 0 := by
  refine ⟨by decide, by decide, by decide, by decide, by decide,
    Nat.le_of_eq (by rw [List.length_replicate]),
    fun n hn => taking _ _ _ _ rfl (by revert n; decide +kernel), by decide, by decide⟩

/-- Ticket 6 in each state; the holder of ticket 5 one unit before it is stale (30 s are 7,500 units)
and just stale. -/
theorem witness_GateCommandsDecide :
    let s := fun st => bowl.putTicket 6 ⟨1, some 0, .lean, st, 255⟩
    (∀ c ∈ [Command.gateAdmit, .gateExit, .ticketVoid], ∀ k ∈ [5, 6],
      (∀ v, v.held = false → (taken v .T c (beBytes 8 k)).Taking .T c (cmd c (beBytes 8 k)))
      ∧ tokenOf (cmd c (beBytes 8 k)) = BitVec.ofNat 64 k)
    ∧ (∀ st, ((s st).ticket? 6).map (fun x => x.state) = some st)
    ∧ (bowl.ticket? 5).map (fun x => x.state) = some (.seated 1)
    ∧ (bowl.station? 1).map (fun r => r.lastHeard) = some 0
    ∧ elapsed 7499 0 < bowl.timers.window * 250 ∧ bowl.timers.window * 250 ≤ elapsed 7500 0 := by
  refine ⟨fun c hc k hk => ⟨fun v hv => taking _ _ _ _ hv (by revert k; revert c; decide),
    by revert k; revert c; decide⟩, fun st => rfl, by decide, by decide, by decide, by decide⟩

theorem witness_TicketClearEmpties :
    (taken bowl .T .ticketClear []).Taking .T .ticketClear (cmd .ticketClear [])
    ∧ (taken bowl .T .ticketClear []).stations.wf = true
    ∧ (bowl.station? 0).map (fun r => r.isBound) = some false
    ∧ (bowl.station? 1).map (fun r => r.isBound) = some true ∧ bowl.station? 2 = none :=
  ⟨taking _ _ _ _ rfl (by decide), by decide, by decide, by decide, by decide⟩

/-- Station 0 (UNBOUND) and station 1 (BOUND to 5) present a token at their cells: one not loaded,
ticket 6 in each state, ticket 5 with a fresh and with a stale holder. -/
theorem witness_PresentationDecided :
    let s := fun st now => { bowl.putTicket 6 ⟨1, none, .full, st, 1⟩ with now := now }
    (∀ st now i x k, (reported (s st now) x (.presentTicket i k)).Takes 0 ⟨x, .presentTicket i k, false⟩)
    ∧ (∀ x ∈ [0, 1], bowl.configured x = true)
    ∧ (bowl.station? 0).map (fun r => (r.cell, r.binding)) = some (0, .unbound)
    ∧ (bowl.station? 1).map (fun r => (r.cell, r.binding)) = some (1, .bound 5) ∧ (5 : Token) ≠ 6
    ∧ (∀ st, (s st 0).ticket? 7 = none ∧ ((s st 0).ticket? 6).map (fun y => y.state) = some st)
    ∧ ((s .void 0).ticket? 5).map (fun y => y.state) = some (.seated 1)
    ∧ elapsed (s .void 7499).now 0 < bowl.timers.window * 250
    ∧ bowl.timers.window * 250 ≤ elapsed (s .void 7500).now 0 := by
  refine ⟨fun st now i x k => takes _ _ _ rfl, by decide, by decide, by decide, by decide,
    fun st => ⟨rfl, rfl⟩, by decide, by decide, by decide⟩

/-! ### Witnesses: fan-out -/

/-- A station with some subscriptions and a tier at cell 1, SETTLED or with cell 0 pending. -/
def watcher (subs : List StreamId) (tier : Level) (roam : Option Roam) : State :=
  bowl.putStation 1 ⟨0xA1, 1, roam, .unbound, subs, tier, 0, none, none⟩

theorem witness_SubscriptionsDecided :
    (∀ v n, v.held = false → (reported v 1 (.subscribe 1 n)).Takes 0 ⟨1, .subscribe 1 n, false⟩
      ∧ (reported v 1 (.unsubscribe 1 n)).Takes 0 ⟨1, .unsubscribe 1 n, false⟩
      ∧ (reported v 0 (.subscribe 1 n)).Takes 0 ⟨0, .subscribe 1 n, false⟩
      ∧ (reported v 0 (.unsubscribe 1 n)).Takes 0 ⟨0, .unsubscribe 1 n, false⟩)
    ∧ bowl.configured 0 = true ∧ bowl.configured 1 = true
    ∧ (∀ tier, (((watcher [1, 2, 3] tier none).station? 1).map
          (fun r => (r.cell, r.pendingAt 1, r.subs.length, r.tier)) = some (1, false, 3, tier))
      ∧ (((watcher [1, 2, 3, 4] tier none).station? 1).map (fun r => r.subs.length) = some 4)
      ∧ (((watcher [0] tier (some ⟨0, 0⟩)).station? 1).map (fun r => r.pendingAt 0) = some true))
    ∧ (bowl.stream 0).state = .opened ∧ (bowl.stream 15).state ≠ .opened ∧ (15 : StreamId).val = 15
    ∧ (0 : StreamId) ∉ ([1, 2, 3] : List StreamId) ∧ (0 : StreamId) ∈ ([0] : List StreamId) := by
  refine ⟨fun v n h => ⟨takes _ _ _ h, takes _ _ _ h, takes _ _ _ h, takes _ _ _ h⟩, by decide, by decide,
    fun tier => ⟨rfl, rfl, rfl⟩, by decide, by decide, rfl, by decide, by decide⟩

/-- A recompute that changes the stored demand and one that does not. -/
theorem witness_DemandRecomputed : (bowl.recompute 0).sectorDemand 0 ≠ bowl.sectorDemand 0
    ∧ (bowl.recompute 1).sectorDemand 1 = bowl.sectorDemand 1 ∧ (1 : StreamId) ≠ 0 := by decide

/-- The bowl with an upload on stream 0 that expects chunk `next`, and a held segment; both of two
chunks. -/
def uploading (next : Nat) : State := { bowl with
  descs := ⟨[(0, ⟨.held, 0, 1, 3, 2, 0, [0, 1]⟩), (1, ⟨.uploading next, 0, 2, 0, 2, 0, [2, 3]⟩)]⟩
  used := [0, 1, 2, 3], release := [0]
  streams := State.reset.streams.set 0 ⟨.opened, some 2, 2, 0⟩ }

theorem witness_StreamsClosed :
    (∀ v ∈ [uploading 0, State.reset],
      (taken v .V .streamClose [0]).Taking .V .streamClose (cmd .streamClose [0]))
    ∧ byteAt (cmd .streamClose [0]).body 0 = (0 : StreamId).val
    ∧ (uploading 0).descs.wf = true ∧ ((uploading 0).stream 0).state = .opened
    ∧ (State.reset.stream 0).state ≠ .opened
    ∧ (uploading 0).upload? 0 = some (1, ⟨.uploading 0, 0, 2, 0, 2, 0, [2, 3]⟩, 0)
    ∧ 0 ∈ (uploading 0).release ∧ ((uploading 0).desc? 0).map (fun r => (r.stream, r.state)) = some (0, .held)
    ∧ (uploading 0).held = false ∧ (uploading 0).grace = none
    ∧ ({ uploading 0 with grace := some 0 }).grace = some 0 ∧ elapsed 499 0 < 500 ∧ 500 ≤ elapsed 500 0 := by
  refine ⟨fun v hv => taking _ _ _ _ ?_ (by decide), by decide, by decide, by decide, by decide, by decide,
    by decide, by decide, rfl, rfl, rfl, by decide, by decide⟩
  simp only [List.mem_cons, List.not_mem_nil, or_false] at hv
  rcases hv with rfl | rfl <;> rfl

/-! ### Witnesses: replay -/

/-- A SEG_BEGIN body on stream 0. -/
def begin_ (seq mark nL nX : Nat) : List Byte :=
  [0, 0] ++ beBytes 2 seq ++ beBytes 2 mark ++ beBytes 2 nL ++ beBytes 2 nX

/-- Every SEG_BEGIN is taken; the states and the boundary values of its checks; the uploads that
SEG_DATA and SEG_ABORT act on. -/
theorem witness_StreamUploads :
    (∀ v seq mark nL nX, v.held = false →
      (taken v .V .segBegin (begin_ seq mark nL nX)).Taking .V .segBegin
        (cmd .segBegin (begin_ seq mark nL nX)))
    ∧ (∀ v, v.held = false → (taken v .V .streamOpen [0]).Taking .V .streamOpen (cmd .streamOpen [0])
      ∧ (taken v .V .segAbort [0]).Taking .V .segAbort (cmd .segAbort [0]))
    ∧ (State.reset.stream 0).state = .closed ∧ (bowl.stream 0).state = .opened ∧ bowl.upload? 0 = none
    ∧ (uploading 1).upload? 0 = some (1, ⟨.uploading 1, 0, 2, 0, 2, 0, [2, 3]⟩, 1)
    ∧ ((2 : Seq) - 2).toNat = 0 ∧ ((0x8000 : Seq) - 0).toNat = 32768 ∧ ((0x7FFF : Seq) - 0).toNat = 32767
    ∧ ((bowl.marks.count - (1024 : Mark)).toInt = -1024 ∧ (bowl.marks.count - (1025 : Mark)).toInt < -1024)
    ∧ (∀ n ∈ [(1, 0), (255, 769)], numAt (begin_ 1 0 n.1 n.2) 6 2 = n.1 ∧ numAt (begin_ 1 0 n.1 n.2) 8 2 = n.2
        ∧ ¬ (n.1 = 0 ∨ 255 < n.1 ∨ 769 < n.2 ∨ 1024 < n.1 + n.2))
    ∧ (∀ n ∈ [(0, 1), (256, 0), (1, 770)], n.1 = 0 ∨ 255 < n.1 ∨ 769 < n.2 ∨ 1024 < n.1 + n.2)
    ∧ bowl.descs.entries.length < 256 ∧ bowl.used.length + (255 + 769) ≤ 16384
    ∧ 256 ≤ ({ bowl with descs := ⟨List.replicate 256 (0, ⟨.held, 0, 1, 3, 2, 0, [0, 1]⟩)⟩ }
        ).descs.entries.length
    ∧ bowl.used.Pairwise (· < ·) ∧ bowl.descs.wf = true ∧ (uploading 1).descs.wf = true := by
  refine ⟨fun v seq mark nL nX h => taking _ _ _ _ h ?_,
    fun v h => ⟨taking _ _ _ _ h (by decide), taking _ _ _ _ h (by decide)⟩, by decide, by decide, by decide,
    by decide, by decide, by decide, by decide, by decide, by decide, by decide, by decide, by decide,
    Nat.le_of_eq (by rw [List.length_replicate]), by decide, by decide, by decide⟩
  rfl

/-- SEG_DATA with the expected chunk number, with another, and when all have come. -/
theorem witness_StreamUploads_data :
    let b := fun n : Byte => [0, 0, 0, n] ++ List.replicate 256 0x5A
    (∀ next ∈ [1, 2], ∀ n ∈ [1, 2, 3],
      (taken (uploading next) .V .segData (b n)).Taking .V .segData (cmd .segData (b n)))
    ∧ numAt (b 1) 2 2 = 1 ∧ numAt (b 2) 2 2 ≠ 1 ∧ numAt (b 2) 2 2 = 2 ∧ 1 < 2 + 0 ∧ 2 + 0 ≤ 2
    ∧ Memory.wf (uploading 1).segMem = true := by
  refine ⟨fun next _ n hn => taking _ _ _ _ rfl (by revert n; decide +kernel), by decide, by decide,
    by decide, by decide, by decide, by decide⟩

/-- The upload complete and incomplete; the present mark in the window of each outcome (its mark is 0
and the stale limit 8; the held segment has mark 3). -/
theorem witness_SegmentEnded :
    let s := fun next count => { uploading next with marks := { MarkCounter.reset with count := count } }
    (∀ next count, (taken (s next count) .V .segEnd [0]).Taking .V .segEnd (cmd .segEnd [0]))
    ∧ byteAt (cmd .segEnd [0]).body 0 = (0 : StreamId).val
    ∧ (∀ next count, (s next count).descs.wf = true
        ∧ (s next count).upload? 0 = some (1, ⟨.uploading next, 0, 2, 0, 2, 0, [2, 3]⟩, next))
    ∧ bowl.upload? 0 = none
    ∧ (s 2 0).wantedOn 0 ≠ [] ∧ ({ s 2 0 with fan := .empty }).wantedOn 0 = []
    ∧ ((8 : Mark) - 0).toInt = 8 ∧ ((9 : Mark) - 0).toInt = 9 ∧ ((65535 : Mark) - 0).toInt = -1
    ∧ ((64512 : Mark) - 0).toInt = -1024 ∧ ((64511 : Mark) - 0).toInt < -1024 := by
  refine ⟨fun next count => taking _ _ _ _ rfl (by decide), by decide, fun _ _ => ⟨rfl, rfl⟩, by decide, by decide,
    by decide, by decide, by decide, by decide, by decide, by decide⟩

/-- A mark event that reaches the held segment of mark 3, and the two sources and modes. -/
theorem witness_MarksCounted :
    (uploading 2).descs.wf = true
    ∧ (∀ v, v.held = false → (taken v .V .mark []).Taking .V .mark (cmd .mark []))
    ∧ ({ bowl with marks := ⟨0, .portV, .stopped, 10, none, 8⟩ }).marks.source = .portV
    ∧ bowl.marks.source = .internal
    ∧ (∀ a ∈ [(0 : Byte), 1, 2], ∀ b ∈ [(0 : Byte), 1, 2],
        (taken bowl .V .markSet [a, b, 0, 0, 0, 65]).Taking .V .markSet (cmd .markSet [a, b, 0, 0, 0, 65]))
    ∧ (∀ mode, ({ bowl with marks := ⟨0, .internal, mode, 10, some 10, 8⟩ }).marks.mode = mode)
    ∧ bowl.held = false ∧ bowl.marks.next = some 10 ∧ ((10 : Time) - 10).toNat < 2 ^ 31
    ∧ 2 ^ 31 ≤ ((9 : Time) - 10).toNat ∧ bowl.marks.mode = .periodic := by
  refine ⟨by decide, fun v h => taking _ _ _ _ h (by decide), rfl, rfl,
    fun a ha b hb => taking _ _ _ _ rfl (by revert b; revert a; decide), fun _ => rfl, rfl, rfl, by decide,
    by decide, rfl⟩

theorem witness_ReleaseFollowsDemand :
    (uploading 0).desc? 0 = some ⟨.held, 0, 1, 3, 2, 0, [0, 1]⟩ ∧ (uploading 0).descs.wf = true
    ∧ (uploading 0).trunkDemand 0 0 ≠ .none
    ∧ ∀ t, ({ uploading 0 with fan := .empty }).trunkDemand t 0 = .none := by decide

theorem witness_ReplayClearEmpties :
    (taken (uploading 1) .V .replayClear []).Taking .V .replayClear (cmd .replayClear [])
    ∧ ((uploading 1).stream 0).state = .opened :=
  ⟨taking _ _ _ _ rfl (by decide), by decide⟩

/-! ### Witnesses: the laws that every step keeps -/

/-- The bowl with a command, a response and a notice on Port V, an upload and a held segment, and a
queue of one command. -/
def live (i : Instr) : State :=
  { uploading 1 with
    ports := ⟨.reset, .reset, { Port.reset with
      link := .up, waiting := [cmd .mark []], responses := [resp 0], notices := [note 1], credit := 14 }⟩
    segMem := [(0, 5), (700, 9)]
    pending := [i] }

theorem witness_PortsStaySound : (live (.outboundSend .V)).PortsSound
    ∧ ∃ u, step (live (.outboundSend .V)) = .next u :=
  ⟨fun p => by cases p <;> exact ⟨by decide, by decide, by decide⟩, _, rfl⟩

theorem witness_TrunksStaySound : (live (.trunkReset .W)).TrunksSound
    ∧ ∃ u, step (live (.trunkReset .W)) = .next u := by
  refine ⟨fun t => ?_, _, rfl⟩
  by_cases h : t = 0
  · subst h; constructor <;> decide
  · have e : (live (.trunkReset .W)).trunk t = .reset := by revert t; decide
    rw [e]; constructor <;> decide

theorem witness_TablesStaySound : (live (.mark .V)).TablesSound ∧ ∃ u, step (live (.mark .V)) = .next u := by
  refine ⟨?_, _, rfl⟩
  constructor <;> decide

/-- The two stations of the bowl. -/
theorem bowl_station (i : StationIx) (r : Station) (h : bowl.station? i = some r) :
    (i = 0 ∧ r = ⟨0xA0, 0, none, .unbound, [], .none, 0, some 0, none⟩)
      ∨ (i = 1 ∧ r = ⟨0xA1, 1, none, .bound 5, [0], .full, 0, none, none⟩) := by
  simp only [bowl, State.station?, Table.get?, assocGet] at h
  split at h
  · next e => cases h; exact .inl ⟨e.symm, rfl⟩
  · split at h
    · next e => cases h; exact .inr ⟨e.symm, rfl⟩
    · cases h

theorem witness_TicketLawKept : ({ bowl with pending := [.reportTake] }).TicketLaw
    ∧ ∃ u, step { bowl with pending := [.reportTake] } = .next u := by
  refine ⟨⟨by decide, by decide, ?_, ?_⟩, _, rfl⟩
  · intro i r k h hb
    rcases bowl_station i r h with ⟨rfl, rfl⟩ | ⟨rfl, rfl⟩
    · cases hb
    · cases hb; exact ⟨rfl, _, rfl, rfl⟩
  · intro k t h ht hs
    simp only [bowl, State.ticket?, Table.get?, assocGet] at ht
    split at ht
    · cases ht; cases hs
      have e : k = 5 := BitVec.eq_of_toNat_eq (by simpa using (by omega : k.toNat = 5))
      exact ⟨_, rfl, by rw [e]⟩
    · split at ht
      · cases ht; cases hs
      · cases ht

theorem witness_CountLawKept : ({ bowl with pending := [.ageExpiry 1] }).CountLaw
    ∧ ∃ u, step { bowl with pending := [.ageExpiry 1] } = .next u := by
  refine ⟨⟨by decide, by decide, ?_, ?_, ?_⟩, _, rfl⟩
  · intro i r h
    rcases bowl_station i r h with ⟨rfl, rfl⟩ | ⟨rfl, rfl⟩ <;> decide
  · intro i r m h hm
    rcases bowl_station i r h with ⟨rfl, rfl⟩ | ⟨rfl, rfl⟩ <;> cases hm
  · intro c x h
    simp only [bowl, Table.get?, assocGet] at h
    split at h
    · next e => cases h; subst e; decide
    · split at h
      · next e => cases h; subst e; decide
      · cases h

theorem witness_FanoutLawKept : ({ bowl with pending := [.ageExpiry 1] }).FanoutLaw
    ∧ ∃ u, step { bowl with pending := [.ageExpiry 1] } = .next u := by
  refine ⟨⟨by decide, by decide, ?_, ?_⟩, _, rfl⟩
  · intro i r h
    rcases bowl_station i r h with ⟨rfl, rfl⟩ | ⟨rfl, rfl⟩ <;> decide
  · intro c k
    by_cases h : c = 1 ∧ k = 0
    · obtain ⟨rfl, rfl⟩ := h; decide
    · have e : ¬ 16 = 16 * c + k.val := by
        intro e
        have hc : ∀ n m : Nat, m < 16 → 16 = 16 * n + m → n = 1 ∧ m = 0 := by omega
        exact h ⟨(hc c k.val k.isLt e).1, Fin.ext (hc c k.val k.isLt e).2⟩
      have z : (1 == c && decide (k = 0)) = false := by
        cases hc : (1 == c && decide (k = 0)) <;> simp_all
      have l : (Level.full == Level.lean) = false := rfl
      simp [bowl, State.counts, fanKey, Table.get?, assocGet, State.stationsWith, List.filter, e, z, l]

/-- The bowl with the demand that its one FULL watcher makes, before station 1 ages. -/
def lawful : State := { bowl with pending := [.ageExpiry 1], demand := State.reset.demand.set 0 .full }

theorem lawful_counts : lawful.CountLaw :=
  let h := witness_CountLawKept.1
  ⟨h.stations, h.cells, h.current, h.pending, h.counts⟩

theorem witness_FanoutLawKept_demand : lawful.CountLaw ∧ lawful.FanoutLaw ∧ lawful.DemandLaw
    ∧ lawful.sectorDemand 0 = .full ∧ ∃ u, step lawful = .next u := by
  let h := witness_FanoutLawKept.1
  refine ⟨lawful_counts, ⟨h.stations, h.fan, h.lists, h.counts⟩, ⟨?_, ?_⟩, by decide, _, rfl⟩ <;>
  · simp only [State.OnActive, State.IsCrowded]
    decide +kernel

theorem witness_FanoutLawKept_tier : lawful.TicketLaw ∧ lawful.CountLaw ∧ lawful.TierLaw
    ∧ ∃ u, step lawful = .next u := by
  let h := witness_TicketLawKept.1
  refine ⟨⟨h.stations, h.tickets, h.bound, h.seated⟩, lawful_counts, ⟨?_, ?_, ?_⟩, _, rfl⟩
  · intro i r e b
    rcases bowl_station i r e with ⟨rfl, rfl⟩ | ⟨rfl, rfl⟩ <;> cases b
  · intro i r e b
    rcases bowl_station i r e with ⟨rfl, rfl⟩ | ⟨rfl, rfl⟩
    · decide
    · cases b
  · intro i r k t e b ht
    rcases bowl_station i r e with ⟨rfl, rfl⟩ | ⟨rfl, rfl⟩
    · cases b
    · cases b; cases ht; decide

/-- Trunk 0 with a running idle timer, which needs its cells deserted, and trunk 1 with none. -/
def quiet : State := { State.reset with
  trunks := (State.reset.trunks.set 0 { Trunk.reset with
    state := .active, enable := true, idlePeriod := 10, idle := some 0 })
  cells := ⟨[(0, Cell.reset)]⟩, pending := [.sectorTimeTick] }

theorem witness_TrunksStaySound_idle : quiet.IdleLaw ∧ (quiet.trunk 0).idle = some 0
    ∧ (∃ u, step quiet = .next u) ∧ ({ bowl with pending := [.reportTake] }).IdleLaw := by
  refine ⟨⟨by decide, fun t => ?_⟩, by decide, ⟨_, rfl⟩, ⟨by decide, fun t => ?_⟩⟩ <;>
  · simp only [State.Deserted]
    revert t
    decide +kernel

/-- An upload of stream 0 that expects chunk 1, a segment held for mark 3, and one released on trunk 0
with one of its two chunks left. -/
def replaying : State :=
  { (uploading 1).setTrunk 0 { bowl.trunk 0 with
      replay := [2], allocation := some ⟨0, 1, [some ⟨2, 1⟩]⟩ } with
    descs := ⟨[(0, ⟨.held, 0, 1, 3, 2, 0, [0, 1]⟩), (1, ⟨.uploading 1, 0, 2, 0, 2, 0, [2, 3]⟩),
               (2, ⟨.released 1 (perTrunk fun t => if t = 0 then ⟨.full, 1⟩ else ⟨.none, 0⟩), 0, 3, 0, 1, 1,
                 [4, 5]⟩)]⟩
    used := [0, 1, 2, 3, 4, 5]
    streams := State.reset.streams.set 0 ⟨.opened, some 3, 3, 0⟩
    pending := [.generatorExpiry] }

theorem replaying_desc (d : DescIx) (r : Desc) (h : replaying.desc? d = some r) :
    (d = 0 ∧ r = ⟨.held, 0, 1, 3, 2, 0, [0, 1]⟩) ∨ (d = 1 ∧ r = ⟨.uploading 1, 0, 2, 0, 2, 0, [2, 3]⟩)
      ∨ (d = 2 ∧ r = ⟨.released 1 (perTrunk fun t => if t = 0 then ⟨.full, 1⟩ else ⟨.none, 0⟩), 0, 3, 0, 1,
          1, [4, 5]⟩) := by
  simp only [replaying, State.desc?, Table.get?, assocGet] at h
  split at h
  · next e => cases h; exact .inl ⟨e.symm, rfl⟩
  · split at h
    · next e => cases h; exact .inr (.inl ⟨e.symm, rfl⟩)
    · split at h
      · next e => cases h; exact .inr (.inr ⟨e.symm, rfl⟩)
      · cases h

theorem replaying_blocks : replaying.BlockLaw := by
  constructor
  · rfl
  · decide
  · intro d r h
    rcases replaying_desc d r h with ⟨rfl, rfl⟩ | ⟨rfl, rfl⟩ | ⟨rfl, rfl⟩ <;> decide
  · intro d e r q h g n
    rcases replaying_desc d r h with ⟨rfl, rfl⟩ | ⟨rfl, rfl⟩ | ⟨rfl, rfl⟩ <;>
    rcases replaying_desc e q g with ⟨rfl, rfl⟩ | ⟨rfl, rfl⟩ | ⟨rfl, rfl⟩ <;>
    first | exact absurd rfl n | decide
  · intro b
    constructor
    · intro h
      have h : b ∈ [0, 1, 2, 3, 4, 5] := h
      simp only [List.mem_cons, List.not_mem_nil, or_false] at h
      rcases h with rfl | rfl | rfl | rfl | rfl | rfl
      · exact ⟨0, _, rfl, by decide⟩
      · exact ⟨0, _, rfl, by decide⟩
      · exact ⟨1, _, rfl, by decide⟩
      · exact ⟨1, _, rfl, by decide⟩
      · exact ⟨2, _, rfl, by decide⟩
      · exact ⟨2, _, rfl, by decide⟩
    · rintro ⟨d, r, h, m⟩
      rcases replaying_desc d r h with ⟨rfl, rfl⟩ | ⟨rfl, rfl⟩ | ⟨rfl, rfl⟩ <;>
      · simp only [List.mem_cons, List.not_mem_nil, or_false] at m
        rcases m with rfl | rfl <;> simp [replaying]
  · intro k; revert k; decide
  · intro k; revert k; decide
  · intro k; revert k; decide
  · intro d r h _
    rcases replaying_desc d r h with ⟨rfl, rfl⟩ | ⟨rfl, rfl⟩ | ⟨rfl, rfl⟩ <;> rfl
  · intro d e r q n m h g a b _
    rcases replaying_desc d r h with ⟨rfl, rfl⟩ | ⟨rfl, rfl⟩ | ⟨rfl, rfl⟩ <;> cases a
    rcases replaying_desc e q g with ⟨rfl, rfl⟩ | ⟨rfl, rfl⟩ | ⟨rfl, rfl⟩ <;> cases b
    rfl

theorem replaying_release : replaying.ReleaseLaw := by
  constructor
  · decide
  · intro d
    constructor
    · intro h
      have h : d ∈ [0] := h
      rw [List.mem_singleton] at h
      subst h
      exact ⟨_, rfl, rfl⟩
    · rintro ⟨r, h, e⟩
      rcases replaying_desc d r h with ⟨rfl, rfl⟩ | ⟨rfl, rfl⟩ | ⟨rfl, rfl⟩
      · exact List.mem_singleton.2 rfl
      · cases e
      · cases e
  · intro d r h e
    rcases replaying_desc d r h with ⟨rfl, rfl⟩ | ⟨rfl, rfl⟩ | ⟨rfl, rfl⟩
    · decide
    · cases e
    · cases e
  · exact List.pairwise_singleton _ _

/-- Trunk 0 holds the released segment; the queues of the other trunks are empty. -/
theorem replaying_replay (t : TrunkId) : (replaying.trunk t).replay = if t = 0 then [2] else [] := by
  revert t; decide

theorem replaying_queue (d : DescIx) (t : TrunkId) (h : d ∈ (replaying.trunk t).replay) :
    d = 2 ∧ t = 0 := by
  rw [replaying_replay] at h
  split at h
  · next e => exact ⟨List.mem_singleton.1 h, e⟩
  · cases h

theorem replaying_queues : replaying.QueueLaw := by
  constructor
  · intro t
    refine ⟨by revert t; decide, fun d h => ?_⟩
    obtain ⟨rfl, rfl⟩ := replaying_queue d t h
    exact ⟨_, _, _, rfl, rfl⟩
  · intro d r n cs h e
    rcases replaying_desc d r h with ⟨rfl, rfl⟩ | ⟨rfl, rfl⟩ | ⟨rfl, rfl⟩ <;> cases e
    decide
  · intro d r n cs t h e m
    obtain ⟨rfl, rfl⟩ := replaying_queue d t m
    rcases replaying_desc 2 r h with ⟨g, _⟩ | ⟨g, _⟩ | ⟨_, rfl⟩
    · cases g
    · cases g
    · cases e; decide
  · intro d r n cs t h e m
    rcases replaying_desc d r h with ⟨rfl, rfl⟩ | ⟨rfl, rfl⟩ | ⟨rfl, rfl⟩ <;> cases e
    revert t; decide
  · intro t a e h m
    by_cases z : t = 0
    · subst z
      cases h
      simp only [List.mem_singleton, Option.some.injEq] at m
      subst m
      decide
    · have n : ∀ t : TrunkId, t ≠ 0 → (replaying.trunk t).allocation = none := by decide
      rw [n t z] at h
      cases h

theorem replaying_law : replaying.ReplayLaw :=
  ⟨replaying_blocks, replaying_release, replaying_queues⟩

theorem witness_TablesStaySound_replay :
    replaying.ReplayLaw ∧ ∃ u, step replaying = .next u :=
  ⟨replaying_law, _, rfl⟩

/-! ### Witnesses: replay, with a released segment -/

theorem witness_QueriesReportRecords_upload :
    (taken replaying .V .streamQuery [0]).Taking .V .streamQuery (cmd .streamQuery [0])
    ∧ replaying.upload? 0 = some (1, ⟨.uploading 1, 0, 2, 0, 2, 0, [2, 3]⟩, 1) ∧ replaying.upload? 1 = none :=
  ⟨taking _ _ _ _ rfl (by decide), by decide, by decide⟩

/-- A released segment that is in no release queue, and control queues with and without room. -/
theorem witness_StreamsClosed_released :
    (replaying.desc? 2).map (fun r => (r.stream, r.state.code)) = some (0, 3) ∧ 2 ∉ replaying.release
    ∧ (replaying.stream 0).state = .opened ∧ replaying.descs.wf = true
    ∧ (replaying.trunk 0).state = .active ∧ (replaying.trunk 0).control.length + 1 ≤ 512
    ∧ ((queued 512).trunk 0).state = .active ∧ ¬ ((queued 512).trunk 0).control.length < 512
    ∧ (replaying.trunk 1).state ≠ .active := by
  refine ⟨by decide, by decide, by decide, by decide, by decide, by decide, rfl, ?_, by decide⟩
  rw [queued_length]; decide

/-- The count one before the held mark 3, and so far on that the released segment of mark 0 is stale. -/
theorem witness_MarksCounted_released :
    let s := fun n => { replaying with marks := { replaying.marks with count := n } }
    (s 2).descs.wf = true ∧ 0 ∈ (s 2).release ∧ ((s 2).desc? 0).map (fun r => r.mark) = some 3
    ∧ 2 ∈ ((s 8).trunk 0).replay ∧ ((s 8).desc? 2).map (fun r => r.mark) = some 0
    ∧ ((s 8).marks.stale : Int) < ((8 + 1 : Mark) - 0).toInt ∧ (s 2).ReplayLaw := by
  refine ⟨by decide, by decide, by decide, by decide, by decide, by decide, ?_⟩
  let q := replaying_release
  let b := replaying_blocks
  let u := replaying_queues
  refine ⟨⟨b.descs, b.used, b.sizes, b.disjoint, b.whole, b.counted, b.closed, b.draining, b.opened, b.upload⟩,
    ⟨q.nodup, q.held, ?_, List.pairwise_singleton _ _⟩, ⟨u.queues, u.refs, u.left, u.away, u.plans⟩⟩
  intro d r h e
  rcases replaying_desc d r h with ⟨rfl, rfl⟩ | ⟨rfl, rfl⟩ | ⟨rfl, rfl⟩
  · decide
  · cases e
  · cases e

/-- A released descriptor with one reference, planned for its trunk; a DRAINING stream with its last
descriptor. -/
theorem witness_ReleaseFollowsDemand_released :
    let last := { replaying with streams := replaying.streams.set 0 ⟨.draining, none, 1, 0⟩ }
    (∃ r cs, replaying.desc? 2 = some r ∧ r.state = .released 1 cs) ∧ replaying.descs.wf = true
    ∧ (replaying.trunk 0).allocation = some ⟨0, 1, [some ⟨2, 1⟩]⟩
    ∧ (last.stream 0).state = .draining ∧ (last.stream 0).inUse ≤ 1 :=
  ⟨⟨_, _, rfl, rfl⟩, by decide, by decide, by decide, by decide⟩

theorem witness_ReplayClearEmpties_laws :
    (taken replaying .V .replayClear []).Taking .V .replayClear (cmd .replayClear [])
    ∧ (taken replaying .V .replayClear []).BlockLaw
    ∧ ((taken replaying .V .replayClear []).trunk 0).control.length + 1 ≤ 512 := by
  let b := replaying_blocks
  exact ⟨taking _ _ _ _ rfl (by decide),
    ⟨b.descs, b.used, b.sizes, b.disjoint, b.whole, b.counted, b.closed, b.draining, b.opened, b.upload⟩,
    by decide⟩

end Sys2Proof.Tests
end

section
/-! PROOF. TIMERS_SET (R13) and PART_STATUS (R15): what a port command's own rule sees of the state
once the command has left the intake, and the two rules on it. -/
namespace Sys2Proof.Machine

/-! ### A command as its own rule finds the part (R7) -/

/-- Beginning a command changes its port alone. -/
theorem State.begin_frame (s : State) (p : PortId) :
    s.begin p = { s with ports := (s.begin p).ports } := State.setPort_frame ..

/-- Beginning a command takes the head off its port's intake and leaves the other ports as they are. -/
theorem State.port_begin (s : State) (p p' : PortId) :
    (s.begin p).port p' =
      if p' = p then { s.port p with waiting := (s.port p).waiting.tail } else s.port p' :=
  State.port_setPort ..

/-- What a port record holds besides its intake is as it was when the command begins. -/
theorem State.read_port_begin {α : Type} (f : Port → α) (hf : ∀ q w, f { q with waiting := w } = f q)
    (s : State) (p p' : PortId) : f ((s.begin p).port p') = f (s.port p') := by
  rw [State.port_begin]
  split
  · next h => rw [h, hf]
  · rfl

/-- A command whose rule changes no port: the state `u` its rule leads to, with the answer. -/
theorem State.act_answered (s u : State) (p : PortId) (c : Command) (m : PortMessage)
    (rule : List Byte → State → Answer) (r : Result) (b : List Field) (h : s.Taking p c m)
    (hr : rule m.body (s.begin p) = ⟨{ u with ports := (s.begin p).ports }, r, b⟩)
    (hu : u.ports = s.ports) (hb : r ≠ .ok → b = []) : s.act p c rule = u.answered p m r b := by
  rw [State.act_taken s p c m h, hr]
  exact State.respond_of_ports s u p m r b h.up hb hu

/-- A command whose rule changes nothing at all, as a query. -/
theorem State.act_answered_same (s : State) (p : PortId) (c : Command) (m : PortMessage)
    (rule : List Byte → State → Answer) (b : List Field) (h : s.Taking p c m)
    (hr : rule m.body (s.begin p) = ⟨s.begin p, .ok, b⟩) : s.act p c rule = s.answered p m .ok b :=
  State.act_answered s s p c m rule .ok b h (hr.trans (by rw [← State.begin_frame])) rfl (absurd rfl)

/-! ### The length check (R180 check 5) -/

/-- A permitted command of a length that its layout does not have is MALFORMED, whichever of the two
length checks finds it. -/
theorem refusal_wrong_length (p : PortId) (c : Command) (m : PortMessage) (hk : m.kind = 1)
    (hc : m.code.toNat = c.code) (hp : c.permitted p = true) (hl : m.body.length ≠ c.length m.body) :
    refusal p m = some .malformed := by
  unfold refusal
  rw [hc, Command.ofCode_code]
  simp only [hk, hp, hl, ne_eq, not_true_eq_false, if_false, not_false_eq_true, if_true, ite_self]

/-! ### TIMERS_SET (R13) -/

/-- TIMERS_SET by its own rule. -/
theorem exec_timersSet (p : PortId) (s : State) :
    exec (.timersSet p) s = s.live fun s => s.act p .timersSet timersSetRule := rfl

/-- Rounding down to a whole multiple of 4 ms takes the remainder off. -/
theorem roundMs_eq (n : Nat) : roundMs n = n - n % 4 := by
  unfold roundMs
  omega

/-- The six values after rounding and clamping, with the ranges of R13 written out. -/
theorem timersOf_eq (b : List Byte) : timersOf b =
    ⟨max 16 (min 1000 (numAt b 0 2 - numAt b 0 2 % 4)), max 10 (min 600 (numAt b 2 2)),
      max 5 (min 600 (numAt b 4 2)), max 5 (min 300 (numAt b 6 2)), max 1 (min 120 (numAt b 8 2)),
      max 2 (min 15 (numAt b 10 2))⟩ := by
  simp only [timersOf, clamp, roundMs_eq]

/-- TIMERS_SET leads to the state with the new values in effect, and returns them. -/
theorem exec_timersSet_taken (p : PortId) (m : PortMessage) (s : State) (h : s.Taking p .timersSet m) :
    exec (.timersSet p) s = .next (State.answered { s with timers := timersOf m.body } p m .ok
      (timersOf m.body).body) := by
  have hr : timersSetRule m.body (s.begin p)
      = ⟨{ s with timers := timersOf m.body, ports := (s.begin p).ports }, .ok,
          (timersOf m.body).body⟩ := by
    rw [timersSetRule, State.begin_frame]
  rw [exec_timersSet, State.live_released s h.released,
    State.act_answered s { s with timers := timersOf m.body } p _ m _ _ _ h hr rfl (absurd rfl)]

/-- A TIMERS_SET of a wrong length has no effect but its answer. -/
theorem exec_timersSet_wrong_length (m : PortMessage) (s : State) (h : s.Heads .W .timersSet m)
    (hk : m.kind = 1) (hl : m.body.length ≠ 12) :
    exec (.timersSet .W) s = .next (s.answered .W m .malformed []) := by
  have hm : refusal .W m = some .malformed :=
    refusal_wrong_length .W .timersSet m hk h.code rfl hl
  rw [exec_timersSet, State.live_released s h.released, State.act_refused s _ _ m _ h hm]

/-- Settles O14: the reset values by evaluation, an accepted TIMERS_SET by its rule, and one of a wrong
length by the checks of R180. -/
theorem timersSetClamps : Obligations.TimersSetClamps := by
  refine ⟨rfl, fun p m s h => ?_, exec_timersSet_wrong_length⟩
  rw [exec_timersSet_taken p m s h, timersOf_eq]
  rfl

/-! ### PART_STATUS (R15) -/

/-- PART_STATUS by its own rule. -/
theorem exec_partStatus (p : PortId) (s : State) :
    exec (.partStatus p) s = s.live fun s => s.act p .partStatus partStatusRule := rfl

/-- The snapshot has no figure of an intake, so that it does not tell whether the command itself still
waits there. -/
theorem State.partSnapshot_begin (s : State) (p : PortId) :
    (s.begin p).partSnapshot = s.partSnapshot := by
  have hlink := State.read_port_begin (fun q => q.link) (fun _ _ => rfl) s p
  have hnotices := State.read_port_begin (fun q => q.notices) (fun _ _ => rfl) s p
  have hoverflow := State.read_port_begin (fun q => q.overflow) (fun _ _ => rfl) s p
  unfold State.partSnapshot
  simp only [hlink, hnotices, hoverflow]
  rw [State.begin_frame]
  rfl

/-- A stream counts as open when its state is OPEN. -/
theorem State.openStreams_eq (s : State) :
    s.openStreams = allStreams.filter fun k => (s.stream k).state = .opened := rfl

/-- PART_STATUS answers the snapshot and changes nothing else. -/
theorem exec_partStatus_taken (p : PortId) (m : PortMessage) (s : State) (h : s.Taking p .partStatus m) :
    exec (.partStatus p) s = .next (s.answered p m .ok s.partSnapshot) := by
  have hr : partStatusRule m.body (s.begin p) = ⟨s.begin p, .ok, s.partSnapshot⟩ := by
    rw [partStatusRule, State.partSnapshot_begin]
  rw [exec_partStatus, State.live_released s h.released, State.act_answered_same s p _ m _ _ h hr]

/-- Settles O16: the query's rule, its snapshot figure by figure, and the link that the asking port must
have for its command to be taken. -/
theorem partStatusSnapshot : Obligations.PartStatusSnapshot := by
  intro p m s h
  refine ⟨?_, by rw [h.up]; rfl, rfl, rfl, rfl⟩
  rw [exec_partStatus_taken p m s h, State.partSnapshot, State.openStreams_eq]
  rfl

end Sys2Proof.Machine
end

section
/-! PROOF. A message for a cell or for every cell of a trunk (R171): the three things an append can do,
and the one trunk a cell id names. -/
namespace Sys2Proof.Machine

/-! ### The trunk of a cell (R53, R55) -/

/-- The trunk of a cell is the one whose number is the cell id over 32. -/
theorem trunkOf_eq_of_val (c : CellId) (t : TrunkId) (h : t.val = c / 32) : trunkOf c = t := by
  apply Fin.ext
  change c / 32 % 8 = t.val
  rw [← h, Nat.mod_eq_of_lt t.isLt]

/-- A message for a cell is appended, under its position, to the trunk that holds it. -/
theorem State.tell_eq_append (s : State) (c : CellId) (b : CtlBody) (t : TrunkId) (h : t.val = c / 32) :
    s.tell c b = s.append t ⟨some (c % 32), b⟩ := by
  rw [← trunkOf_eq_of_val c t h]
  rfl

/-! ### Raising a flag (R35) -/

/-- Raising a flag that is set changes nothing. -/
theorem State.raiseFlag_of_set (s : State) (t : TrunkId) (f : ErrorFlag)
    (h : (s.trunk t).flags.get f = true) : s.raiseFlag t f = s :=
  if_pos h

/-- Raising a flag that is clear sets it and queues its TRUNK_ERROR. -/
theorem State.raiseFlag_of_clear (s : State) (t : TrunkId) (f : ErrorFlag)
    (h : (s.trunk t).flags.get f = false) : s.raiseFlag t f =
      (s.setTrunk t { s.trunk t with flags := (s.trunk t).flags.set f }).notify .W
        (.trunkError t f ((s.trunk t).flags.set f).byte) :=
  if_neg (Bool.eq_false_iff.1 h)

/-! ### An append by the trunk's state and the room in its queue (R171) -/

/-- The trunks that carry control messages are the ACTIVE and LOST ones. -/
theorem TrunkState.serving_iff (q : TrunkState) : q.serving = true ↔ q = .active ∨ q = .lost := by
  cases q <;> decide

/-- With room a message joins at the tail. -/
theorem State.append_of_room (s : State) (t : TrunkId) (m : Ctl)
    (hs : (s.trunk t).state = .active ∨ (s.trunk t).state = .lost)
    (hr : (s.trunk t).control.length < 512) :
    s.append t m = s.setTrunk t { s.trunk t with control := (s.trunk t).control ++ [m] } :=
  (if_pos ((TrunkState.serving_iff _).2 hs)).trans (if_pos hr)

/-- At a full queue a message is dropped with CONTROL_OVERFLOW. -/
theorem State.append_of_full (s : State) (t : TrunkId) (m : Ctl)
    (hs : (s.trunk t).state = .active ∨ (s.trunk t).state = .lost)
    (hr : 512 ≤ (s.trunk t).control.length) : s.append t m = s.raiseFlag t .controlOverflow :=
  (if_pos ((TrunkState.serving_iff _).2 hs)).trans (if_neg (Nat.not_lt.2 hr))

/-- A trunk neither ACTIVE nor LOST drops a message with no trace. -/
theorem State.append_of_not_serving (s : State) (t : TrunkId) (m : Ctl)
    (ha : (s.trunk t).state ≠ .active) (hl : (s.trunk t).state ≠ .lost) : s.append t m = s :=
  if_neg fun h => ((TrunkState.serving_iff _).1 h).elim ha hl

/-- Settles O33: a message for a cell is an append to the cell's trunk, so that the three outcomes of an
append are its outcomes too; the flag's notice comes from the raising of a clear flag. -/
theorem controlMessageAppended : Obligations.ControlMessageAppended := by
  refine ⟨State.tell_eq_append, fun s t m => ⟨State.append_of_room s t m, State.append_of_full s t m,
    State.append_of_not_serving s t m⟩, fun s c b t ht => ?_⟩
  rw [State.tell_eq_append s c b t ht]
  refine ⟨State.append_of_room s t _, fun hs hr => ?_, State.append_of_not_serving s t _⟩
  have hu := State.trunk_raiseFlag s t .controlOverflow t
  rw [if_pos rfl] at hu
  have kept : ((s.raiseFlag t .controlOverflow).trunk t).control = (s.trunk t).control := by rw [hu]
  have flagged : ((s.raiseFlag t .controlOverflow).trunk t).flags.controlOverflow = true :=
    (congrArg (·.flags.controlOverflow) hu).trans rfl
  exact ⟨_, State.append_of_full s t _ hs hr, kept, flagged, State.raiseFlag_of_set s t .controlOverflow,
    State.raiseFlag_of_clear s t .controlOverflow⟩

end Sys2Proof.Machine
end


section
/-! PROOF. Facts about folds and decisions that the core library leaves out. -/
namespace Sys2Proof.Machine

/-- Two folds agree when their steps agree on the entries of the list. -/
theorem foldl_congr_of_mem {α β : Type} {f g : α → β → α} {l : List β} (a : α) (h : ∀ a, ∀ b ∈ l, f a b = g a b) :
    l.foldl f a = l.foldl g a := by
  induction l generalizing a with
  | nil => rfl
  | cons x l ih =>
    rw [List.foldl_cons, List.foldl_cons, h a x List.mem_cons_self]
    exact ih _ fun a b hb => h a b (List.mem_cons_of_mem _ hb)

/-- A list with two different members has more than one entry. -/
theorem one_lt_length_of_mem {α : Type} {l : List α} {a b : α} (h : a ≠ b) (ha : a ∈ l) (hb : b ∈ l) : 1 < l.length := by
  match l with
  | [] => cases ha
  | [x] => exact absurd ((List.mem_singleton.1 ha).trans (List.mem_singleton.1 hb).symm) h
  | _ :: _ :: _ => exact Nat.succ_lt_succ (Nat.succ_pos _)

/-- A choice by an equivalent condition. -/
theorem ite_congr_iff {α : Sort _} {p q : Prop} [Decidable p] [Decidable q] {x y u v : α} (h : p ↔ q) (hx : x = u)
    (hy : y = v) : (if p then x else y) = if q then u else v :=
  ite_congr (propext h) (fun _ => hx) fun _ => hy

end Sys2Proof.Machine
end

section
/-! PROOF. Footprints: which views of the state an operation may change. A view is one field of the state
or one field of every record of a table; `State.Touches F s u` says that from `s` to `u` only the views of
`F` have changed and that every canonical form that held still holds. The relation composes, so that the
footprint of an operation is put together from those of its parts. -/
namespace Sys2Proof.Machine

/-! ### Views of the records -/

/-- The fields of a trunk's record. -/
inductive TrunkView where
  | state | enable | autoWake | idlePeriod | markCarriage | rmin | flags | good | bad | entry | idle
  | nextFrame | mfTaken | markField | awaiting | polled | marker | fails | echo | ack | holdSent | intake
  | pollList | regular | urgent | control | replay | allocation | frame
deriving DecidableEq

/-- What a field of a trunk's record holds. -/
abbrev TrunkView.Out : TrunkView → Type
  | .state => TrunkState | .enable => Bool | .autoWake => Bool | .idlePeriod => Nat
  | .markCarriage => Bool | .rmin => Nat | .flags => ErrorFlags | .good => Nat | .bad => Nat
  | .entry => Option Time | .idle => Option Time | .nextFrame => Nat | .mfTaken => Bool
  | .markField => Option Mark | .awaiting => Bool | .polled => Option Poll | .marker => Bool
  | .fails => Nat | .echo => Echo | .ack => Nat | .holdSent => Bool | .intake => List Report
  | .pollList => List Nat | .regular => Nat | .urgent => List Nat | .control => List Ctl
  | .replay => List DescIx | .allocation => Option Allocation | .frame => Option DownFrame

/-- A field of a trunk's record. -/
def Trunk.view (r : Trunk) : (v : TrunkView) → v.Out
  | .state => r.state | .enable => r.enable | .autoWake => r.autoWake | .idlePeriod => r.idlePeriod
  | .markCarriage => r.markCarriage | .rmin => r.rmin | .flags => r.flags | .good => r.good
  | .bad => r.bad | .entry => r.entry | .idle => r.idle | .nextFrame => r.nextFrame
  | .mfTaken => r.mfTaken | .markField => r.markField | .awaiting => r.awaiting | .polled => r.polled
  | .marker => r.marker | .fails => r.fails | .echo => r.echo | .ack => r.ack | .holdSent => r.holdSent
  | .intake => r.intake | .pollList => r.pollList | .regular => r.regular | .urgent => r.urgent
  | .control => r.control | .replay => r.replay | .allocation => r.allocation | .frame => r.frame

/-- The fields of a cell's record. -/
inductive CellView where
  | kind | section_ | cmax | neighbours | override | live | miss | accepted | candidate | lastA
  | attached | incoming | score | load
deriving DecidableEq

/-- What a field of a cell's record holds. -/
abbrev CellView.Out : CellView → Type
  | .kind => CellKind | .section_ => Nat | .cmax => Nat | .neighbours => List CellId
  | .override => Option (Nat × Nat) | .live => Liveness | .miss => Nat | .accepted => Condition
  | .candidate => Option Condition | .lastA => Nat | .attached => Nat | .incoming => Nat
  | .score => Nat | .load => LoadState

/-- A field of a cell's record. -/
def Cell.view (r : Cell) : (v : CellView) → v.Out
  | .kind => r.kind | .section_ => r.section_ | .cmax => r.cmax | .neighbours => r.neighbours
  | .override => r.override | .live => r.live | .miss => r.miss | .accepted => r.accepted
  | .candidate => r.candidate | .lastA => r.lastA | .attached => r.attached | .incoming => r.incoming
  | .score => r.score | .load => r.load

/-- The fields of a station's record. -/
inductive StationView where
  | address | cell | roam | binding | subs | tier | lastHeard | grace | steerHold
deriving DecidableEq

/-- What a field of a station's record holds. -/
abbrev StationView.Out : StationView → Type
  | .address => Address | .cell => CellId | .roam => Option Roam | .binding => Binding
  | .subs => List StreamId | .tier => Level | .lastHeard => Time | .grace => Option Time
  | .steerHold => Option Time

/-- A field of a station's record. -/
def Station.view (r : Station) : (v : StationView) → v.Out
  | .address => r.address | .cell => r.cell | .roam => r.roam | .binding => r.binding | .subs => r.subs
  | .tier => r.tier | .lastHeard => r.lastHeard | .grace => r.grace | .steerHold => r.steerHold

/-- The fields of a ticket's record. -/
inductive TicketView where
  | section_ | home | tier | state | entries
deriving DecidableEq

/-- What a field of a ticket's record holds. -/
abbrev TicketView.Out : TicketView → Type
  | .section_ => Nat | .home => Option CellId | .tier => TicketTier | .state => TicketState
  | .entries => Nat

/-- A field of a ticket's record. -/
def Ticket.view (r : Ticket) : (v : TicketView) → v.Out
  | .section_ => r.section_ | .home => r.home | .tier => r.tier | .state => r.state
  | .entries => r.entries

/-- The fields of a stream's record. -/
inductive StreamView where
  | state | lastSeq | inUse | unwatched
deriving DecidableEq

/-- What a field of a stream's record holds. -/
abbrev StreamView.Out : StreamView → Type
  | .state => StreamState | .lastSeq => Option Seq | .inUse => Nat | .unwatched => Nat

/-- A field of a stream's record. -/
def Stream.view (r : Stream) : (v : StreamView) → v.Out
  | .state => r.state | .lastSeq => r.lastSeq | .inUse => r.inUse | .unwatched => r.unwatched

/-- A port without what a notice may change: its notice queue, its overflow flag and its order of
readiness. -/
def Port.bare (q : Port) : Port := { q with notices := [], overflow := false, ready := 0 }

/-! ### Views of the state -/

/-- The views of the state: its fields, and for a table of records also each field over all of them. -/
inductive View where
  | now | held | portW | portT | portV | bare | timers | trunks | trunk (v : TrunkView) | pointer
  | cells | cell (v : CellView) | load | stations | station (v : StationView)
  | tickets | ticket (v : TicketView) | fan | demand | streams | stream (v : StreamView)
  | descs | used | segMem | release | marks | grace | fresh | pending
deriving DecidableEq

/-- A number for each view, by which lists of views are compared. -/
def View.code : View → Nat
  | .now => 0 | .held => 1 | .portW => 2 | .portT => 3 | .portV => 4 | .bare => 5 | .timers => 6
  | .trunks => 7 | .pointer => 8 | .cells => 9 | .load => 10 | .stations => 11 | .tickets => 12
  | .fan => 13 | .demand => 14 | .streams => 15 | .descs => 16 | .used => 17 | .segMem => 18
  | .release => 19 | .marks => 20 | .grace => 21 | .fresh => 22 | .pending => 23
  | .trunk v => 30 + v.ctorIdx | .cell v => 60 + v.ctorIdx | .station v => 80 + v.ctorIdx
  | .ticket v => 90 + v.ctorIdx | .stream v => 95 + v.ctorIdx

/-- The view of a number; a number that no view has is sent to `.now`. -/
def View.ofCode : Nat → View
  | 1 => .held | 2 => .portW | 3 => .portT | 4 => .portV | 5 => .bare | 6 => .timers
  | 7 => .trunks | 8 => .pointer | 9 => .cells | 10 => .load | 11 => .stations | 12 => .tickets
  | 13 => .fan | 14 => .demand | 15 => .streams | 16 => .descs | 17 => .used | 18 => .segMem
  | 19 => .release | 20 => .marks | 21 => .grace | 22 => .fresh | 23 => .pending
  | 30 => .trunk .state
  | 31 => .trunk .enable
  | 32 => .trunk .autoWake
  | 33 => .trunk .idlePeriod
  | 34 => .trunk .markCarriage
  | 35 => .trunk .rmin
  | 36 => .trunk .flags
  | 37 => .trunk .good
  | 38 => .trunk .bad
  | 39 => .trunk .entry
  | 40 => .trunk .idle
  | 41 => .trunk .nextFrame
  | 42 => .trunk .mfTaken
  | 43 => .trunk .markField
  | 44 => .trunk .awaiting
  | 45 => .trunk .polled
  | 46 => .trunk .marker
  | 47 => .trunk .fails
  | 48 => .trunk .echo
  | 49 => .trunk .ack
  | 50 => .trunk .holdSent
  | 51 => .trunk .intake
  | 52 => .trunk .pollList
  | 53 => .trunk .regular
  | 54 => .trunk .urgent
  | 55 => .trunk .control
  | 56 => .trunk .replay
  | 57 => .trunk .allocation
  | 58 => .trunk .frame
  | 60 => .cell .kind
  | 61 => .cell .section_
  | 62 => .cell .cmax
  | 63 => .cell .neighbours
  | 64 => .cell .override
  | 65 => .cell .live
  | 66 => .cell .miss
  | 67 => .cell .accepted
  | 68 => .cell .candidate
  | 69 => .cell .lastA
  | 70 => .cell .attached
  | 71 => .cell .incoming
  | 72 => .cell .score
  | 73 => .cell .load
  | 80 => .station .address
  | 81 => .station .cell
  | 82 => .station .roam
  | 83 => .station .binding
  | 84 => .station .subs
  | 85 => .station .tier
  | 86 => .station .lastHeard
  | 87 => .station .grace
  | 88 => .station .steerHold
  | 90 => .ticket .section_
  | 91 => .ticket .home
  | 92 => .ticket .tier
  | 93 => .ticket .state
  | 94 => .ticket .entries
  | 95 => .stream .state
  | 96 => .stream .lastSeq
  | 97 => .stream .inUse
  | 98 => .stream .unwatched
  | _ => .now

theorem View.ofCode_code (v : View) : View.ofCode v.code = v := by
  cases v with
  | trunk x => cases x <;> rfl
  | cell x => cases x <;> rfl
  | station x => cases x <;> rfl
  | ticket x => cases x <;> rfl
  | stream x => cases x <;> rfl
  | _ => rfl

theorem View.code_inj {v w : View} (h : v.code = w.code) : v = w := by
  rw [← View.ofCode_code v, h, View.ofCode_code]

/-- A list of views has a view, by the numbers. -/
def View.listed (F : List View) (v : View) : Bool := F.any fun w => w.code == v.code

theorem View.listed_iff (F : List View) (v : View) : View.listed F v = true ↔ v ∈ F := by
  simp only [View.listed, List.any_eq_true, beq_iff_eq]
  exact ⟨fun ⟨w, hw, h⟩ => View.code_inj h ▸ hw, fun h => ⟨v, h, rfl⟩⟩

theorem View.mem_of {F : List View} {v : View} (h : View.listed F v = true) : v ∈ F :=
  (View.listed_iff F v).1 h

theorem View.not_mem_of {F : List View} {v : View} (h : View.listed F v = false) : v ∉ F := by
  rw [← View.listed_iff, h]; decide

theorem View.subset_of {F G : List View} (h : F.all (View.listed G) = true) : F ⊆ G :=
  fun _ hv => View.mem_of (List.all_eq_true.1 h _ hv)

/-- What a view of the state holds. -/
abbrev View.Out : View → Type
  | .now => Time | .held => Bool | .portW => Port | .portT => Port | .portV => Port
  | .bare => PortId → Port | .timers => Timers | .trunks => Vector Trunk 8
  | .trunk v => TrunkId → v.Out | .pointer => TrunkId | .cells => Table Cell
  | .cell v => CellId → Option v.Out | .load => LoadSettings | .stations => Table Station
  | .station v => StationIx → Option v.Out | .tickets => Table Ticket
  | .ticket v => Token → Option v.Out | .fan => Table Counts | .demand => Vector Level 16
  | .streams => Vector Stream 16 | .stream v => StreamId → v.Out | .descs => Table Desc
  | .used => List Nat | .segMem => List Host.Cell | .release => List DescIx | .marks => MarkCounter
  | .grace => Option Time | .fresh => Nat | .pending => List Instr

/-- A view of the state. -/
def State.view (s : State) : (v : View) → v.Out
  | .now => s.now | .held => s.held | .portW => s.ports.w | .portT => s.ports.t | .portV => s.ports.v
  | .bare => fun p => (s.port p).bare | .timers => s.timers | .trunks => s.trunks
  | .trunk v => fun t => (s.trunk t).view v | .pointer => s.pointer | .cells => s.cells
  | .cell v => fun c => (s.cells.get? c).map (·.view v) | .load => s.load | .stations => s.stations
  | .station v => fun i => (s.station? i).map (·.view v) | .tickets => s.tickets
  | .ticket v => fun k => (s.ticket? k).map (·.view v) | .fan => s.fan | .demand => s.demand
  | .streams => s.streams | .stream v => fun k => (s.stream k).view v | .descs => s.descs
  | .used => s.used | .segMem => s.segMem | .release => s.release | .marks => s.marks
  | .grace => s.grace | .fresh => s.fresh | .pending => s.pending

/-! ### Canonical forms -/

/-- The canonical forms that every operation keeps, each by itself. -/
inductive Canon where
  | memory | cells | stations | tickets | fan | listed | descs | used | room
deriving DecidableEq

/-- A canonical form of the state: of segment memory, of a table, of the block set; and the room of the
notice queues (R11). -/
def State.canon (s : State) : Canon → Prop
  | .memory => Memory.wf s.segMem = true
  | .cells => s.cells.wf = true
  | .stations => s.stations.wf = true
  | .tickets => s.tickets.wf = true
  | .fan => s.fan.wf = true
  | .listed => ∀ e ∈ s.fan.entries, e.2 ≠ ⟨0, 0⟩
  | .descs => s.descs.wf = true
  | .used => s.used.Pairwise (· < ·)
  | .room => ∀ p, (s.port p).notices.length ≤ 64

/-! ### Footprints -/

/-- From `s` to `u` only the views of `F` have changed, and every canonical form that held holds. -/
structure State.Touches (F : List View) (s u : State) : Prop where
  same : ∀ v, v ∉ F → u.view v = s.view v
  canon : ∀ c, s.canon c → u.canon c

namespace State.Touches
variable {F G : List View} {s u v : State}

theorem refl (F : List View) (s : State) : s.Touches F s := ⟨fun _ _ => rfl, fun _ => id⟩

theorem trans (h : s.Touches F u) (g : u.Touches F v) : s.Touches F v :=
  ⟨fun x hx => (g.same x hx).trans (h.same x hx), fun c hc => g.canon c (h.canon c hc)⟩

/-- A footprint may be widened. -/
theorem mono (h : s.Touches F u) (hF : F ⊆ G) : s.Touches G u :=
  ⟨fun x hx => h.same x fun hx' => hx (hF hx'), h.canon⟩

/-- What each action of a list touches, the whole list touches. -/
theorem each {α : Type} {f : State → α → State} {xs : List α} (h : ∀ s x, State.Touches F s (f s x))
    (s : State) : s.Touches F (s.each xs f) :=
  State.each_keeps (s.Touches F) f xs s (fun u x _ hu => hu.trans (h u x)) (refl F s)

/-! What a footprint leaves out, read as an equation. -/

theorem now (h : s.Touches F u) (hF : View.now ∉ F := by exact View.not_mem_of (by decide +kernel)) : u.now = s.now := h.same _ hF
theorem held (h : s.Touches F u) (hF : View.held ∉ F := by exact View.not_mem_of (by decide +kernel)) : u.held = s.held := h.same _ hF
theorem portW (h : s.Touches F u) (hF : View.portW ∉ F := by exact View.not_mem_of (by decide +kernel)) : u.ports.w = s.ports.w := h.same _ hF
theorem portT (h : s.Touches F u) (hF : View.portT ∉ F := by exact View.not_mem_of (by decide +kernel)) : u.ports.t = s.ports.t := h.same _ hF
theorem portV (h : s.Touches F u) (hF : View.portV ∉ F := by exact View.not_mem_of (by decide +kernel)) : u.ports.v = s.ports.v := h.same _ hF
theorem bare (h : s.Touches F u) (p : PortId) (hF : View.bare ∉ F := by exact View.not_mem_of (by decide +kernel)) :
    (u.port p).bare = (s.port p).bare := congrFun (h.same .bare hF) p
theorem timers (h : s.Touches F u) (hF : View.timers ∉ F := by exact View.not_mem_of (by decide +kernel)) : u.timers = s.timers := h.same _ hF
theorem trunks (h : s.Touches F u) (hF : View.trunks ∉ F := by exact View.not_mem_of (by decide +kernel)) : u.trunks = s.trunks := h.same _ hF
theorem trunkAll (h : s.Touches F u) (t : TrunkId) (hF : View.trunks ∉ F := by exact View.not_mem_of (by decide +kernel)) :
    u.trunk t = s.trunk t := by unfold State.trunk; rw [h.trunks hF]
theorem trunk (h : s.Touches F u) (x : TrunkView) (t : TrunkId) (hF : View.trunk x ∉ F := by exact View.not_mem_of (by decide +kernel)) :
    (u.trunk t).view x = (s.trunk t).view x := congrFun (h.same (.trunk x) hF) t
theorem pointer (h : s.Touches F u) (hF : View.pointer ∉ F := by exact View.not_mem_of (by decide +kernel)) : u.pointer = s.pointer := h.same _ hF
theorem cells (h : s.Touches F u) (hF : View.cells ∉ F := by exact View.not_mem_of (by decide +kernel)) : u.cells = s.cells := h.same _ hF
theorem cell (h : s.Touches F u) (x : CellView) (c : CellId) (hF : View.cell x ∉ F := by exact View.not_mem_of (by decide +kernel)) :
    (u.cells.get? c).map (·.view x) = (s.cells.get? c).map (·.view x) := congrFun (h.same (.cell x) hF) c
theorem load (h : s.Touches F u) (hF : View.load ∉ F := by exact View.not_mem_of (by decide +kernel)) : u.load = s.load := h.same _ hF
theorem stations (h : s.Touches F u) (hF : View.stations ∉ F := by exact View.not_mem_of (by decide +kernel)) : u.stations = s.stations := h.same _ hF
theorem station (h : s.Touches F u) (x : StationView) (i : StationIx)
    (hF : View.station x ∉ F := by exact View.not_mem_of (by decide +kernel)) :
    (u.station? i).map (·.view x) = (s.station? i).map (·.view x) := congrFun (h.same (.station x) hF) i
theorem tickets (h : s.Touches F u) (hF : View.tickets ∉ F := by exact View.not_mem_of (by decide +kernel)) : u.tickets = s.tickets := h.same _ hF
theorem ticket (h : s.Touches F u) (x : TicketView) (k : Token)
    (hF : View.ticket x ∉ F := by exact View.not_mem_of (by decide +kernel)) :
    (u.ticket? k).map (·.view x) = (s.ticket? k).map (·.view x) := congrFun (h.same (.ticket x) hF) k
theorem fan (h : s.Touches F u) (hF : View.fan ∉ F := by exact View.not_mem_of (by decide +kernel)) : u.fan = s.fan := h.same _ hF
theorem demand (h : s.Touches F u) (hF : View.demand ∉ F := by exact View.not_mem_of (by decide +kernel)) : u.demand = s.demand := h.same _ hF
theorem streams (h : s.Touches F u) (hF : View.streams ∉ F := by exact View.not_mem_of (by decide +kernel)) : u.streams = s.streams := h.same _ hF
theorem stream (h : s.Touches F u) (x : StreamView) (k : StreamId)
    (hF : View.stream x ∉ F := by exact View.not_mem_of (by decide +kernel)) :
    (u.stream k).view x = (s.stream k).view x := congrFun (h.same (.stream x) hF) k
theorem descs (h : s.Touches F u) (hF : View.descs ∉ F := by exact View.not_mem_of (by decide +kernel)) : u.descs = s.descs := h.same _ hF
theorem used (h : s.Touches F u) (hF : View.used ∉ F := by exact View.not_mem_of (by decide +kernel)) : u.used = s.used := h.same _ hF
theorem segMem (h : s.Touches F u) (hF : View.segMem ∉ F := by exact View.not_mem_of (by decide +kernel)) : u.segMem = s.segMem := h.same _ hF
theorem release (h : s.Touches F u) (hF : View.release ∉ F := by exact View.not_mem_of (by decide +kernel)) : u.release = s.release := h.same _ hF
theorem marks (h : s.Touches F u) (hF : View.marks ∉ F := by exact View.not_mem_of (by decide +kernel)) : u.marks = s.marks := h.same _ hF
theorem grace (h : s.Touches F u) (hF : View.grace ∉ F := by exact View.not_mem_of (by decide +kernel)) : u.grace = s.grace := h.same _ hF
theorem fresh (h : s.Touches F u) (hF : View.fresh ∉ F := by exact View.not_mem_of (by decide +kernel)) : u.fresh = s.fresh := h.same _ hF
theorem pending (h : s.Touches F u) (hF : View.pending ∉ F := by exact View.not_mem_of (by decide +kernel)) : u.pending = s.pending := h.same _ hF

/-- The whole state after: what the footprint leaves out stands as before. -/
theorem eq_frame (h : s.Touches F u) : u = {
    now := if .now ∈ F then u.now else s.now
    held := if .held ∈ F then u.held else s.held
    ports := ⟨if .portW ∈ F then u.ports.w else s.ports.w, if .portT ∈ F then u.ports.t else s.ports.t,
      if .portV ∈ F then u.ports.v else s.ports.v⟩
    timers := if .timers ∈ F then u.timers else s.timers
    trunks := if .trunks ∈ F then u.trunks else s.trunks
    pointer := if .pointer ∈ F then u.pointer else s.pointer
    cells := if .cells ∈ F then u.cells else s.cells
    load := if .load ∈ F then u.load else s.load
    stations := if .stations ∈ F then u.stations else s.stations
    tickets := if .tickets ∈ F then u.tickets else s.tickets
    fan := if .fan ∈ F then u.fan else s.fan
    demand := if .demand ∈ F then u.demand else s.demand
    streams := if .streams ∈ F then u.streams else s.streams
    descs := if .descs ∈ F then u.descs else s.descs
    used := if .used ∈ F then u.used else s.used
    segMem := if .segMem ∈ F then u.segMem else s.segMem
    release := if .release ∈ F then u.release else s.release
    marks := if .marks ∈ F then u.marks else s.marks
    grace := if .grace ∈ F then u.grace else s.grace
    fresh := if .fresh ∈ F then u.fresh else s.fresh
    pending := if .pending ∈ F then u.pending else s.pending } := by
  have pick : ∀ {α : Type} (v : View) (x y : α), (v ∉ F → x = y) → x = if v ∈ F then x else y := by
    intro α v x y hxy; split
    · rfl
    · exact hxy ‹_›
  obtain ⟨_, _, ⟨_, _, _⟩, _, _, _, _, _, _, _, _, _, _, _, _, _, _, _, _, _, _⟩ := u
  simp only [State.mk.injEq, Ports.mk.injEq]
  exact ⟨pick _ _ _ (h.same .now), pick _ _ _ (h.same .held), ⟨pick _ _ _ (h.same .portW), pick _ _ _ (h.same .portT), pick _ _ _ (h.same .portV)⟩,
    pick _ _ _ (h.same .timers), pick _ _ _ (h.same .trunks), pick _ _ _ (h.same .pointer), pick _ _ _ (h.same .cells), pick _ _ _ (h.same .load),
    pick _ _ _ (h.same .stations), pick _ _ _ (h.same .tickets), pick _ _ _ (h.same .fan), pick _ _ _ (h.same .demand),
    pick _ _ _ (h.same .streams), pick _ _ _ (h.same .descs), pick _ _ _ (h.same .used), pick _ _ _ (h.same .segMem),
    pick _ _ _ (h.same .release), pick _ _ _ (h.same .marks), pick _ _ _ (h.same .grace), pick _ _ _ (h.same .fresh),
    pick _ _ _ (h.same .pending)⟩

/-- A change confined to views that the record does not hold keeps each field of a live cell. -/
theorem configured (h : s.Touches F u) (c : CellId) (hF : View.cell .kind ∉ F := by exact View.not_mem_of (by decide +kernel)) :
    u.configured c = s.configured c := by
  have := congrArg Option.isSome (h.cell .kind c hF)
  simpa [State.configured] using this

/-- A field of a cell, configured or not. -/
theorem cellView (h : s.Touches F u) (x : CellView) (c : CellId) (hF : View.cell x ∉ F := by exact View.not_mem_of (by decide +kernel)) :
    (u.cell c).view x = (s.cell c).view x := by
  have := congrArg (fun o => o.getD (Cell.reset.view x)) (h.cell x c hF)
  simpa [State.cell, Option.getD_map] using this

theorem desc? (h : s.Touches F u) (d : DescIx) (hF : View.descs ∉ F := by exact View.not_mem_of (by decide +kernel)) : u.desc? d = s.desc? d := by
  unfold State.desc?; rw [h.descs hF]
theorem station? (h : s.Touches F u) (i : StationIx) (hF : View.stations ∉ F := by exact View.not_mem_of (by decide +kernel)) :
    u.station? i = s.station? i := by unfold State.station?; rw [h.stations hF]
theorem ticket? (h : s.Touches F u) (k : Token) (hF : View.tickets ∉ F := by exact View.not_mem_of (by decide +kernel)) :
    u.ticket? k = s.ticket? k := by unfold State.ticket?; rw [h.tickets hF]
theorem counts (h : s.Touches F u) (c : CellId) (k : StreamId) (hF : View.fan ∉ F := by exact View.not_mem_of (by decide +kernel)) :
    u.counts c k = s.counts c k := by unfold State.counts; rw [h.fan hF]
theorem cellAll (h : s.Touches F u) (c : CellId) (hF : View.cells ∉ F := by exact View.not_mem_of (by decide +kernel)) :
    u.cell c = s.cell c := by unfold State.cell; rw [h.cells hF]
theorem sectorDemand (h : s.Touches F u) (k : StreamId) (hF : View.demand ∉ F := by exact View.not_mem_of (by decide +kernel)) :
    u.sectorDemand k = s.sectorDemand k := by unfold State.sectorDemand; rw [h.demand hF]

end State.Touches

end Sys2Proof.Machine
end

section
/-! PROOF. The footprints of the shared operations: writes of one record, notices, control messages, counts,
recomputes, and the operations of descriptors, trunks, stations and tickets made of them. -/
namespace Sys2Proof.Machine

/-! ### Writes of one record -/

/-- The view of a whole port. -/
def portView : PortId → View
  | .W => .portW | .T => .portT | .V => .portV

/-- A written port whose notices have room. -/
theorem State.setPort_touches {G : List View} (s : State) (p : PortId) (q : Port)
    (hn : q.notices.length ≤ (s.port p).notices.length ∨ q.notices.length ≤ 64)
    (hb : q.bare = (s.port p).bare ∨ View.bare ∈ G) (hG : portView p ∈ G) : s.Touches G (s.setPort p q) := by
  refine ⟨fun v hv => ?_, fun c => ?_⟩
  · by_cases hbare : v = .bare
    · subst hbare
      funext p'
      simp only [State.view, State.port_setPort]
      split
      · subst_vars; exact hb.resolve_right hv
      · rfl
    · cases p <;> cases v <;> first | rfl | exact absurd hG hv | simp at hbare
  · by_cases hroom : c = .room
    · subst hroom
      intro h p'
      simp only [State.port_setPort]
      split
      · have := h p; omega
      · exact h p'
    · cases p <;> cases c <;> first | exact id | exact absurd rfl hroom

/-- A notice touches its port. -/
theorem State.notify_touches {G : List View} (s : State) (p : PortId) (n : Notice) (hG : portView p ∈ G) :
    s.Touches G (s.notify p n) := by
  simp only [State.notify]
  split
  · rename_i h
    refine State.setPort_touches s p _ (.inr ?_) (.inl rfl) hG
    simp only [List.length_append, List.length_singleton]
    unfold noticeCapacity at h
    omega
  · exact State.setPort_touches s p _ (.inl (Nat.le_refl _)) (.inl rfl) hG

/-- A written trunk touches the fields that it changes. -/
theorem State.setTrunk_touches {G : List View} (s : State) (t : TrunkId) (r : Trunk)
    (hr : ∀ x, View.trunk x ∉ G → r.view x = (s.trunk t).view x) (hG : .trunks ∈ G) :
    s.Touches G (s.setTrunk t r) := by
  refine ⟨fun v hv => ?_, fun c => ?_⟩
  · cases v with
    | trunk x =>
      funext t'
      simp only [State.view, State.trunk_setTrunk]
      split
      · subst_vars; exact hr x hv
      · rfl
    | trunks => exact absurd hG hv
    | _ => rfl
  · cases c <;> exact id

/-- A changed cell's record touches the fields that the change changes. -/
theorem State.modCell_touches {G : List View} (s : State) (c : CellId) (f : Cell → Cell)
    (hf : ∀ x r, s.cells.get? c = some r → View.cell x ∉ G → (f r).view x = r.view x) (hG : .cells ∈ G) :
    s.Touches G (s.modCell c f) := by
  unfold State.modCell
  split
  · rename_i r hr
    refine ⟨fun v hv => ?_, fun k => ?_⟩
    · cases v with
      | cell x =>
        funext c'
        simp only [State.view, Table.get?_put]
        split
        · subst_vars; simp [hr, hf x r hr hv]
        · rfl
      | cells => exact absurd hG hv
      | _ => rfl
    · cases k with
      | cells => exact Table.wf_put _ _ _
      | _ => exact id
  · exact .refl _ _

/-- A live record written anew touches the fields that change. -/
theorem State.putStation_touches {G : List View} (s : State) (i : StationIx) (r r' : Station)
    (h : s.station? i = some r) (hr : ∀ x, View.station x ∉ G → r'.view x = r.view x)
    (hG : .stations ∈ G) : s.Touches G (s.putStation i r') := by
  refine ⟨fun v hv => ?_, fun c => ?_⟩
  · cases v with
    | station x =>
      funext j
      simp only [State.view, State.station?_putStation]
      split
      · subst_vars; simp [h, hr x hv]
      · rfl
    | stations => exact absurd hG hv
    | _ => rfl
  · cases c with
    | stations => exact Table.wf_put _ _ _
    | _ => exact id

/-- A ticket record written anew touches the fields that change. -/
theorem State.putTicket_touches {G : List View} (s : State) (k : Token) (t t' : Ticket)
    (h : s.ticket? k = some t) (hr : ∀ x, View.ticket x ∉ G → t'.view x = t.view x)
    (hG : .tickets ∈ G) : s.Touches G (s.putTicket k t') := by
  refine ⟨fun v hv => ?_, fun c => ?_⟩
  · cases v with
    | ticket x =>
      funext j
      simp only [State.view, State.ticket?_putTicket]
      split
      · subst_vars; simp [h, hr x hv]
      · rfl
    | tickets => exact absurd hG hv
    | _ => rfl
  · cases c with
    | tickets => exact Table.wf_put _ _ _
    | _ => exact id

/-- A written stream touches the fields that it changes. -/
theorem State.setStream_touches {G : List View} (s : State) (k : StreamId) (r : Stream)
    (hr : ∀ x, View.stream x ∉ G → r.view x = (s.stream k).view x) (hG : .streams ∈ G) :
    s.Touches G (s.setStream k r) := by
  refine ⟨fun v hv => ?_, fun c => ?_⟩
  · cases v with
    | stream x =>
      funext k'
      simp only [State.view, State.stream_setStream]
      split
      · subst_vars; exact hr x hv
      · rfl
    | streams => exact absurd hG hv
    | _ => rfl
  · cases c <;> exact id

/-- A written descriptor touches the pool. -/
theorem State.putDesc_touches {G : List View} (s : State) (d : DescIx) (r : Desc)
    (hG : [.descs] ⊆ G := by exact View.subset_of (by decide +kernel)) : s.Touches G (s.putDesc d r) := by
  refine .mono ⟨fun v hv => ?_, fun c => ?_⟩ hG
  · cases v with
    | descs => simp at hv
    | _ => rfl
  · cases c with
    | descs => exact Table.wf_put _ _ _
    | _ => exact id

/-- Entries put are the new one and those before. -/
theorem mem_assocPut {α : Type} (l : List (Nat × α)) (i : Nat) (v : α) (e : Nat × α)
    (h : e ∈ assocPut l i v) : e = (i, v) ∨ e ∈ l := by
  induction l with
  | nil => simpa [assocPut] using h
  | cons x l ih =>
    obtain ⟨k, w⟩ := x
    simp only [assocPut] at h
    split at h
    · simpa using h
    · split at h
      · rcases List.mem_cons.1 h with h | h
        · exact .inl h
        · exact .inr (List.mem_cons_of_mem _ h)
      · rcases List.mem_cons.1 h with h | h
        · exact .inr (h ▸ List.mem_cons_self ..)
        · exact (ih h).imp_right (List.mem_cons_of_mem _)

/-- Entries left by a delete were there. -/
theorem mem_assocDel {α : Type} (l : List (Nat × α)) (i : Nat) (e : Nat × α) (h : e ∈ assocDel l i) :
    e ∈ l := by
  induction l with
  | nil => exact h
  | cons x l ih =>
    obtain ⟨k, w⟩ := x
    simp only [assocDel] at h
    split at h
    · exact List.mem_cons_of_mem _ h
    · rcases List.mem_cons.1 h with h | h
      · exact h ▸ List.mem_cons_self ..
      · exact List.mem_cons_of_mem _ (ih h)

/-- Written counts touch the fan-out table. -/
theorem State.setCounts_touches {G : List View} (s : State) (c : CellId) (k : StreamId) (n : Counts)
    (hG : [.fan] ⊆ G := by exact View.subset_of (by decide +kernel)) : s.Touches G (s.setCounts c k n) := by
  refine .mono ⟨fun v hv => ?_, fun x => ?_⟩ hG
  · rw [State.setCounts_frame]
    cases v with
    | fan => simp at hv
    | _ => rfl
  · cases x with
    | fan => exact State.wf_setCounts s c k n
    | listed =>
      intro h e he
      simp only [State.setCounts] at he
      split at he
      · exact h e (mem_assocDel _ _ _ he)
      · rename_i hn
        rcases mem_assocPut _ _ _ _ he with rfl | he
        · intro h0; exact hn (by simp_all)
        · exact h e he
    | _ => rw [State.setCounts_frame]; exact id

/-! ### Counts, recomputes and messages -/

theorem State.joinCounts_touches {G : List View} (s : State) (c : CellId) (l : Level) (ks : List StreamId)
    (hG : [.fan] ⊆ G := by exact View.subset_of (by decide +kernel)) : s.Touches G (s.joinCounts c l ks) :=
  .each (fun s k => State.setCounts_touches s c k _ hG) s

theorem State.leaveCounts_touches {G : List View} (s : State) (c : CellId) (l : Level) (ks : List StreamId)
    (hG : [.fan] ⊆ G := by exact View.subset_of (by decide +kernel)) : s.Touches G (s.leaveCounts c l ks) :=
  .each (fun s k => State.setCounts_touches s c k _ hG) s

/-- A recompute touches the stored demand and Port V. -/
theorem State.recompute_touches {G : List View} (s : State) (k : StreamId)
    (hG : [.demand, .portV] ⊆ G := by exact View.subset_of (by decide +kernel)) : s.Touches G (s.recompute k) := by
  refine .mono ?_ hG
  simp only [State.recompute]
  split
  · exact .refl _ _
  · refine .trans ⟨fun v hv => ?_, fun c => ?_⟩ (State.notify_touches _ .V _ (View.mem_of rfl))
    · cases v with
      | demand => simp at hv
      | _ => rfl
    · cases c <;> exact id

theorem State.recomputeEach_touches {G : List View} (s : State) (ks : List StreamId)
    (hG : [.demand, .portV] ⊆ G := by exact View.subset_of (by decide +kernel)) : s.Touches G (s.recomputeEach ks) :=
  .each (fun s k => State.recompute_touches s k hG) s

theorem State.recomputeAll_touches {G : List View} (s : State)
    (hG : [.demand, .portV] ⊆ G := by exact View.subset_of (by decide +kernel)) :
    s.Touches G s.recomputeAll := State.recomputeEach_touches s _ hG

theorem State.recomputeWatched_touches {G : List View} (s : State) (c : CellId)
    (hG : [.demand, .portV] ⊆ G := by exact View.subset_of (by decide +kernel)) :
    s.Touches G (s.recomputeWatched c) := State.recomputeEach_touches s _ hG

/-- What a message to a cell or to a trunk's cells may change. -/
abbrev messageViews : List View := [.portW, .trunks, .trunk .flags, .trunk .control]

theorem State.raiseFlag_touches {G : List View} (s : State) (t : TrunkId) (f : ErrorFlag)
    (hG : [.portW, .trunks, .trunk .flags] ⊆ G := by exact View.subset_of (by decide +kernel)) : s.Touches G (s.raiseFlag t f) := by
  refine .mono ?_ hG
  simp only [State.raiseFlag]
  split
  · exact .refl _ _
  · refine .trans (State.setTrunk_touches _ _ _ (fun x hx => ?_) (View.mem_of rfl))
      (State.notify_touches _ .W _ (View.mem_of rfl))
    cases x with
    | flags => simp at hx
    | _ => rfl

theorem State.append_touches {G : List View} (s : State) (t : TrunkId) (m : Ctl)
    (hG : messageViews ⊆ G := by exact View.subset_of (by decide +kernel)) : s.Touches G (s.append t m) := by
  refine .mono ?_ hG
  simp only [State.append]
  split
  · split
    · refine State.setTrunk_touches _ _ _ (fun x hx => ?_) (View.mem_of rfl)
      cases x with
      | control => simp at hx
      | _ => rfl
    · exact State.raiseFlag_touches ..
  · exact .refl _ _

theorem State.tell_touches {G : List View} (s : State) (c : CellId) (b : CtlBody)
    (hG : messageViews ⊆ G := by exact View.subset_of (by decide +kernel)) : s.Touches G (s.tell c b) := State.append_touches _ _ _ hG

theorem State.tellAll_touches {G : List View} (s : State) (t : TrunkId) (b : CtlBody)
    (hG : messageViews ⊆ G := by exact View.subset_of (by decide +kernel)) : s.Touches G (s.tellAll t b) := State.append_touches _ _ _ hG

/-! ### Tiers -/

/-- What a tier recompute with its message may change. -/
abbrev tierViews : List View := [.stations, .station .tier, .fan, .demand, .portV] ++ messageViews

theorem State.recomputeTier_touches {G : List View} (s : State) (i : StationIx)
    (hG : [.stations, .station .tier, .fan, .demand, .portV] ⊆ G := by exact View.subset_of (by decide +kernel)) :
    s.Touches G (s.recomputeTier i).1 := by
  refine .mono ?_ hG
  simp only [State.recomputeTier]
  split
  · exact .refl _ _
  · rename_i r hr
    split
    · exact .refl _ _
    · have leave := State.leaveCounts_touches (G := [.fan]) s r.cell r.tier r.subs
      have both := leave.trans (State.joinCounts_touches _ r.cell (s.tierOf r.binding r.cell) r.subs)
      refine (both.mono (View.subset_of (by decide +kernel))).trans
        (.trans (State.putStation_touches _ i r _ ?_ (fun x hx => ?_) (View.mem_of rfl))
          (State.recomputeEach_touches ..))
      · rw [both.station? i, hr]
      · cases x with
        | tier => simp at hx
        | _ => rfl

theorem State.tellTier_touches {G : List View} (s : State) (i : StationIx) (o : Option Level)
    (hG : messageViews ⊆ G := by exact View.subset_of (by decide +kernel)) : s.Touches G (s.tellTier i o) := by
  simp only [State.tellTier]
  split
  · exact State.tell_touches _ _ _ hG
  · exact .refl _ _
  · exact .refl _ _

theorem State.retier_touches {G : List View} (s : State) (i : StationIx)
    (hG : tierViews ⊆ G := by exact View.subset_of (by decide +kernel)) : s.Touches G (s.retier i) :=
  .mono (.trans (State.recomputeTier_touches s i) (State.tellTier_touches _ _ _)) hG

theorem State.subResult_touches {G : List View} (s : State) (x : CellId) (i : StationIx) (n : Nat)
    (r : SubResult) (hG : messageViews ⊆ G := by exact View.subset_of (by decide +kernel)) : s.Touches G (s.subResult x i n r) :=
  State.tell_touches _ _ _ hG

/-! ### Subscriptions -/

/-- What SUBSCRIBE, UNSUBSCRIBE and a withdrawal may change. -/
abbrev subscriptionViews : List View := [.stations, .station .subs, .fan, .demand, .portV] ++ messageViews

theorem State.putSubs_touches {G : List View} (s : State) (i : StationIx) (r : Station)
    (ks : List StreamId) (h : s.station? i = some r) (hG : [.stations, .station .subs] ⊆ G := by exact View.subset_of (by decide +kernel)) :
    s.Touches G (s.putStation i { r with subs := ks }) := by
  refine .mono (State.putStation_touches s i r _ h (fun x hx => ?_) (View.mem_of rfl)) hG
  cases x with
  | subs => simp at hx
  | _ => rfl

theorem State.subscribe_touches (s : State) (x : CellId) (i : StationIx) (r : Station) (n : Nat)
    (h : s.station? i = some r) : s.Touches subscriptionViews (s.subscribe x i r n) := by
  unfold State.subscribe
  split
  · exact State.subResult_touches ..
  · split
    · exact State.subResult_touches ..
    · split
      · exact State.subResult_touches ..
      · split
        · exact State.subResult_touches ..
        · split
          · exact State.subResult_touches ..
          · rename_i k _ _ _ _
            refine .trans (State.putSubs_touches s i r (r.subs ++ [k]) h) ?_
            split
            · exact State.subResult_touches ..
            · exact .trans (State.joinCounts_touches ..)
                (.trans (State.recompute_touches ..) (State.subResult_touches ..))

theorem State.unsubscribe_touches (s : State) (x : CellId) (i : StationIx) (r : Station) (n : Nat)
    (h : s.station? i = some r) : s.Touches subscriptionViews (s.unsubscribe x i r n) := by
  unfold State.unsubscribe
  split
  · exact State.subResult_touches ..
  · split
    · exact State.subResult_touches ..
    · split
      · rename_i k _ _
        refine .trans (State.putSubs_touches s i r (r.subs.filter (· ≠ k)) h) ?_
        split
        · exact State.subResult_touches ..
        · exact .trans (State.leaveCounts_touches ..)
            (.trans (State.recompute_touches ..) (State.subResult_touches ..))
      · exact State.subResult_touches ..

/-! ### Withdrawal -/

/-- The records of a mapped table. -/
theorem assocGet_map {α β : Type} (l : List (Nat × α)) (f : α → β) (i : Nat) :
    assocGet (l.map fun e => (e.1, f e.2)) i = (assocGet l i).map f := by
  induction l with
  | nil => rfl
  | cons e l ih =>
    simp only [List.map_cons, assocGet, ih]
    split <;> rfl

/-- A mapped table has the keys it had. -/
theorem risingFrom_map {α β : Type} (l : List (Nat × α)) (f : α → β) (b : Option Nat) :
    risingFrom b (l.map fun e => (e.1, f e.2)) = risingFrom b l := by
  induction l generalizing b with
  | nil => cases b <;> rfl
  | cons e l ih => cases b <;> simp [risingFrom, ih]

/-- A filtered table keeps rising keys above the bound. -/
theorem risingFrom_filter_some {α : Type} (l : List (Nat × α)) (p : Nat × α → Bool) (b : Nat)
    (h : risingFrom (some b) l = true) : risingFrom (some b) (l.filter p) = true := by
  induction l generalizing b with
  | nil => rfl
  | cons e l ih =>
    simp only [risingFrom, Bool.and_eq_true, decide_eq_true_eq] at h
    rw [List.filter_cons]
    split
    · simp only [risingFrom, Bool.and_eq_true, decide_eq_true_eq]
      exact ⟨h.1, ih _ h.2⟩
    · exact ih b (risingFrom_mono l _ b h.2 (Nat.le_of_lt h.1))

/-- A filtered table keeps rising keys. -/
theorem risingFrom_filter {α : Type} (l : List (Nat × α)) (p : Nat × α → Bool)
    (h : risingFrom none l = true) : risingFrom none (l.filter p) = true := by
  cases l with
  | nil => rfl
  | cons e l =>
    rw [List.filter_cons]
    split
    · exact risingFrom_filter_some l p e.1 h
    · exact risingFrom_none _ _ (risingFrom_filter_some l p e.1 h)

/-- A withdrawn stream leaves the list of every live record. -/
@[simp] theorem State.station?_dropSubscribers (s : State) (k : StreamId) (i : StationIx) :
    (s.dropSubscribers k).station? i = (s.station? i).map (·.dropStream k) :=
  assocGet_map s.stations.entries (·.dropStream k) i

theorem State.dropSubscribers_touches {G : List View} (s : State) (k : StreamId)
    (hG : [.stations, .station .subs, .fan] ⊆ G := by exact View.subset_of (by decide +kernel)) : s.Touches G (s.dropSubscribers k) := by
  refine .mono ⟨fun v hv => ?_, fun c => ?_⟩ hG
  · cases v with
    | stations => simp at hv
    | fan => simp at hv
    | station x =>
      funext i
      simp only [State.view, State.station?_dropSubscribers, Option.map_map]
      cases x with
      | subs => simp at hv
      | _ => rfl
    | _ => rfl
  · cases c with
    | stations => exact fun h => (risingFrom_map s.stations.entries (Station.dropStream · k) none).trans h
    | fan => exact fun h => risingFrom_filter _ _ h
    | listed => exact fun h e he => h e (List.mem_filter.1 he).1
    | _ => exact id

theorem State.withdraw_touches {G : List View} (s : State) (k : StreamId)
    (hG : subscriptionViews ⊆ G := by exact View.subset_of (by decide +kernel)) : s.Touches G (s.withdraw k) := by
  refine .mono ?_ hG
  exact .trans (State.dropSubscribers_touches s k)
    (.trans (State.recompute_touches ..) (.each (fun s t => State.tellAll_touches ..) _))

/-! ### Descriptors -/

theorem State.setStreamState_touches {G : List View} (s : State) (k : StreamId) (x : StreamState)
    (hG : [.streams, .stream .state] ⊆ G := by exact View.subset_of (by decide +kernel)) :
    s.Touches G (s.setStream k { s.stream k with state := x }) := by
  refine .mono (State.setStream_touches _ _ _ (fun v hv => ?_) (View.mem_of rfl)) hG
  cases v with
  | state => simp at hv
  | _ => rfl

theorem State.endDrain_touches {G : List View} (s : State) (k : StreamId)
    (hG : [.streams, .stream .state, .portV] ⊆ G := by exact View.subset_of (by decide +kernel)) : s.Touches G (s.endDrain k) := by
  refine .mono ?_ hG
  simp only [State.endDrain]
  split
  · exact .trans (State.setStreamState_touches ..) (State.notify_touches _ .V _ (View.mem_of rfl))
  · exact .refl _ _

theorem State.freeCore_touches {G : List View} (s : State) (d : DescIx)
    (hG : [.descs, .used, .streams, .stream .inUse] ⊆ G := by exact View.subset_of (by decide +kernel)) : s.Touches G (s.freeCore d) := by
  refine .mono ?_ hG
  unfold State.freeCore
  split
  · exact .refl _ _
  · rename_i r _
    refine .trans (u := { s with descs := s.descs.del d, used := s.used.filter (· ∉ r.blocks) })
      ⟨fun v hv => ?_, fun c => ?_⟩ (State.setStream_touches _ _ _ (fun v hv => ?_) (View.mem_of rfl))
    · cases v with
      | descs => simp at hv
      | used => simp at hv
      | _ => rfl
    · cases c with
      | descs => exact Table.wf_del _ _
      | used => exact List.Pairwise.filter _
      | _ => exact id
    · cases v with
      | inUse => simp at hv
      | _ => rfl

/-- What the freeing of a descriptor may change. -/
abbrev freeViews : List View := [.descs, .used, .streams, .stream .inUse, .stream .state, .portV]

theorem State.freeDesc_touches {G : List View} (s : State) (d : DescIx)
    (hG : freeViews ⊆ G := by exact View.subset_of (by decide +kernel)) : s.Touches G (s.freeDesc d) := by
  refine .mono ?_ hG
  unfold State.freeDesc
  split
  · exact .refl _ _
  · exact .trans (State.freeCore_touches ..) (State.endDrain_touches ..)

/-- What a descriptor's leaving of a replay queue may change. -/
abbrev unlinkViews : List View := [.trunks, .trunk .replay, .trunk .allocation] ++ freeViews

theorem State.setUnlinked_touches {G : List View} (s : State) (t : TrunkId) (d : DescIx)
    (hG : [.trunks, .trunk .replay, .trunk .allocation] ⊆ G := by exact View.subset_of (by decide +kernel)) :
    s.Touches G (s.setTrunk t ((s.trunk t).unlink d)) := by
  refine .mono (State.setTrunk_touches _ _ _ (fun x hx => ?_) (View.mem_of rfl)) hG
  cases x with
  | replay => simp at hx
  | allocation => simp at hx
  | _ => rfl

theorem State.unlink_touches {G : List View} (s : State) (t : TrunkId) (d : DescIx)
    (hG : unlinkViews ⊆ G := by exact View.subset_of (by decide +kernel)) : s.Touches G (s.unlink t d) := by
  have first := State.setUnlinked_touches (G := unlinkViews) s t d
  refine .mono (first.trans ?_) hG
  unfold State.unlink
  dsimp only
  split
  · exact .refl _ _
  · split
    · split
      · exact .trans (State.putDesc_touches ..) (State.freeDesc_touches ..)
      · exact State.putDesc_touches ..
    · exact .refl _ _
    · exact .refl _ _

theorem State.flushReplay_touches {G : List View} (s : State) (t : TrunkId)
    (hG : unlinkViews ⊆ G := by exact View.subset_of (by decide +kernel)) : s.Touches G (s.flushReplay t) :=
  .each (fun s d => State.unlink_touches s t d hG) s

theorem State.setReplay_touches {G : List View} (s : State) (t : TrunkId) (q : List DescIx)
    (hG : [.trunks, .trunk .replay] ⊆ G := by exact View.subset_of (by decide +kernel)) :
    s.Touches G (s.setTrunk t { s.trunk t with replay := q }) := by
  refine .mono (State.setTrunk_touches _ _ _ (fun x hx => ?_) (View.mem_of rfl)) hG
  cases x with
  | replay => simp at hx
  | _ => rfl

/-- What a release may change. -/
abbrev releaseViews : List View := [.trunks, .trunk .replay, .stream .unwatched] ++ freeViews

theorem State.releaseDesc_touches {G : List View} (s : State) (d : DescIx)
    (hG : releaseViews ⊆ G := by exact View.subset_of (by decide +kernel)) : s.Touches G (s.releaseDesc d) := by
  refine .mono ?_ hG
  unfold State.releaseDesc
  split
  · exact .refl _ _
  · dsimp only
    split
    · refine .trans (State.setStream_touches _ _ _ (fun v hv => ?_) (View.mem_of rfl)) (State.freeDesc_touches ..)
      cases v with
      | unwatched => simp at hv
      | _ => rfl
    · exact .trans (State.putDesc_touches ..) (.each (fun s t => State.setReplay_touches ..) _)

theorem State.setRelease_touches {G : List View} (s : State) (q : List DescIx)
    (hG : [.release] ⊆ G := by exact View.subset_of (by decide +kernel)) : s.Touches G { s with release := q } := by
  refine .mono ⟨fun v hv => ?_, fun c => ?_⟩ hG
  · cases v with
    | release => simp at hv
    | _ => rfl
  · cases c <;> exact id

theorem State.setMarks_touches {G : List View} (s : State) (m : MarkCounter)
    (hG : [.marks] ⊆ G := by exact View.subset_of (by decide +kernel)) : s.Touches G { s with marks := m } := by
  refine .mono ⟨fun v hv => ?_, fun c => ?_⟩ hG
  · cases v with
    | marks => simp at hv
    | _ => rfl
  · cases c <;> exact id

theorem State.releaseHeld_touches {G : List View} (s : State) (d : DescIx)
    (hG : .release :: releaseViews ⊆ G := by exact View.subset_of (by decide +kernel)) : s.Touches G (s.releaseHeld d) :=
  .mono (.trans (State.setRelease_touches s _) (State.releaseDesc_touches ..)) hG

theorem State.flushStale_touches {G : List View} (s : State) (d : DescIx)
    (hG : unlinkViews ⊆ G := by exact View.subset_of (by decide +kernel)) : s.Touches G (s.flushStale d) := by
  refine .mono ?_ hG
  unfold State.flushStale
  split
  · exact .refl _ _
  · exact .trans (State.notify_touches _ .V _ (View.mem_of rfl))
      (.each (fun s t => State.unlink_touches ..) _)

/-- What a mark event may change. -/
abbrev markViews : List View := [.marks, .release, .stream .unwatched] ++ unlinkViews

theorem State.markEvent_touches {G : List View} (s : State) (hG : markViews ⊆ G := by exact View.subset_of (by decide +kernel)) :
    s.Touches G s.markEvent :=
  .mono (.trans (State.setMarks_touches s _) (.trans (.each (fun s d => State.releaseHeld_touches ..) _)
    (.each (fun s d => State.flushStale_touches ..) _))) hG

/-! ### Streams -/

theorem State.freeUpload_touches {G : List View} (s : State) (k : StreamId)
    (hG : freeViews ⊆ G := by exact View.subset_of (by decide +kernel)) : s.Touches G (s.freeUpload k) := by
  unfold State.freeUpload
  split
  · exact State.freeDesc_touches _ _ hG
  · exact .refl _ _

theorem State.freeHeld_touches {G : List View} (s : State) (k : StreamId)
    (hG : .release :: freeViews ⊆ G := by exact View.subset_of (by decide +kernel)) : s.Touches G (s.freeHeld k) :=
  .mono (.each (fun s d => .trans (State.setRelease_touches s _) (State.freeDesc_touches ..)) s) hG

/-- What the closing of a stream may change. -/
abbrev closeViews : List View := .release :: freeViews ++ subscriptionViews

theorem State.startDrain_touches {G : List View} (s : State) (k : StreamId)
    (hG : [.streams, .stream .state, .portV] ⊆ G := by exact View.subset_of (by decide +kernel)) : s.Touches G (s.startDrain k) :=
  .mono (.trans (State.setStreamState_touches ..) (State.endDrain_touches ..)) hG

theorem State.closeStream_touches {G : List View} (s : State) (k : StreamId)
    (hG : closeViews ⊆ G := by exact View.subset_of (by decide +kernel)) : s.Touches G (s.closeStream k) :=
  .mono (.trans (State.withdraw_touches s k) (.trans (State.freeUpload_touches ..)
    (.trans (State.freeHeld_touches ..) (State.startDrain_touches ..)))) hG

end Sys2Proof.Machine
end

section
/-! PROOF. The footprints of the operations of trunks, cells, stations, tickets and reports. -/
namespace Sys2Proof.Machine

/-! ### Trunks (Chapter 2) -/

theorem State.idleUpdate_touches {G : List View} (s : State) (t : TrunkId)
    (hG : [.trunks, .trunk .idle] ⊆ G := by exact View.subset_of (by decide +kernel)) : s.Touches G (s.idleUpdate t) := by
  have set : ∀ o, s.Touches [.trunks, .trunk .idle] (s.setTrunk t { s.trunk t with idle := o }) :=
    fun o => State.setTrunk_touches _ _ _ (fun x hx => by cases x <;> simp at hx <;> rfl) (View.mem_of (by decide +kernel))
  refine .mono ?_ hG
  simp only [State.idleUpdate]
  split
  · split
    · exact .refl _ _
    · exact set _
  · exact set _

/-- What UNHEARD changes in a cell's record (R67). -/
abbrev unhearViews : List View := [.cells, .cell .live, .cell .miss, .cell .accepted, .cell .candidate]

theorem Cell.unhear_view (r : Cell) (x : CellView) (hx : View.cell x ∉ unhearViews) :
    r.unhear.view x = r.view x := by
  unfold Cell.unhear
  split
  · rfl
  · cases x <;> simp at hx <;> rfl
  · cases x <;> simp at hx <;> rfl

theorem State.unhearCells_touches {G : List View} (s : State) (t : TrunkId)
    (hG : unhearViews ⊆ G := by exact View.subset_of (by decide +kernel)) : s.Touches G (s.unhearCells t) :=
  .mono (.each (fun s c => State.modCell_touches s c _ (fun x r _ hx => r.unhear_view x hx) (View.mem_of (by decide +kernel))) s) hG

/-- What the end of framing changes in a trunk's record. -/
abbrev framingViews : List View := [.trunks, .trunk .nextFrame, .trunk .mfTaken, .trunk .markField,
  .trunk .awaiting, .trunk .polled, .trunk .marker, .trunk .fails, .trunk .echo, .trunk .ack,
  .trunk .allocation, .trunk .frame]

/-- What a passage to OFF, STANDBY or WAKING may change. -/
abbrev quitViews : List View := framingViews
  ++ [.trunk .state, .trunk .entry, .trunk .idle, .trunk .control, .demand] ++ unhearViews ++ unlinkViews

theorem State.quitTrunk_touches {G : List View} (s : State) (t : TrunkId) (dest : TrunkState)
    (entry : Option Time) (hG : quitViews ⊆ G := by exact View.subset_of (by decide +kernel)) : s.Touches G (s.quitTrunk t dest entry) := by
  have first : s.Touches (framingViews ++ [.trunk .state, .trunk .entry, .trunk .idle, .trunk .control])
      (s.setTrunk t ((s.trunk t).quit dest entry)) :=
    State.setTrunk_touches _ _ _ (fun x hx => by cases x <;> simp at hx <;> rfl) (View.mem_of (by decide +kernel))
  refine .mono ((first.mono (View.subset_of (by decide +kernel))).trans ?_) hG
  unfold State.quitTrunk
  dsimp only
  split
  · exact .trans (State.unhearCells_touches ..)
      (.trans (State.flushReplay_touches ..) (State.recomputeAll_touches ..))
  · exact State.unhearCells_touches ..
  all_goals exact .refl _ _

theorem State.trunkNotice_touches {G : List View} (s : State) (t : TrunkId) (a b : TrunkState)
    (why : TrunkReason) (hG : .portW ∈ G := by exact View.mem_of (by decide +kernel)) : s.Touches G (s.trunkNotice t a b why) :=
  State.notify_touches s .W _ hG

theorem State.enterWaking_touches {G : List View} (s : State) (t : TrunkId)
    (hG : [.trunks, .trunk .state, .trunk .entry] ⊆ G := by exact View.subset_of (by decide +kernel)) : s.Touches G (s.enterWaking t) :=
  .mono (State.setTrunk_touches _ _ _ (fun x hx => by cases x <;> simp at hx <;> rfl) (View.mem_of (by decide +kernel))) hG

theorem State.enterAligning_touches {G : List View} (s : State) (t : TrunkId)
    (hG : framingViews ++ [.trunk .state, .trunk .entry, .trunk .good] ⊆ G := by exact View.subset_of (by decide +kernel)) :
    s.Touches G (s.enterAligning t) :=
  .mono (State.setTrunk_touches _ _ _ (fun x hx => by cases x <;> simp at hx <;> rfl) (View.mem_of (by decide +kernel))) hG

/-- What the entry into ACTIVE may change. -/
abbrev activeViews : List View := [.trunks, .trunk .state, .trunk .entry, .trunk .bad, .trunk .idle, .demand,
  .portW, .portV]

theorem State.enterActive_touches {G : List View} (s : State) (t : TrunkId) (why : TrunkReason)
    (hG : activeViews ⊆ G := by exact View.subset_of (by decide +kernel)) : s.Touches G (s.enterActive t why) := by
  have first : s.Touches activeViews
      (s.setTrunk t { s.trunk t with state := .active, entry := none, bad := 0 }) :=
    State.setTrunk_touches _ _ _ (fun x hx => by cases x <;> simp at hx <;> rfl) (View.mem_of (by decide +kernel))
  refine .mono (first.trans ?_) hG
  unfold State.enterActive
  exact .trans (State.trunkNotice_touches ..)
    (.trans (State.recomputeAll_touches ..) (State.idleUpdate_touches ..))

/-- What the entry into LOST may change. -/
abbrev lostViews : List View := [.trunk .state, .trunk .entry, .trunk .good, .trunk .bad, .trunk .idle,
  .trunk .flags, .demand, .portW] ++ unlinkViews

theorem State.enterLost_touches {G : List View} (s : State) (t : TrunkId)
    (hG : lostViews ⊆ G := by exact View.subset_of (by decide +kernel)) : s.Touches G (s.enterLost t) := by
  have first : s.Touches lostViews (s.setTrunk t { s.trunk t with
      state := .lost, entry := some s.now, good := 0, bad := 2, allocation := none, idle := none }) :=
    State.setTrunk_touches _ _ _ (fun x hx => by cases x <;> simp at hx <;> rfl) (View.mem_of (by decide +kernel))
  exact .mono (first.trans (.trans (State.flushReplay_touches ..) (.trans (State.trunkNotice_touches ..)
    (.trans (State.raiseFlag_touches ..) (State.recomputeAll_touches ..))))) hG

/-- What TRUNK_SET stores. -/
abbrev storeViews : List View := [.trunks, .trunk .enable, .trunk .autoWake, .trunk .idlePeriod,
  .trunk .markCarriage, .trunk .rmin, .trunk .idle]

theorem State.store_touches {G : List View} (s : State) (t : TrunkId) (now : Time) (en aw : Bool) (p : Nat)
    (mc : Bool) (rm : Nat) (hG : storeViews ⊆ G := by exact View.subset_of (by decide +kernel)) :
    s.Touches G (s.setTrunk t ((s.trunk t).store now en aw p mc rm)) :=
  .mono (State.setTrunk_touches _ _ _ (fun x hx => by cases x <;> simp at hx <;> rfl) (View.mem_of (by decide +kernel))) hG

theorem State.disable_touches {G : List View} (s : State) (t : TrunkId)
    (hG : .trunk .intake :: .trunk .urgent :: quitViews ⊆ G := by exact View.subset_of (by decide +kernel)) : s.Touches G (s.disable t) := by
  refine .mono ?_ hG
  unfold State.disable
  split
  · exact .refl _ _
  all_goals
    exact .trans (State.quitTrunk_touches ..)
      (State.setTrunk_touches _ _ _ (fun x hx => by cases x <;> simp at hx <;> rfl) (View.mem_of (by decide +kernel)))

theorem State.enable_touches {G : List View} (s : State) (t : TrunkId)
    (hG : [.trunks, .trunk .state] ⊆ G := by exact View.subset_of (by decide +kernel)) : s.Touches G (s.enable t) := by
  refine .mono ?_ hG
  unfold State.enable
  split
  · exact State.setTrunk_touches _ _ _ (fun x hx => by cases x <;> simp at hx <;> rfl) (View.mem_of (by decide +kernel))
  all_goals exact .refl _ _

theorem State.standDown_touches {G : List View} (s : State) (t : TrunkId)
    (hG : quitViews ⊆ G := by exact View.subset_of (by decide +kernel)) : s.Touches G (s.standDown t) := by
  unfold State.standDown
  split
  · exact .refl _ _
  · exact .refl _ _
  all_goals exact State.quitTrunk_touches _ _ _ _ hG

/-! ### Counts of a cell, unbinding and removal (Chapters 6 and 8) -/

/-- What a change of a cell's counts may change. -/
abbrev countViews : List View := [.cells, .cell .attached, .cell .incoming, .trunks, .trunk .idle]

/-- A change of a cell's record that leaves all but its two counts. -/
def CountsOnly (f : Cell → Cell) : Prop :=
  ∀ r x, x ≠ CellView.attached → x ≠ .incoming → (f r).view x = r.view x

theorem countsOnly_gain : CountsOnly Cell.gain := fun r x _ _ => by cases x <;> first | rfl | contradiction
theorem countsOnly_lose : CountsOnly Cell.lose := fun r x _ _ => by cases x <;> first | rfl | contradiction
theorem countsOnly_expect : CountsOnly Cell.expect := fun r x _ _ => by cases x <;> first | rfl | contradiction
theorem countsOnly_unexpect : CountsOnly Cell.unexpect :=
  fun r x _ _ => by cases x <;> first | rfl | contradiction
theorem countsOnly_arrive : CountsOnly Cell.arrive := fun r x _ _ => by cases x <;> first | rfl | contradiction

theorem State.countCell_touches {G : List View} (s : State) (c : CellId) {f : Cell → Cell}
    (hf : CountsOnly f) (hG : countViews ⊆ G := by exact View.subset_of (by decide +kernel)) : s.Touches G (s.countCell c f) := by
  refine .mono (.trans (State.modCell_touches s c f (fun x r _ hx => hf r x ?_ ?_) (View.mem_of (by decide +kernel)))
    (State.idleUpdate_touches ..)) hG
  · rintro rfl; simp at hx
  · rintro rfl; simp at hx

/-- What the end of a binding may change. -/
abbrev unbindViews : List View := [.station .binding, .station .grace] ++ tierViews

theorem State.unbindStation_touches {G : List View} (s : State) (i : StationIx)
    (hG : unbindViews ⊆ G := by exact View.subset_of (by decide +kernel)) : s.Touches G (s.unbindStation i) := by
  refine .mono ?_ hG
  unfold State.unbindStation
  split
  · exact .refl _ _
  · rename_i r hr
    refine .trans (State.putStation_touches s i r _ hr (fun x hx => ?_) (View.mem_of (by decide +kernel))) (State.retier_touches ..)
    unfold Station.unbind
    split <;> cases x <;> simp at hx <;> rfl

theorem State.setTicketState_touches {G : List View} (s : State) (k : Token) (t : Ticket) (x : TicketState)
    (h : s.ticket? k = some t) (hG : [.tickets, .ticket .state] ⊆ G := by exact View.subset_of (by decide +kernel)) :
    s.Touches G (s.putTicket k { t with state := x }) :=
  .mono (State.putTicket_touches s k t _ h (fun x hx => by cases x <;> simp at hx <;> rfl) (View.mem_of (by decide +kernel))) hG

theorem State.releaseTicket_touches {G : List View} (s : State) (i : StationIx) (b : Binding) (c : Cause)
    (hG : [.tickets, .ticket .state, .portT] ⊆ G := by exact View.subset_of (by decide +kernel)) : s.Touches G (s.releaseTicket i b c) := by
  refine .mono ?_ hG
  unfold State.releaseTicket
  split
  · split
    · rename_i t ht
      exact .trans (State.setTicketState_touches _ _ t _ ht) (State.notify_touches _ .T _ (View.mem_of (by decide +kernel)))
    · exact .refl _ _
  · exact .refl _ _
  · exact .refl _ _

theorem State.leaveCells_touches {G : List View} (s : State) (r : Station)
    (hG : countViews ⊆ G := by exact View.subset_of (by decide +kernel)) : s.Touches G (s.leaveCells r) := by
  unfold State.leaveCells
  dsimp only
  split
  · exact .trans (State.countCell_touches _ _ countsOnly_lose hG)
      (State.countCell_touches _ _ countsOnly_unexpect hG)
  · exact State.countCell_touches _ _ countsOnly_lose hG

/-- Every view of the Station Table. -/
abbrev stationViews : List View := [.stations, .station .address, .station .cell, .station .roam,
  .station .binding, .station .subs, .station .tier, .station .lastHeard, .station .grace,
  .station .steerHold]

/-- What a removal may change. -/
abbrev removeViews : List View := stationViews ++ countViews
  ++ [.fan, .demand, .portV, .tickets, .ticket .state, .portT]

theorem State.delStation_touches {G : List View} (s : State) (i : StationIx)
    (hG : stationViews ⊆ G := by exact View.subset_of (by decide +kernel)) : s.Touches G { s with stations := s.stations.del i } := by
  refine .mono ⟨fun v hv => ?_, fun c => ?_⟩ hG
  · cases v with
    | station x => cases x <;> simp at hv
    | stations => simp at hv
    | _ => rfl
  · cases c with
    | stations => exact Table.wf_del _ _
    | _ => exact id

theorem State.remove_touches {G : List View} (s : State) (i : StationIx) (c : Cause)
    (hG : removeViews ⊆ G := by exact View.subset_of (by decide +kernel)) : s.Touches G (s.remove i c) := by
  refine .mono ?_ hG
  unfold State.remove
  split
  · exact .refl _ _
  · rename_i r hr
    have leave := State.leaveCounts_touches (G := [.fan]) s r.cell r.tier r.subs
    exact .trans (leave.mono (View.subset_of (by decide +kernel))) (.trans
      (State.putSubs_touches _ i r [] ((leave.station? i).trans hr))
      (.trans (State.recomputeEach_touches ..) (.trans (State.leaveCells_touches ..)
        (.trans (State.releaseTicket_touches ..) (State.delStation_touches ..)))))

theorem State.fenceSteer_touches {G : List View} (s : State) (r : Station)
    (hG : messageViews ⊆ G := by exact View.subset_of (by decide +kernel)) : s.Touches G (s.fenceSteer r) := by
  unfold State.fenceSteer
  split
  · exact State.tell_touches _ _ _ hG
  · exact .refl _ _
  · exact .refl _ _

theorem State.tellDetached_touches {G : List View} (s : State) (i : StationIx) (r : Station)
    (hG : messageViews ⊆ G := by exact View.subset_of (by decide +kernel)) : s.Touches G (s.tellDetached i r) := by
  unfold State.tellDetached
  dsimp only
  split
  · exact .trans (State.tell_touches _ _ _ hG) (State.tell_touches _ _ _ hG)
  · exact State.tell_touches _ _ _ hG

/-! ### CELL_SET (R56 to R59) -/

/-- A settling changes binding and seat-grace start alone. -/
theorem Station.settle_view (r : Station) (now : Time) (a b : CellKind) (x : StationView)
    (hb : x ≠ .binding) (hg : x ≠ .grace) : (r.settle now a b).view x = r.view x := by
  unfold Station.settle
  split <;> cases x <;> first | rfl | contradiction

theorem State.resettle_touches {G : List View} (a b : CellKind) (s : State) (i : StationIx)
    (hG : unbindViews ⊆ G := by exact View.subset_of (by decide +kernel)) : s.Touches G (State.resettle a b s i) := by
  refine .mono ?_ hG
  unfold State.resettle
  split
  · exact .refl _ _
  · rename_i r hr
    refine .trans (State.putStation_touches s i r _ hr (fun x hx => r.settle_view _ _ _ x ?_ ?_) (View.mem_of (by decide +kernel)))
      (State.retier_touches ..)
    · rintro rfl; simp at hx
    · rintro rfl; simp at hx

theorem State.putCell_touches {G : List View} (s : State) (c : CellId) (r r' : Cell)
    (h : s.cells.get? c = some r) (hr : ∀ x, View.cell x ∉ G → r'.view x = r.view x) (hG : .cells ∈ G) :
    s.Touches G { s with cells := s.cells.put c r' } := by
  have e : ({ s with cells := s.cells.put c r' } : State) = s.modCell c fun _ => r' := by
    simp [State.modCell, h]
  rw [e]
  exact State.modCell_touches s c _ (fun x q hq hx => by rw [h] at hq; cases hq; exact hr x hx) hG

/-- Every view of the Cell Table. -/
abbrev cellViews : List View := [.cells, .cell .kind, .cell .section_, .cell .cmax, .cell .neighbours,
  .cell .override, .cell .live, .cell .miss, .cell .accepted, .cell .candidate, .cell .lastA,
  .cell .attached, .cell .incoming, .cell .score, .cell .load]

theorem State.setCells_touches {G : List View} (s : State) (x : Table Cell)
    (hx : s.cells.wf = true → x.wf = true) (hG : cellViews ⊆ G := by exact View.subset_of (by decide +kernel)) :
    s.Touches G { s with cells := x } := by
  refine .mono ⟨fun v hv => ?_, fun c => ?_⟩ hG
  · cases v with
    | cell x => cases x <;> simp at hv
    | cells => simp at hv
    | _ => rfl
  · cases c with
    | cells => exact hx
    | _ => exact id

/-- What a rewrite of a cell's configuration may change. -/
abbrev rewriteViews : List View := [.cells, .cell .kind, .cell .section_, .cell .cmax, .cell .neighbours,
  .cell .override] ++ unbindViews

theorem State.rewriteCell_touches {G : List View} (s : State) (c : CellId) (old : Cell) (b : List Byte)
    (h : s.cells.get? c = some old) (hG : rewriteViews ⊆ G := by exact View.subset_of (by decide +kernel)) :
    s.Touches G (s.rewriteCell c old (old.configure c b)) := by
  have first : s.Touches rewriteViews { s with cells := s.cells.put c (old.configure c b) } :=
    State.putCell_touches s c old _ h (fun x hx => by cases x <;> simp at hx <;> rfl) (View.mem_of (by decide +kernel))
  refine .mono (first.trans ?_) hG
  unfold State.rewriteCell
  dsimp only
  split
  · exact .refl _ _
  · exact .each (fun s i => State.resettle_touches ..) _

/-- What the removal of a cell may change. -/
abbrev removeCellViews : List View := cellViews ++ [.trunks, .trunk .urgent, .trunk .intake, .trunk .polled]

theorem State.removeCell_touches {G : List View} (s : State) (c : CellId)
    (hG : removeCellViews ⊆ G := by exact View.subset_of (by decide +kernel)) : s.Touches G (s.removeCell c) := by
  refine .mono (.trans (State.setCells_touches s (s.cells.del c) (Table.wf_del _ _)) ?_) hG
  exact State.setTrunk_touches _ _ _ (fun x hx => by cases x <;> simp at hx <;> rfl) (View.mem_of (by decide +kernel))

/-! ### An upstream frame (Chapters 2 to 5) -/

/-- What the report slot and the reports of an answer may change. -/
abbrev placeViews : List View := [.portW, .trunks, .trunk .flags, .trunk .echo, .trunk .urgent,
  .trunk .intake]

theorem State.place_touches {G : List View} (s : State) (t : TrunkId) (r : Report)
    (hG : placeViews ⊆ G := by exact View.subset_of (by decide +kernel)) : s.Touches G (s.place t r) :=
  .mono (State.setTrunk_touches _ _ _ (fun x hx => by cases x <;> simp at hx <;> rfl) (View.mem_of (by decide +kernel))) hG

theorem State.setEcho_touches {G : List View} (s : State) (t : TrunkId) (e : Echo)
    (hG : placeViews ⊆ G := by exact View.subset_of (by decide +kernel)) : s.Touches G (s.setEcho t e) :=
  .mono (State.setTrunk_touches _ _ _ (fun x hx => by cases x <;> simp at hx <;> rfl) (View.mem_of (by decide +kernel))) hG

theorem Trunk.addUrgent_view (r : Trunk) (pos : Nat) (x : TrunkView) (hx : x ≠ .urgent) :
    (r.addUrgent pos).view x = r.view x := by
  unfold Trunk.addUrgent
  split
  · rfl
  · split
    · cases x <;> first | rfl | contradiction
    · rfl

theorem State.addUrgent_touches {G : List View} (s : State) (t : TrunkId) (pos : Nat)
    (hG : [.trunks, .trunk .urgent] ⊆ G := by exact View.subset_of (by decide +kernel)) :
    s.Touches G (s.setTrunk t ((s.trunk t).addUrgent pos)) := by
  refine .mono (State.setTrunk_touches _ _ _ (fun x hx => Trunk.addUrgent_view _ _ x ?_) (View.mem_of (by decide +kernel))) hG
  rintro rfl; simp at hx

theorem State.routeUrgent_touches {G : List View} (s : State) (t : TrunkId) (c : CellId)
    (hG : placeViews ⊆ G := by exact View.subset_of (by decide +kernel)) : s.Touches G (s.routeUrgent t c) :=
  .mono (State.addUrgent_touches (G := placeViews) s t _) hG

theorem State.garbledSlot_touches (s : State) (t : TrunkId) : s.Touches placeViews (s.garbledSlot t) :=
  .trans (State.raiseFlag_touches ..) (State.setEcho_touches ..)

theorem State.settleReport_touches (s : State) (t : TrunkId) (r : Report) :
    s.Touches placeViews (s.settleReport t r) := by
  unfold State.settleReport
  split
  · exact .trans (State.raiseFlag_touches ..) (State.setEcho_touches ..)
  · split
    · exact .trans (State.routeUrgent_touches ..) (State.setEcho_touches ..)
    · split
      · exact .trans (State.place_touches ..) (State.setEcho_touches ..)
      · exact State.setEcho_touches ..

theorem State.settleSlot_touches {G : List View} (s : State) (t : TrunkId) (i : SlotInput)
    (hG : placeViews ⊆ G := by exact View.subset_of (by decide +kernel)) : s.Touches G (s.settleSlot t i) := by
  refine .mono ?_ hG
  unfold State.settleSlot
  split
  · exact State.setEcho_touches ..
  · exact State.garbledSlot_touches ..
  · split
    · exact State.garbledSlot_touches ..
    · exact State.settleReport_touches ..

theorem State.considerReports_touches {G : List View} (t : TrunkId) (known : Bool) (bs : List (List Byte))
    (hG : placeViews ⊆ G := by exact View.subset_of (by decide +kernel)) (s : State) (ok : List Bool) :
    s.Touches G (s.considerReports t known bs ok).1 := by
  induction bs generalizing s ok with
  | nil => exact .refl _ _
  | cons b bs ih =>
    unfold State.considerReports
    split
    · exact .mono (State.raiseFlag_touches (G := placeViews) ..) hG
    · split
      · exact .trans (.mono (State.raiseFlag_touches (G := placeViews) ..) hG) (ih ..)
      · split
        · exact .trans (State.routeUrgent_touches _ _ _ hG) (ih ..)
        · split
          · exact .trans (State.place_touches _ _ _ hG) (ih ..)
          · exact .refl _ _

/-- What the status part of an answer may change. -/
abbrev statusViews : List View := [.cells, .cell .live, .cell .miss, .cell .accepted, .cell .candidate,
  .cell .lastA, .cell .score, .cell .load, .portW, .portV, .demand, .stations, .station .lastHeard]

theorem State.heardCell_touches (s : State) (c : CellId) : s.Touches statusViews (s.heardCell c) := by
  have first : s.Touches statusViews (s.modCell c fun r => { r with miss := 0, live := .live }) :=
    State.modCell_touches _ _ _ (fun x r _ hx => by cases x <;> simp at hx <;> rfl) (View.mem_of (by decide +kernel))
  unfold State.heardCell
  dsimp only
  split
  · exact first.trans (State.notify_touches _ .W _ (View.mem_of (by decide +kernel)))
  · exact first
  · exact first

theorem State.acceptCode_touches (s : State) (c : CellId) (k : Condition) :
    s.Touches statusViews (s.acceptCode c k) := by
  have first : s.Touches statusViews (s.modCell c fun r => { r with accepted := k, candidate := some k }) :=
    State.modCell_touches _ _ _ (fun x r _ hx => by cases x <;> simp at hx <;> rfl) (View.mem_of (by decide +kernel))
  unfold State.acceptCode
  dsimp only
  split
  · exact first.trans (.trans (State.notify_touches _ .W _ (View.mem_of (by decide +kernel))) (State.recomputeWatched_touches ..))
  · exact first.trans (State.notify_touches _ .W _ (View.mem_of (by decide +kernel)))

theorem State.doubleLook_touches (s : State) (c : CellId) (n : Nat) :
    s.Touches statusViews (s.doubleLook c n) := by
  have candidate : ∀ o, s.Touches statusViews (s.modCell c fun r => { r with candidate := o }) := fun o =>
    State.modCell_touches _ _ _ (fun x r _ hx => by cases x <;> simp at hx <;> rfl) (View.mem_of (by decide +kernel))
  unfold State.doubleLook
  split
  · exact candidate _
  · split
    · exact candidate _
    · split
      · exact State.acceptCode_touches ..
      · exact candidate _

theorem Cell.loadUpdate_view (r : Cell) (w : LoadSettings) (a n : Nat) (x : CellView)
    (hx : View.cell x ∉ statusViews) : (r.loadUpdate w a n).view x = r.view x := by
  unfold Cell.loadUpdate
  cases x <;> simp at hx <;> rfl

theorem State.scoreCell_touches (s : State) (c : CellId) (n : Nat) :
    s.Touches statusViews (s.scoreCell c n) := by
  have first : s.Touches statusViews
      (s.modCell c fun _ => (s.cell c).loadUpdate s.load n (s.streamsWatched c)) := by
    refine State.modCell_touches _ _ _ (fun x r hr hx => ?_) (View.mem_of (by decide +kernel))
    rw [Cell.loadUpdate_view _ _ _ _ x hx]
    simp [State.cell, hr]
  unfold State.scoreCell
  dsimp only
  split
  · exact first
  · exact first.trans (.trans (State.notify_touches _ .W _ (View.mem_of (by decide +kernel))) (State.recomputeAll_touches ..))

theorem State.hearStation_touches (c : CellId) (s : State) (i : StationIx) :
    s.Touches statusViews (State.hearStation c s i) := by
  unfold State.hearStation
  split
  · rename_i r hr
    split
    · exact State.putStation_touches _ _ r _ hr (fun x hx => by cases x <;> simp at hx <;> rfl) (View.mem_of (by decide +kernel))
    · exact .refl _ _
  · exact .refl _ _

theorem State.takeStatus_touches {G : List View} (s : State) (c : CellId) (a : PollAnswer)
    (hG : statusViews ⊆ G := by exact View.subset_of (by decide +kernel)) : s.Touches G (s.takeStatus c a) :=
  .mono (.trans (State.heardCell_touches s c) (.trans (State.doubleLook_touches ..)
    (.trans (State.scoreCell_touches ..) (.each (State.hearStation_touches c) _)))) hG

theorem State.pollMissed_touches {G : List View} (s : State) (c : CellId)
    (hG : statusViews ⊆ G := by exact View.subset_of (by decide +kernel)) : s.Touches G (s.pollMissed c) := by
  have first : s.Touches statusViews (s.modCell c Cell.missPoll) :=
    State.modCell_touches _ _ _ (fun x r _ hx => by cases x <;> simp at hx <;> rfl) (View.mem_of (by decide +kernel))
  have silent : ∀ (u : State) (n : Notice), u.Touches statusViews
      ((u.modCell c fun r => { r with live := .silent }).notify .W n) := fun u n =>
    .trans (State.modCell_touches _ _ _ (fun x r _ hx => by cases x <;> simp at hx <;> rfl) (View.mem_of (by decide +kernel)))
      (State.notify_touches _ .W _ (View.mem_of (by decide +kernel)))
  refine .mono (first.trans ?_) hG
  unfold State.pollMissed
  dsimp only
  split
  · exact .refl _ _
  all_goals
    split
    · exact silent _ _
    · exact .refl _ _

theorem State.setAck_touches {G : List View} (s : State) (t : TrunkId) (n : Nat)
    (hG : [.trunks, .trunk .ack] ⊆ G := by exact View.subset_of (by decide +kernel)) : s.Touches G (s.setAck t n) :=
  .mono (State.setTrunk_touches _ _ _ (fun x hx => by cases x <;> simp at hx <;> rfl) (View.mem_of (by decide +kernel))) hG

/-- What the settling of a frame's slot and poll may change. -/
abbrev settleViews : List View := .trunk .ack :: placeViews ++ statusViews

theorem State.settlePoll_touches {G : List View} (s : State) (t : TrunkId) (q : Poll) (u : UpFrame)
    (hG : settleViews ⊆ G := by exact View.subset_of (by decide +kernel)) : s.Touches G (s.settlePoll t q u) := by
  refine .mono ?_ hG
  unfold State.settlePoll
  dsimp only
  split
  · rename_i a _
    refine .trans (u := if (s.configured (cellAt t q.position) && !q.orphan) = true
      then s.takeStatus (cellAt t q.position) a else s) ?_
      (.trans (State.considerReports_touches ..) (State.setAck_touches ..))
    split
    · exact State.takeStatus_touches ..
    · exact .refl _ _
  · refine .trans ?_ (State.setAck_touches ..)
    split
    · exact State.pollMissed_touches ..
    · exact .refl _ _

theorem State.settlePolled_touches {G : List View} (s : State) (t : TrunkId) (u : UpFrame)
    (hG : settleViews ⊆ G := by exact View.subset_of (by decide +kernel)) : s.Touches G (s.settlePolled t u) := by
  unfold State.settlePolled
  split
  · exact State.settlePoll_touches _ _ _ _ hG
  · exact .mono (State.setAck_touches (G := settleViews) ..) hG

theorem State.settleFrame_touches {G : List View} (s : State) (t : TrunkId) (u : UpFrame)
    (hG : settleViews ⊆ G := by exact View.subset_of (by decide +kernel)) : s.Touches G (s.settleFrame t u) := by
  refine .mono ?_ hG
  unfold State.settleFrame
  split
  · exact .trans (State.settleSlot_touches ..) (State.settlePolled_touches ..)
  · exact .trans (State.settleSlot_touches ..) (State.settlePolled_touches ..)
  · exact .trans (State.setEcho_touches ..) (State.setAck_touches ..)
  all_goals exact .refl _ _

/-- What a judgment may change. -/
abbrev judgeViews : List View := activeViews ++ lostViews

theorem State.judgedGood_touches (s : State) (t : TrunkId) : s.Touches judgeViews (s.judgedGood t) := by
  have set : ∀ n, s.Touches judgeViews (s.setTrunk t { s.trunk t with good := n }) := fun n =>
    State.setTrunk_touches _ _ _ (fun x hx => by cases x <;> simp at hx <;> rfl) (View.mem_of (by decide +kernel))
  unfold State.judgedGood
  dsimp only
  split
  · split
    · exact set _
    · exact (set _).trans (State.enterActive_touches ..)
  · split
    · exact set _
    · exact (set _).trans (State.enterActive_touches ..)
  · exact State.setTrunk_touches _ _ _ (fun x hx => by cases x <;> simp at hx <;> rfl) (View.mem_of (by decide +kernel))
  all_goals exact .refl _ _

theorem State.judgedBad_touches (s : State) (t : TrunkId) : s.Touches judgeViews (s.judgedBad t) := by
  have set : ∀ n, s.Touches judgeViews (s.setTrunk t { s.trunk t with good := n }) := fun n =>
    State.setTrunk_touches _ _ _ (fun x hx => by cases x <;> simp at hx <;> rfl) (View.mem_of (by decide +kernel))
  unfold State.judgedBad
  dsimp only
  split
  · exact set _
  · exact set _
  · split
    · exact State.setTrunk_touches _ _ _ (fun x hx => by cases x <;> simp at hx <;> rfl) (View.mem_of (by decide +kernel))
    · exact State.enterLost_touches ..
  all_goals exact .refl _ _

theorem State.judge_touches {G : List View} (s : State) (t : TrunkId)
    (hG : judgeViews ⊆ G := by exact View.subset_of (by decide +kernel)) : s.Touches G (s.judge t) := by
  refine .mono ?_ hG
  unfold State.judge
  split
  · exact State.judgedGood_touches ..
  · exact State.judgedBad_touches ..

/-- What an upstream frame may change. -/
abbrev upstreamViews : List View := [.trunk .awaiting, .trunk .polled, .trunk .marker, .trunk .fails]
  ++ settleViews ++ judgeViews

theorem State.takeUpstream_touches {G : List View} (s : State) (t : TrunkId) (u : UpFrame)
    (hG : upstreamViews ⊆ G := by exact View.subset_of (by decide +kernel)) : s.Touches G (s.takeUpstream t u) := by
  have first : s.Touches upstreamViews
      ((s.settleFrame t u).setTrunk t (((s.settleFrame t u).trunk t).tally u)) :=
    .trans (State.settleFrame_touches ..)
      (State.setTrunk_touches _ _ _ (fun x hx => by cases x <;> simp at hx <;> rfl) (View.mem_of (by decide +kernel)))
  refine .mono (first.trans ?_) hG
  unfold State.takeUpstream
  dsimp only
  split
  · exact State.judge_touches ..
  · exact .refl _ _

/-! ### The downstream frame (Chapter 11) -/

theorem State.startMultiframe_touches {G : List View} (s : State) (t : TrunkId)
    (hG : [.trunks, .trunk .mfTaken, .trunk .markField, .trunk .allocation] ⊆ G := by exact View.subset_of (by decide +kernel)) :
    s.Touches G (s.startMultiframe t) :=
  .mono (State.setTrunk_touches _ _ _ (fun x hx => by cases x <;> simp at hx <;> rfl) (View.mem_of (by decide +kernel))) hG

/-- What the filling of slots may change. -/
abbrev fillViews : List View := .trunk .control :: unlinkViews

theorem State.fillSlot_touches {G : List View} (s : State) (t : TrunkId) (n : Nat)
    (hG : fillViews ⊆ G := by exact View.subset_of (by decide +kernel)) : s.Touches G (s.fillSlot t n).1 := by
  have control : s.Touches fillViews (s.fillControl t).1 := by
    unfold State.fillControl
    dsimp only
    split
    · exact .refl _ _
    · exact State.setTrunk_touches _ _ _ (fun x hx => by cases x <;> simp at hx <;> rfl) (View.mem_of (by decide +kernel))
  have chunk : ∀ e, s.Touches fillViews (s.sendChunk t e).1 := by
    intro e
    unfold State.sendChunk
    split
    · exact .refl _ _
    · split
      · exact .refl _ _
      · exact .refl _ _
      · dsimp only
        split
        · exact .trans (State.putDesc_touches ..) (State.unlink_touches ..)
        · exact State.putDesc_touches ..
  refine .mono ?_ hG
  unfold State.fillSlot
  split
  · exact .refl _ _
  · split
    · exact control
    · split
      · split
        · exact chunk _
        · exact .refl _ _
        · exact .refl _ _
      · exact .refl _ _

theorem State.fillSlots_touches {G : List View} (t : TrunkId) (left : Nat)
    (hG : fillViews ⊆ G := by exact View.subset_of (by decide +kernel)) (s : State) (n : Nat) : s.Touches G (s.fillSlots t n left).1 := by
  induction left generalizing s n with
  | zero => exact .refl _ _
  | succ left ih => exact .trans (State.fillSlot_touches s t n hG) (ih ..)

/-- What the poll choice changes in a trunk's record. -/
theorem State.choosePoll_view (s : State) (t : TrunkId) (x : TrunkView) (hu : x ≠ .urgent)
    (hr : x ≠ .regular) : (s.choosePoll t).1.view x = (s.trunk t).view x := by
  unfold State.choosePoll
  dsimp only
  split
  · cases x <;> first | rfl | contradiction
  · split
    · rfl
    · cases x <;> first | rfl | contradiction

/-- What a frame that is sent changes in its trunk's record. -/
abbrev sentViews : List View := [.trunks, .trunk .nextFrame, .trunk .mfTaken, .trunk .awaiting,
  .trunk .polled, .trunk .holdSent, .trunk .frame]

theorem State.setSent_touches {G : List View} (s : State) (t : TrunkId) (f : DownFrame)
    (hG : sentViews ⊆ G := by exact View.subset_of (by decide +kernel)) : s.Touches G (s.setTrunk t ((s.trunk t).sent f)) :=
  .mono (State.setTrunk_touches _ _ _ (fun x hx => by cases x <;> simp at hx <;> rfl) (View.mem_of (by decide +kernel))) hG

/-- What a frame start may change. -/
abbrev frameViews : List View := [.trunk .urgent, .trunk .regular, .trunk .markField] ++ sentViews ++ fillViews

theorem State.sendServing_touches (s : State) (t : TrunkId) : s.Touches frameViews (s.sendServing t) := by
  refine .trans (State.setTrunk_touches s t (s.choosePoll t).1
    (fun x hx => State.choosePoll_view s t x ?_ ?_) (View.mem_of (by decide +kernel)))
    (.trans (State.fillSlots_touches ..) (State.setSent_touches ..))
  · rintro rfl; simp at hx
  · rintro rfl; simp at hx

theorem State.sendFrame_touches {G : List View} (s : State) (t : TrunkId)
    (hG : frameViews ⊆ G := by exact View.subset_of (by decide +kernel)) : s.Touches G (s.sendFrame t) := by
  refine .mono ?_ hG
  unfold State.sendFrame
  split
  · exact State.setSent_touches s t _
  · exact State.sendServing_touches s t
  · exact State.sendServing_touches s t
  all_goals exact .refl _ _

/-! ### Tickets (Chapter 8) -/

/-- Every view of the Ticket Table. -/
abbrev ticketViews : List View := [.tickets, .ticket .section_, .ticket .home, .ticket .tier,
  .ticket .state, .ticket .entries]

theorem State.setTickets_touches {G : List View} (s : State) (x : Table Ticket)
    (hx : s.tickets.wf = true → x.wf = true) (hG : ticketViews ⊆ G := by exact View.subset_of (by decide +kernel)) :
    s.Touches G { s with tickets := x } := by
  refine .mono ⟨fun v hv => ?_, fun c => ?_⟩ hG
  · cases v with
    | ticket x => cases x <;> simp at hv
    | tickets => simp at hv
    | _ => rfl
  · cases c with
    | tickets => exact hx
    | _ => exact id

theorem State.newTicket_touches {G : List View} (s : State) (k : Token) (t : Ticket)
    (hG : ticketViews ⊆ G := by exact View.subset_of (by decide +kernel)) :
    s.Touches G (s.putTicket k t) := State.setTickets_touches _ _ (Table.wf_put _ _ _) hG

theorem State.loadEntry_touches {G : List View} (s : State) (b : List Byte) (o : Nat)
    (hG : ticketViews ⊆ G := by exact View.subset_of (by decide +kernel)) : s.Touches G (s.loadEntry b o).1 := by
  rw [State.loadEntry]
  split
  · exact .refl _ _
  · split
    · exact .refl _ _
    · split
      · exact .refl _ _
      · split
        · exact .refl _ _
        · exact State.newTicket_touches _ _ _ hG

theorem State.loadEntries_touches {G : List View} (b : List Byte) (left : Nat)
    (hG : ticketViews ⊆ G := by exact View.subset_of (by decide +kernel)) (s : State) (n : Nat) :
    s.Touches G (s.loadEntries b n left).1 := by
  induction left generalizing s n with
  | zero => exact .refl _ _
  | succ left ih => exact .trans (State.loadEntry_touches s b _ hG) (ih ..)

theorem State.enterTicket_touches {G : List View} (s : State) (k : Token) (t : Ticket)
    (h : s.ticket? k = some t) (hG : [.tickets, .ticket .state, .ticket .entries] ⊆ G := by exact View.subset_of (by decide +kernel)) :
    s.Touches G (s.putTicket k t.enter) :=
  .mono (State.putTicket_touches s k t _ h (fun x hx => by cases x <;> simp at hx <;> rfl) (View.mem_of (by decide +kernel))) hG

/-- What a presentation may change. -/
abbrev presentViews : List View := [.tickets, .ticket .state, .portT] ++ unbindViews

theorem State.ticketResult_touches {G : List View} (s : State) (x : CellId) (i : StationIx)
    (r : TicketResult) (hG : messageViews ⊆ G := by exact View.subset_of (by decide +kernel)) : s.Touches G (s.ticketResult x i r) :=
  State.tell_touches _ _ _ hG

theorem State.join_touches {G : List View} (s : State) (i : StationIx) (r q : Station) (k : Token)
    (t : Ticket) (ht : s.ticket? k = some t) (hr : s.station? i = some q)
    (hq : ∀ x, x ≠ StationView.binding → x ≠ .grace → x ≠ .tier → r.view x = q.view x)
    (hG : presentViews ⊆ G := by exact View.subset_of (by decide +kernel)) : s.Touches G (s.join i r k t) := by
  refine .mono (.trans (State.setTicketState_touches s k t (.seated i) ht)
    (State.putStation_touches _ i q _ hr (fun x hx => ?_) (View.mem_of (by decide +kernel)))) hG
  have same := hq x
  cases x <;> simp at hx same
  all_goals exact same

theorem State.bindTicket_touches {G : List View} (s : State) (x : CellId) (i : StationIx) (r q : Station)
    (k : Token) (t : Ticket) (ht : s.ticket? k = some t) (hr : s.station? i = some q)
    (hq : ∀ x, x ≠ StationView.binding → x ≠ .grace → x ≠ .tier → r.view x = q.view x)
    (hG : presentViews ⊆ G := by exact View.subset_of (by decide +kernel)) : s.Touches G (s.bindTicket x i r k t) := by
  refine .mono (.trans (State.join_touches s i r q k t ht hr hq) (.trans (State.recomputeTier_touches ..)
    (.trans (State.ticketResult_touches ..) (State.tellTier_touches ..)))) hG

/-- Unbinding keeps a record with its place; what it may change are binding, grace and tier. -/
theorem State.station?_of_touches_unbind {s u : State} (h : s.Touches unbindViews u) (i : StationIx)
    (r : Station) (hr : s.station? i = some r) : ∃ q, u.station? i = some q ∧
      ∀ x, x ≠ StationView.binding → x ≠ .grace → x ≠ .tier → r.view x = q.view x := by
  have live := h.station .address i
  rw [hr] at live
  obtain ⟨q, hq, -⟩ := Option.map_eq_some_iff.1 live
  refine ⟨q, hq, fun x hb hg ht => ?_⟩
  have := h.station x i (by cases x <;> first | exact View.not_mem_of rfl | contradiction)
  rw [hr, hq] at this
  exact (Option.some.inj this).symm

theorem State.present_touches {G : List View} (s : State) (x : CellId) (i : StationIx) (k : Token)
    (hG : presentViews ⊆ G := by exact View.subset_of (by decide +kernel)) : s.Touches G (s.present x i k) := by
  refine .mono ?_ hG
  unfold State.present
  split
  · exact .refl _ _
  · exact State.ticketResult_touches ..
  · rename_i r t hr ht
    have refuse : ∀ v, s.Touches presentViews (s.refuseTicket x i k t v) := fun v =>
      .trans (State.ticketResult_touches ..) (State.notify_touches _ .T _ (View.mem_of (by decide +kernel)))
    split
    · exact refuse _
    · exact refuse _
    · exact refuse _
    · split
      · exact State.ticketResult_touches ..
      · exact .trans (State.bindTicket_touches s x i r r k t ht hr fun _ _ _ _ => rfl)
          (State.notify_touches _ .T _ (View.mem_of (by decide +kernel)))
    · rename_i h _
      split
      · exact State.ticketResult_touches ..
      · split
        · exact State.ticketResult_touches ..
        · split
          · have unbind := State.unbindStation_touches (G := unbindViews) s h
            obtain ⟨q, hq, same⟩ := State.station?_of_touches_unbind unbind i r hr
            exact .trans (unbind.mono (View.subset_of (by decide +kernel))) (.trans
              (State.bindTicket_touches _ x i r q k t ((unbind.ticket? k).trans ht) hq same)
              (State.notify_touches _ .T _ (View.mem_of (by decide +kernel))))
          · exact .trans (State.ticketResult_touches ..) (State.notify_touches _ .T _ (View.mem_of (by decide +kernel)))

/-! ### Association and roaming (Chapters 6 and 7) -/

theorem State.presentCarried_touches {G : List View} (s : State) (x : CellId) (i : StationIx)
    (o : Option Token) (hG : presentViews ⊆ G := by exact View.subset_of (by decide +kernel)) : s.Touches G (s.presentCarried x i o) := by
  unfold State.presentCarried
  split
  · exact State.present_touches _ _ _ _ hG
  · exact .refl _ _

/-- A record put at any index, live or not. -/
theorem State.newStation_touches {G : List View} (s : State) (i : StationIx) (r : Station)
    (hG : stationViews ⊆ G := by exact View.subset_of (by decide +kernel)) : s.Touches G (s.putStation i r) := by
  refine .mono ⟨fun v hv => ?_, fun c => ?_⟩ hG
  · cases v with
    | station x => cases x <;> simp at hv
    | stations => simp at hv
    | _ => rfl
  · cases c with
    | stations => exact Table.wf_put _ _ _
    | _ => exact id

/-- What an ASSOC may change. -/
abbrev assocViews : List View := stationViews ++ countViews ++ presentViews

theorem State.create_touches (s : State) (x : CellId) (a : Address) (o : Option Token) :
    s.Touches assocViews (s.create x a o) :=
  .trans (State.newStation_touches s _ _) (.trans (State.countCell_touches _ _ countsOnly_gain)
    (.trans (State.tell_touches ..) (State.presentCarried_touches ..)))

theorem State.assocUnknown_touches (s : State) (x : CellId) (a : Address) (o : Option Token) :
    s.Touches assocViews (s.assocUnknown x a o) := by
  unfold State.assocUnknown
  split
  · exact State.tell_touches ..
  · split
    · exact State.tell_touches ..
    · exact State.tell_touches ..
    · exact State.create_touches ..

theorem State.startRoam_touches (s : State) (x : CellId) (i : StationIx) (r : Station) (o : Option Token) :
    s.Touches assocViews (s.startRoam x i r o) :=
  .trans (State.newStation_touches s _ _) (.trans (State.countCell_touches _ _ countsOnly_expect)
    (.trans (State.tell_touches ..) (.trans (State.tell_touches ..) (State.presentCarried_touches ..))))

theorem State.roamRequest_touches (s : State) (x : CellId) (i : StationIx) (r : Station)
    (o : Option Token) : s.Touches assocViews (s.roamRequest x i r o) := by
  unfold State.roamRequest
  split
  · exact State.tell_touches ..
  · exact .trans (State.newStation_touches ..) (State.tell_touches ..)
  · exact State.tell_touches ..
  · exact State.startRoam_touches ..

theorem State.acceptAgain_touches (s : State) (x : CellId) (i : StationIx) (l : Level) (o : Option Token) :
    s.Touches assocViews (s.acceptAgain x i l o) :=
  .trans (State.tell_touches ..) (State.presentCarried_touches ..)

theorem State.assoc_touches {G : List View} (s : State) (x : CellId) (a : Address) (o : Option Token)
    (hG : assocViews ⊆ G := by exact View.subset_of (by decide +kernel)) : s.Touches G (s.assoc x a o) := by
  refine .mono ?_ hG
  unfold State.assoc
  split
  · exact State.assocUnknown_touches ..
  · split
    · split
      · exact State.acceptAgain_touches ..
      · exact State.roamRequest_touches ..
    · split
      · exact State.acceptAgain_touches ..
      · split
        · exact State.acceptAgain_touches ..
        · exact State.tell_touches ..

/-- What the completion of a roam may change. -/
abbrev roamViews : List View := stationViews ++ countViews ++ [.fan, .demand, .portV] ++ messageViews

theorem State.completeRoam_touches {G : List View} (s : State) (i : StationIx) (r : Station) (m : Roam)
    (hG : roamViews ⊆ G := by exact View.subset_of (by decide +kernel)) : s.Touches G (s.completeRoam i r m) :=
  .mono (.trans (State.leaveCounts_touches ..) (.trans (State.countCell_touches _ _ countsOnly_lose)
    (.trans (State.countCell_touches _ _ countsOnly_arrive) (.trans (State.newStation_touches ..)
      (.trans (State.joinCounts_touches ..) (.trans (State.tellTier_touches ..)
        (State.recomputeEach_touches ..))))))) hG

/-! ### The Report Processor (section 3.10) -/

/-- What a report handed to its table may change. -/
abbrev handViews : List View := assocViews ++ removeViews

theorem State.depart_touches (s : State) (x : CellId) (i : StationIx) (r : Station) :
    s.Touches handViews (s.depart x i r) := by
  unfold State.depart
  split
  · exact State.remove_touches ..
  · split
    · exact State.completeRoam_touches ..
    · exact .trans (State.remove_touches ..) (State.tell_touches ..)

theorem State.refreshAddress_touches {G : List View} (s : State) (a : Address)
    (hG : stationViews ⊆ G := by exact View.subset_of (by decide +kernel)) : s.Touches G (s.refreshAddress a) := by
  unfold State.refreshAddress
  split
  · exact State.newStation_touches _ _ _ hG
  · exact .refl _ _

/-- A report naming an index acts on a live record. -/
theorem State.onStation_touches {G : List View} (s : State) (x : CellId) (i : StationIx)
    (f : State → Station → State)
    (hf : ∀ (u : State) r, u.station? i = some r → u.Touches G (f u r))
    (hG : stationViews ⊆ G := by exact View.subset_of (by decide +kernel)) : s.Touches G (s.onStation x i f) := by
  unfold State.onStation
  split
  · exact .trans (State.newStation_touches _ _ _ hG) (hf _ _ (by simp))
  · exact .refl _ _

theorem State.handReport_touches {G : List View} (s : State) (x : CellId) (b : ReportBody)
    (hG : handViews ⊆ G := by exact View.subset_of (by decide +kernel)) : s.Touches G (s.handReport x b) := by
  refine .mono ?_ hG
  unfold State.handReport
  split
  · exact .trans (State.refreshAddress_touches ..) (State.assoc_touches ..)
  · exact State.onStation_touches _ _ _ _ fun u r _ => State.depart_touches ..
  · exact State.onStation_touches _ _ _ _ fun u r _ => State.present_touches ..
  · exact State.onStation_touches _ _ _ _ fun u r h =>
      (State.subscribe_touches u x _ r _ h).mono (View.subset_of (by decide +kernel))
  · exact State.onStation_touches _ _ _ _ fun u r h =>
      (State.unsubscribe_touches u x _ r _ h).mono (View.subset_of (by decide +kernel))
  · exact .refl _ _

theorem State.takeReport_touches {G : List View} (s : State) (r : Report)
    (hG : handViews ⊆ G := by exact View.subset_of (by decide +kernel)) : s.Touches G (s.takeReport r) := by
  unfold State.takeReport
  split
  · exact State.handReport_touches _ _ _ hG
  · exact .refl _ _

end Sys2Proof.Machine
end

section
/-! PROOF. The footprints of the rows: what each command's own rule and each event may change, and how a
law that every row keeps is kept by a step. -/
namespace Sys2Proof.Machine

/-! ### The own rule of a command -/

/-- The own rule of each command (R8). -/
def Command.rule : Command → List Byte → State → Answer
  | .cellSet => cellSetRule | .loadSet => loadSetRule | .trunkSet => trunkSetRule
  | .trunkStart => trunkStartRule | .trunkStandby => trunkStandbyRule | .trunkReset => trunkResetRule
  | .pollListSet => pollListSetRule | .pollUrgent => pollUrgentRule | .timersSet => timersSetRule
  | .stationDetach => stationDetachRule | .stationClear => stationClearRule
  | .cellQuery => cellQueryRule | .trunkQuery => trunkQueryRule | .ticketLoad => ticketLoadRule
  | .gateAdmit => gateAdmitRule | .gateExit => gateExitRule | .ticketVoid => ticketVoidRule
  | .ticketQuery => ticketQueryRule | .ticketClear => ticketClearRule | .streamOpen => streamOpenRule
  | .streamClose => streamCloseRule | .segBegin => segBeginRule | .segData => segDataRule
  | .segEnd => segEndRule | .segAbort => segAbortRule | .mark => markRule | .markSet => markSetRule
  | .streamQuery => streamQueryRule | .fanoutQuery => fanoutQueryRule
  | .replayClear => replayClearRule | .stationQuery => stationQueryRule
  | .partStatus => partStatusRule

/-- The row of a port command acts by the command's own rule. -/
theorem exec_portCommand {i : Instr} {p : PortId} {c : Command} (h : portCommand i = some (p, c))
    (s : State) : exec i s = s.live fun s => s.act p c c.rule := by
  cases i <;> simp only [portCommand, Option.some.injEq, Prod.mk.injEq, reduceCtorEq] at h <;>
    obtain ⟨rfl, rfl⟩ := h <;> rfl

/-- What a command's own rule may change. -/
def Command.footprint : Command → List View
  | .cellSet => cellViews ++ rewriteViews ++ removeCellViews
  | .loadSet => [.load]
  | .trunkSet => storeViews ++ .trunk .intake :: .trunk .urgent :: quitViews
  | .trunkStart => [.trunks, .trunk .state, .trunk .entry]
  | .trunkStandby => quitViews
  | .trunkReset => [.trunk .intake, .trunk .urgent, .trunk .regular, .trunk .flags] ++ quitViews
  | .pollListSet => [.trunks, .trunk .pollList, .trunk .regular]
  | .pollUrgent => [.trunks, .trunk .urgent]
  | .timersSet => [.timers]
  | .stationDetach | .stationClear => removeViews ++ messageViews
  | .trunkQuery => [.trunks, .trunk .flags]
  | .ticketLoad => ticketViews
  | .gateAdmit => [.tickets, .ticket .state, .ticket .entries] ++ unbindViews
  | .gateExit | .ticketVoid => [.tickets, .ticket .state] ++ unbindViews
  | .ticketClear => ticketViews ++ unbindViews
  | .streamOpen => [.streams, .stream .state, .stream .lastSeq, .stream .unwatched]
  | .streamClose => closeViews
  | .segBegin => [.descs, .used, .streams, .stream .inUse]
  | .segData => [.segMem, .descs]
  | .segEnd => [.stream .lastSeq, .release] ++ releaseViews
  | .segAbort => freeViews
  | .mark => markViews
  | .markSet => [.marks]
  | .replayClear => .release :: unlinkViews ++ subscriptionViews
  | .cellQuery | .ticketQuery | .streamQuery | .fanoutQuery | .stationQuery | .partStatus => []

theorem onTrunk_touches {G : List View} (b : List Byte) (s : State) (f : TrunkId → Answer)
    (h : ∀ t, s.Touches G (f t).state) : s.Touches G (onTrunk b s f).state := by
  unfold onTrunk
  split
  · exact .refl _ _
  · exact h _

theorem onStream_touches {G : List View} (b : List Byte) (s : State) (f : StreamId → Answer)
    (h : ∀ k, s.Touches G (f k).state) : s.Touches G (onStream b s f).state := by
  unfold onStream
  split
  · exact .refl _ _
  · exact h _

theorem onTicket_touches {G : List View} (b : List Byte) (s : State) (f : Token → Ticket → Answer)
    (h : ∀ k t, s.ticket? k = some t → s.Touches G (f k t).state) :
    s.Touches G (onTicket b s f).state := by
  unfold onTicket
  split
  · exact .refl _ _
  · exact h _ _ (by assumption)

theorem cellSetRule_touches (b : List Byte) (s : State) :
    s.Touches (Command.footprint .cellSet) (cellSetRule b s).state := by
  unfold cellSetRule
  dsimp only
  split
  · exact .refl _ _
  · split
    · exact .mono (State.setCells_touches (G := cellViews) _ _ (Table.wf_put _ _ _))
        (View.subset_of (by decide +kernel))
    · rename_i old hold _
      exact .mono (State.rewriteCell_touches (G := rewriteViews) s _ old b hold)
        (View.subset_of (by decide +kernel))
    · exact .refl _ _
    · split
      · exact .refl _ _
      · exact .mono (State.removeCell_touches (G := removeCellViews) s _)
          (View.subset_of (by decide +kernel))

theorem trunkSetRule_touches (b : List Byte) (s : State) :
    s.Touches (Command.footprint .trunkSet) (trunkSetRule b s).state := by
  refine onTrunk_touches _ _ _ fun t => ?_
  split
  · rename_i en aw mc _ _ _
    have stored := State.store_touches (G := Command.footprint .trunkSet) s t s.now en aw
      (min 3600 (numAt b 4 2)) mc (min 320 (numAt b 8 2))
    refine stored.trans (.trans (State.idleUpdate_touches _ t) ?_)
    dsimp only
    split
    · exact State.enable_touches ..
    · exact State.disable_touches ..
  · exact .refl _ _

theorem trunkStartRule_touches (b : List Byte) (s : State) :
    s.Touches (Command.footprint .trunkStart) (trunkStartRule b s).state := by
  refine onTrunk_touches _ _ _ fun t => ?_
  split
  · exact .refl _ _
  · exact State.enterWaking_touches ..
  all_goals exact .refl _ _

theorem trunkStandbyRule_touches (b : List Byte) (s : State) :
    s.Touches (Command.footprint .trunkStandby) (trunkStandbyRule b s).state := by
  refine onTrunk_touches _ _ _ fun t => ?_
  split
  · exact .refl _ _
  all_goals exact State.standDown_touches ..

theorem trunkResetRule_touches (b : List Byte) (s : State) :
    s.Touches (Command.footprint .trunkReset) (trunkResetRule b s).state := by
  have clean : ∀ (u : State) t, u.Touches [.trunks, .trunk .intake, .trunk .urgent, .trunk .regular,
      .trunk .flags] (u.setTrunk t (u.trunk t).clean) := fun u t =>
    State.setTrunk_touches _ _ _ (fun x hx => by cases x <;> simp at hx <;> rfl) (View.mem_of rfl)
  refine onTrunk_touches _ _ _ fun t => ?_
  split
  · exact .refl _ _
  all_goals
    exact .trans (State.standDown_touches ..) ((clean _ t).mono (View.subset_of (by decide +kernel)))

theorem pollListSetRule_touches (b : List Byte) (s : State) :
    s.Touches (Command.footprint .pollListSet) (pollListSetRule b s).state := by
  refine onTrunk_touches _ _ _ fun t => ?_
  split
  · exact .refl _ _
  · exact State.setTrunk_touches _ _ _
      (fun x hx => by cases x <;> simp [Command.footprint] at hx; all_goals rfl) (View.mem_of rfl)

theorem pollUrgentRule_touches (b : List Byte) (s : State) :
    s.Touches (Command.footprint .pollUrgent) (pollUrgentRule b s).state := by
  unfold pollUrgentRule
  dsimp only
  split
  · exact .refl _ _
  · split
    · exact .refl _ _
    · split
      · exact .refl _ _
      · split
        · exact State.addUrgent_touches ..
        · exact .refl _ _

theorem stationDetachRule_touches (b : List Byte) (s : State) :
    s.Touches (Command.footprint .stationDetach) (stationDetachRule b s).state := by
  unfold stationDetachRule
  dsimp only
  split
  · exact .refl _ _
  · split
    · exact .trans (State.remove_touches ..) (State.tellDetached_touches ..)
    · exact .refl _ _

theorem stationClearRule_touches (b : List Byte) (s : State) :
    s.Touches (Command.footprint .stationClear) (stationClearRule b s).state :=
  .trans (.each (fun s i => State.remove_touches ..) s) (.each (fun s t => State.tellAll_touches ..) _)

theorem trunkQueryRule_touches (b : List Byte) (s : State) :
    s.Touches (Command.footprint .trunkQuery) (trunkQueryRule b s).state := by
  refine onTrunk_touches _ _ _ fun t => ?_
  split
  · exact .refl _ _
  · exact .refl _ _
  · exact State.setTrunk_touches _ _ _
      (fun x hx => by cases x <;> simp [Command.footprint] at hx; all_goals rfl) (View.mem_of rfl)

theorem ticketLoadRule_touches (b : List Byte) (s : State) :
    s.Touches (Command.footprint .ticketLoad) (ticketLoadRule b s).state := by
  unfold ticketLoadRule
  split
  · exact .refl _ _
  · exact State.loadEntries_touches (G := ticketViews) b _ (fun _ => id) s 0

theorem gateAdmitRule_touches (b : List Byte) (s : State) :
    s.Touches (Command.footprint .gateAdmit) (gateAdmitRule b s).state := by
  refine onTicket_touches _ _ _ fun k t ht => ?_
  split
  · exact State.enterTicket_touches s k t ht
  · exact State.enterTicket_touches s k t ht
  · exact .refl _ _
  · split
    · exact .trans (State.enterTicket_touches s k t ht) (State.unbindStation_touches ..)
    · exact .refl _ _
  · exact .refl _ _

theorem gateExitRule_touches (b : List Byte) (s : State) :
    s.Touches (Command.footprint .gateExit) (gateExitRule b s).state := by
  refine onTicket_touches _ _ _ fun k t ht => ?_
  split
  · exact State.setTicketState_touches s k t _ ht
  · exact .trans (State.setTicketState_touches s k t _ ht) (State.unbindStation_touches ..)
  all_goals exact .refl _ _

theorem ticketVoidRule_touches (b : List Byte) (s : State) :
    s.Touches (Command.footprint .ticketVoid) (ticketVoidRule b s).state := by
  refine onTicket_touches _ _ _ fun k t ht => ?_
  split
  · exact .trans (State.setTicketState_touches s k t _ ht) (State.unbindStation_touches ..)
  · exact State.setTicketState_touches s k t _ ht
  · exact State.setTicketState_touches s k t _ ht
  · exact State.setTicketState_touches s k t _ ht
  · exact .refl _ _

theorem ticketClearRule_touches (b : List Byte) (s : State) :
    s.Touches (Command.footprint .ticketClear) (ticketClearRule b s).state :=
  .trans (.each (fun s i => State.unbindStation_touches ..) s)
    (State.setTickets_touches _ _ (fun _ => rfl))

theorem streamOpenRule_touches (b : List Byte) (s : State) :
    s.Touches (Command.footprint .streamOpen) (streamOpenRule b s).state := by
  refine onStream_touches _ _ _ fun k => ?_
  split
  · exact State.setStream_touches _ _ _
      (fun x hx => by cases x <;> simp [Command.footprint] at hx; all_goals rfl) (View.mem_of rfl)
  all_goals exact .refl _ _

theorem streamCloseRule_touches (b : List Byte) (s : State) :
    s.Touches (Command.footprint .streamClose) (streamCloseRule b s).state := by
  refine onStream_touches _ _ _ fun k => ?_
  split
  · dsimp only
    exact State.closeStream_touches s k
  · exact .refl _ s
  · exact .refl _ s

/-- Blocks put in their places keep the block set rising. -/
theorem pairwise_foldl_insertRising (bs l : List Nat) (h : l.Pairwise (· < ·)) :
    (bs.foldl insertRising l).Pairwise (· < ·) := by
  induction bs generalizing l with
  | nil => exact h
  | cons b bs ih => exact ih _ (pairwise_insertRising l b h)

theorem State.setUsed_touches {G : List View} (s : State) (bs : List Nat)
    (hb : s.used.Pairwise (· < ·) → bs.Pairwise (· < ·))
    (hG : [.used] ⊆ G := by exact View.subset_of (by decide +kernel)) :
    s.Touches G { s with used := bs } := by
  refine .mono ⟨fun v hv => ?_, fun c => ?_⟩ hG
  · cases v with
    | used => simp at hv
    | _ => rfl
  · cases c with
    | used => exact hb
    | _ => exact id

theorem State.beginUpload_touches (s : State) (d : DescIx) (k : StreamId) (q : Seq) (m : Mark)
    (nL nX : Nat) (bs : List Nat) :
    s.Touches (Command.footprint .segBegin) (s.beginUpload d k q m nL nX bs) := by
  have put := State.putDesc_touches (G := Command.footprint .segBegin) s d
    ⟨.uploading 0, k, q, m, nL, nX, bs⟩
  refine put.trans (.trans (State.setUsed_touches _ (bs.foldl insertRising s.used)
    (pairwise_foldl_insertRising bs _)) ?_)
  exact State.setStream_touches _ _ _
    (fun x hx => by cases x <;> simp [Command.footprint] at hx; all_goals rfl) (View.mem_of rfl)

theorem segBeginRule_touches (b : List Byte) (s : State) :
    s.Touches (Command.footprint .segBegin) (segBeginRule b s).state := by
  refine onStream_touches _ _ _ fun k => ?_
  dsimp only
  iterate 6
    split
    · exact .refl _ _
  exact State.beginUpload_touches ..

theorem segDataRule_touches (b : List Byte) (s : State) :
    s.Touches (Command.footprint .segData) (segDataRule b s).state := by
  refine onStream_touches _ _ _ fun k => ?_
  split
  · exact .refl _ _
  · split
    · exact .refl _ _
    · refine .trans ⟨fun v hv => ?_, fun c => ?_⟩ (State.putDesc_touches ..)
      · cases v with
        | segMem => simp [Command.footprint] at hv
        | _ => rfl
      · cases c with
        | memory => exact Memory.wf_writeAll _ _ _
        | _ => exact id

theorem segEndRule_touches (b : List Byte) (s : State) :
    s.Touches (Command.footprint .segEnd) (segEndRule b s).state := by
  refine onStream_touches _ _ _ fun k => ?_
  split
  · exact .refl _ _
  · rename_i d r next _
    split
    · exact .refl _ _
    · have first : s.Touches (Command.footprint .segEnd)
          (s.setStream k { s.stream k with lastSeq := some r.sequence }) :=
        State.setStream_touches _ _ _
          (fun x hx => by cases x <;> simp [Command.footprint] at hx) (View.mem_of rfl)
      dsimp only
      split
      · exact first.trans (State.freeDesc_touches ..)
      · split
        · exact first.trans (State.releaseDesc_touches ..)
        · exact first.trans (.trans (State.putDesc_touches ..) (State.setRelease_touches ..))

theorem segAbortRule_touches (b : List Byte) (s : State) :
    s.Touches (Command.footprint .segAbort) (segAbortRule b s).state := by
  refine onStream_touches _ _ _ fun k => ?_
  split
  · exact .refl _ _
  · exact State.freeDesc_touches ..

theorem markRule_touches (b : List Byte) (s : State) :
    s.Touches (Command.footprint .mark) (markRule b s).state := by
  unfold markRule
  split
  · exact State.markEvent_touches ..
  · exact .refl _ _

theorem markSetRule_touches (b : List Byte) (s : State) :
    s.Touches (Command.footprint .markSet) (markSetRule b s).state := by
  unfold markSetRule
  split
  · exact State.setMarks_touches ..
  all_goals exact .refl _ _

theorem State.clearReplay_touches {G : List View} (s : State) (t : TrunkId)
    (hG : [.trunks, .trunk .replay, .trunk .allocation] ⊆ G := by exact View.subset_of (by decide +kernel)) :
    s.Touches G (s.setTrunk t (s.trunk t).clearReplay) :=
  .mono (State.setTrunk_touches _ _ _ (fun x hx => by cases x <;> simp at hx <;> rfl)
    (View.mem_of (by decide +kernel))) hG

theorem State.clearSegments_touches {G : List View} (s : State)
    (hG : .release :: unlinkViews ⊆ G := by exact View.subset_of (by decide +kernel)) :
    s.Touches G s.clearSegments :=
  .mono (.trans (.each (fun s t => State.clearReplay_touches s t) s)
    (.trans (State.setRelease_touches ..) (.each (fun s d => State.freeCore_touches ..) _))) hG

theorem State.closeDraining_touches {G : List View} (s : State) (k : StreamId)
    (hG : [.streams, .stream .state] ⊆ G := by exact View.subset_of (by decide +kernel)) :
    s.Touches G (s.closeDraining k) := by
  unfold State.closeDraining
  split
  · exact State.setStreamState_touches _ _ _ hG
  all_goals exact .refl _ _

theorem State.withdrawClosed_touches {G : List View} (s : State) (k : StreamId)
    (hG : [.streams, .stream .state] ++ subscriptionViews ⊆ G := by
      exact View.subset_of (by decide +kernel)) : s.Touches G (s.withdrawClosed k) := by
  have first := State.withdraw_touches (G := [.streams, .stream .state] ++ subscriptionViews) s k
  exact .mono (first.trans (State.setStreamState_touches ..)) hG

theorem replayClearRule_touches (b : List Byte) (s : State) :
    s.Touches (Command.footprint .replayClear) (replayClearRule b s).state := by
  unfold replayClearRule
  dsimp only
  exact .trans (State.clearSegments_touches s) (.trans (.each (fun s k => State.withdrawClosed_touches s k) _)
    (.each (fun s k => State.closeDraining_touches ..) _))

/-- What a command's own rule changes lies in its footprint. -/
theorem Command.rule_touches (c : Command) (b : List Byte) (s : State) :
    s.Touches c.footprint (c.rule b s).state := by
  cases c with
  | cellSet => exact cellSetRule_touches b s
  | loadSet =>
    change s.Touches _ (loadSetRule b s).state
    unfold loadSetRule
    dsimp only
    split
    · exact .refl _ _
    · split
      · exact .refl _ _
      · refine ⟨fun v hv => ?_, fun c => by cases c <;> exact id⟩
        cases v with
        | load => simp [Command.footprint] at hv
        | _ => rfl
  | trunkSet => exact trunkSetRule_touches b s
  | trunkStart => exact trunkStartRule_touches b s
  | trunkStandby => exact trunkStandbyRule_touches b s
  | trunkReset => exact trunkResetRule_touches b s
  | pollListSet => exact pollListSetRule_touches b s
  | pollUrgent => exact pollUrgentRule_touches b s
  | timersSet =>
    refine ⟨fun v hv => ?_, fun c => by cases c <;> exact id⟩
    cases v with
    | timers => simp [Command.footprint] at hv
    | _ => rfl
  | stationDetach => exact stationDetachRule_touches b s
  | stationClear => exact stationClearRule_touches b s
  | cellQuery => exact .refl _ _
  | trunkQuery => exact trunkQueryRule_touches b s
  | ticketLoad => exact ticketLoadRule_touches b s
  | gateAdmit => exact gateAdmitRule_touches b s
  | gateExit => exact gateExitRule_touches b s
  | ticketVoid => exact ticketVoidRule_touches b s
  | ticketQuery => exact onTicket_touches _ _ _ fun _ _ _ => .refl _ _
  | ticketClear => exact ticketClearRule_touches b s
  | streamOpen => exact streamOpenRule_touches b s
  | streamClose => exact streamCloseRule_touches b s
  | segBegin => exact segBeginRule_touches b s
  | segData => exact segDataRule_touches b s
  | segEnd => exact segEndRule_touches b s
  | segAbort => exact segAbortRule_touches b s
  | mark => exact markRule_touches b s
  | markSet => exact markSetRule_touches b s
  | streamQuery => exact onStream_touches _ _ _ fun _ => .refl _ _
  | fanoutQuery =>
    change s.Touches _ (fanoutQueryRule b s).state
    unfold fanoutQueryRule
    split <;> exact .refl _ _
  | replayClear => exact replayClearRule_touches b s
  | stationQuery =>
    change s.Touches _ (stationQueryRule b s).state
    unfold stationQueryRule
    split
    · exact .refl _ _
    · split <;> exact .refl _ _
  | partStatus => exact .refl _ _

/-! ### The events -/

/-- What the taking of a command changes of its port. -/
abbrev portViews : List View := [.portW, .portT, .portV, .bare]

theorem portView_mem {G : List View} (p : PortId) (hG : portViews ⊆ G) : portView p ∈ G := by
  cases p <;> exact hG (View.mem_of rfl)

/-- What a row may change. -/
def rowFootprint (i : Instr) : List View :=
  match portCommand i with
  | some (_, c) => portViews ++ c.footprint
  | none =>
    match i with
    | .wakeSignal _ => [.trunks, .trunk .state, .trunk .entry, .portW]
    | .upstreamSignalDetected _ => framingViews ++ [.trunk .state, .trunk .entry, .trunk .good, .portW]
    | .wakeTimeout _ | .alignTimeout _ | .lostGiveUp _ | .idleTimerExpiry _ => .portW :: quitViews
    | .frameStart _ => .trunk .allocation :: frameViews
    | .multiframeStart _ => [.trunks, .trunk .mfTaken, .trunk .markField, .trunk .allocation]
    | .upstreamFrameReceived _ _ => upstreamViews
    | .reportTake => [.pointer, .trunks, .trunk .intake] ++ handViews
    | .roamTimeout _ => roamViews
    | .ageExpiry _ => removeViews ++ messageViews
    | .seatGraceExpiry _ => unbindViews
    | .steerHoldExpiry _ => [.stations, .station .steerHold]
    | .generatorExpiry => markViews
    | .portVGraceExpiry => .grace :: closeViews
    | .sectorTimeTick => [.now]
    | _ => portViews ++ [.grace, .fresh]

/-- What holds of a state and of the state that the row makes of it holds of the state after the row. -/
theorem live_keeps {P : State → Prop} {f : State → State} {s u : State} (h : s.live f = .next u)
    (hs : P s) (hf : P (f s)) : P u := by
  unfold State.live at h
  cases h
  split
  · exact hs
  · exact hf

/-- A port whose notices stay as they are. -/
theorem State.setPort_touches' {G : List View} (s : State) (p : PortId) (q : Port)
    (hn : q.notices.length ≤ (s.port p).notices.length)
    (hG : portViews ⊆ G := by exact View.subset_of (by decide +kernel)) : s.Touches G (s.setPort p q) :=
  State.setPort_touches s p q (.inl hn) (.inr (hG (View.mem_of rfl))) (portView_mem p hG)

theorem State.begin_touches {G : List View} (s : State) (p : PortId)
    (hG : portViews ⊆ G := by exact View.subset_of (by decide +kernel)) : s.Touches G (s.begin p) :=
  State.setPort_touches' _ _ _ (Nat.le_refl _) hG

theorem State.respond_touches {G : List View} (s : State) (p : PortId) (m : PortMessage) (r : Result)
    (b : List Field) (hG : portViews ⊆ G := by exact View.subset_of (by decide +kernel)) :
    s.Touches G (s.respond p m r b) := by
  unfold State.respond
  dsimp only
  split
  · exact State.setPort_touches' _ _ _ (Nat.le_refl _) hG
  · exact .refl _ _
  · exact .refl _ _

/-- A command changes its port and what its own rule changes. -/
theorem State.act_touches {G : List View} (s : State) (p : PortId) (c : Command)
    (rule : List Byte → State → Answer) (hr : ∀ b (s : State), s.Touches G (rule b s).state)
    (hG : portViews ⊆ G) : s.Touches G (s.act p c rule) := by
  unfold State.act
  split
  · exact .refl _ _
  · split
    · split
      · exact .trans (State.begin_touches _ _ hG) (State.respond_touches _ _ _ _ _ hG)
      · exact .trans (State.begin_touches _ _ hG)
          (.trans (hr _ _) (State.respond_touches _ _ _ _ _ hG))
    · exact .refl _ _

/-- What a link event, an intake event or the outbound line may change. -/
abbrev lineViews : List View := portViews ++ [.grace, .fresh]

theorem State.setGrace_touches {G : List View} (s : State) (o : Option Time)
    (hG : [.grace] ⊆ G := by exact View.subset_of (by decide +kernel)) :
    s.Touches G { s with grace := o } := by
  refine .mono ⟨fun v hv => ?_, fun c => by cases c <;> exact id⟩ hG
  cases v with
  | grace => simp at hv
  | _ => rfl

theorem State.leaveUp_touches (s : State) (p : PortId) (d : Link) : s.Touches lineViews (s.leaveUp p d) := by
  have first : s.Touches lineViews (s.setPort p ((s.port p).leaveUp d)) :=
    State.setPort_touches' _ _ _ (Nat.le_refl _)
  cases p with
  | V => exact first.trans (State.setGrace_touches ..)
  | _ => exact first

theorem State.enterUp_touches (s : State) (p : PortId) : s.Touches lineViews (s.enterUp p) := by
  have first : s.Touches lineViews
      (s.setPort p { s.port p with link := .up, aligned := true, credit := (s.port p).free }) :=
    State.setPort_touches' _ _ _ (Nat.le_refl _)
  cases p with
  | V => exact first.trans (State.setGrace_touches ..)
  | _ => exact first

theorem State.setFresh_touches {G : List View} (s : State) (n : Nat)
    (hG : [.fresh] ⊆ G := by exact View.subset_of (by decide +kernel)) :
    s.Touches G { s with fresh := n } := by
  refine .mono ⟨fun v hv => ?_, fun c => by cases c <;> exact id⟩ hG
  cases v with
  | fresh => simp at hv
  | _ => rfl

theorem State.sendNext_touches (s : State) (p : PortId) : s.Touches lineViews (s.sendNext p) := by
  have sent : ∀ q, q.notices.length ≤ (s.port p).notices.length →
      s.Touches lineViews { s.setPort p q with fresh := s.fresh + 1 } := fun q hq =>
    (State.setPort_touches' s p q hq).trans (State.setFresh_touches ..)
  have response : ∀ r, s.Touches lineViews (s.sendResponse p r) := by
    intro r
    unfold State.sendResponse
    simp only [State.setPort_fresh]
    exact sent _ (Nat.le_refl _)
  have notice : ∀ n, s.Touches lineViews (s.sendNotice p n) := by
    intro n
    unfold State.sendNotice
    simp only [State.setPort_fresh]
    exact sent _ (by simp)
  unfold State.sendNext
  split
  · exact .refl _ _
  · exact response _
  · exact notice _
  · split
    · exact response _
    · exact notice _

/-- What a row changes lies in its footprint. -/
theorem exec_touches {i : Instr} {s u : State} (hd : i ≠ .deviceReset) (hl : i ≠ .resetLineAsserted)
    (h : exec i s = .next u) : s.Touches (rowFootprint i) u := by
  cases hc : portCommand i with
  | some x =>
    obtain ⟨p, c⟩ := x
    rw [exec_portCommand hc] at h
    have hF : rowFootprint i = portViews ++ c.footprint := by unfold rowFootprint; rw [hc]
    rw [hF]
    exact live_keeps h (.refl _ _) (State.act_touches s p c c.rule
      (fun b s => (c.rule_touches b s).mono (List.subset_append_right ..)) (List.subset_append_left ..))
  | none =>
    cases i with
    | deviceReset => exact absurd rfl hd
    | resetLineAsserted => exact absurd rfl hl
    | linkSignalDetected p =>
      change execLinkSignalDetected p s = _ at h
      unfold execLinkSignalDetected at h
      refine live_keeps (P := s.Touches lineViews) h (.refl _ _) ?_
      dsimp only
      split
      · exact State.setPort_touches' _ _ _ (Nat.le_refl _)
      all_goals exact .refl _ _
    | linkReceiverAligned p =>
      change execLinkReceiverAligned p s = _ at h
      unfold execLinkReceiverAligned at h
      refine live_keeps (P := s.Touches lineViews) h (.refl _ _) ?_
      dsimp only
      split
      · exact State.setPort_touches' _ _ _ (Nat.le_refl _)
      all_goals exact .refl _ _
    | linkAligned p =>
      change execLinkAligned p s = _ at h
      unfold execLinkAligned at h
      refine live_keeps (P := s.Touches lineViews) h (.refl _ _) ?_
      split
      · exact State.enterUp_touches ..
      all_goals exact .refl _ _
    | linkSignalLost p =>
      change execLinkSignalLost p s = _ at h
      unfold execLinkSignalLost at h
      refine live_keeps (P := s.Touches lineViews) h (.refl _ _) ?_
      dsimp only
      split
      · exact State.leaveUp_touches ..
      · exact State.setPort_touches' _ _ _ (Nat.le_refl _)
      · exact .refl _ _
    | linkTrainingReceived p =>
      change execLinkTrainingReceived p s = _ at h
      unfold execLinkTrainingReceived at h
      refine live_keeps (P := s.Touches lineViews) h (.refl _ _) ?_
      split
      · exact State.leaveUp_touches ..
      all_goals exact .refl _ _
    | linkFramingFailure p =>
      change execLinkFramingFailure p s = _ at h
      unfold execLinkFramingFailure at h
      refine live_keeps (P := s.Touches lineViews) h (.refl _ _) ?_
      split
      · exact State.leaveUp_touches ..
      all_goals exact .refl _ _
    | commandWithoutCredit p =>
      change execCommandWithoutCredit p s = _ at h
      unfold execCommandWithoutCredit at h
      refine live_keeps (P := s.Touches lineViews) h (.refl _ _) ?_
      split
      · split
        · exact State.leaveUp_touches ..
        · exact .refl _ _
      all_goals exact .refl _ _
    | commandReceived p m =>
      change execCommandReceived p m s = _ at h
      unfold execCommandReceived at h
      refine live_keeps (P := s.Touches lineViews) h (.refl _ _) ?_
      dsimp only
      split
      · split
        · exact State.leaveUp_touches ..
        · exact State.setPort_touches' _ _ _ (Nat.le_refl _)
      all_goals exact .refl _ _
    | malformedMessage p =>
      change execMalformedMessage p s = _ at h
      unfold execMalformedMessage at h
      refine live_keeps (P := s.Touches lineViews) h (.refl _ _) ?_
      split
      · exact .refl _ _
      · split
        · exact .trans (State.begin_touches ..) (State.respond_touches ..)
        · exact .refl _ _
    | outboundSend p =>
      change execOutboundSend p s = _ at h
      unfold execOutboundSend at h
      refine live_keeps (P := s.Touches lineViews) h (.refl _ _) ?_
      split
      · exact State.sendNext_touches ..
      all_goals exact .refl _ _
    | outboundMessageSent p =>
      change execOutboundMessageSent p s = _ at h
      unfold execOutboundMessageSent at h
      refine live_keeps (P := s.Touches lineViews) h (.refl _ _) ?_
      dsimp only
      split
      · exact State.setPort_touches' _ _ _ (Nat.le_refl _)
      all_goals exact .refl _ _
    | wakeSignal t =>
      change execWakeSignal t s = _ at h
      unfold execWakeSignal at h
      refine live_keeps (P := s.Touches [.trunks, .trunk .state, .trunk .entry, .portW]) h (.refl _ _) ?_
      split
      · split
        · exact .trans (State.enterWaking_touches ..) (State.trunkNotice_touches ..)
        · exact .refl _ _
      all_goals exact .refl _ _
    | upstreamSignalDetected t =>
      change execUpstreamSignalDetected t s = _ at h
      unfold execUpstreamSignalDetected at h
      refine live_keeps (P := s.Touches (framingViews ++ [.trunk .state, .trunk .entry, .trunk .good, .portW])) h (.refl _ _) ?_
      split
      · exact .trans (State.enterAligning_touches ..) (State.trunkNotice_touches ..)
      all_goals exact .refl _ _
    | wakeTimeout t =>
      change execWakeTimeout t s = _ at h
      unfold execWakeTimeout at h
      refine live_keeps (P := s.Touches (.portW :: quitViews)) h (.refl _ _) ?_
      split
      · split
        · exact .trans (State.quitTrunk_touches ..) (State.trunkNotice_touches ..)
        · exact .refl _ _
      all_goals exact .refl _ _
    | alignTimeout t =>
      change execAlignTimeout t s = _ at h
      unfold execAlignTimeout at h
      refine live_keeps (P := s.Touches (.portW :: quitViews)) h (.refl _ _) ?_
      split
      · split
        · exact .trans (State.quitTrunk_touches ..) (State.trunkNotice_touches ..)
        · exact .refl _ _
      all_goals exact .refl _ _
    | lostGiveUp t =>
      change execLostGiveUp t s = _ at h
      unfold execLostGiveUp at h
      refine live_keeps (P := s.Touches (.portW :: quitViews)) h (.refl _ _) ?_
      split
      · split
        · exact .trans (State.quitTrunk_touches ..) (State.trunkNotice_touches ..)
        · exact .refl _ _
      all_goals exact .refl _ _
    | idleTimerExpiry t =>
      change execIdleTimerExpiry t s = _ at h
      unfold execIdleTimerExpiry at h
      refine live_keeps (P := s.Touches (.portW :: quitViews)) h (.refl _ _) ?_
      split
      · split
        · exact .trans (State.quitTrunk_touches ..) (State.trunkNotice_touches ..)
        · exact .refl _ _
      all_goals exact .refl _ _
    | frameStart t =>
      change execFrameStart t s = _ at h
      unfold execFrameStart at h
      refine live_keeps (P := s.Touches (.trunk .allocation :: frameViews)) h (.refl _ _) ?_
      split
      · refine .trans ?_ (State.sendFrame_touches ..)
        split
        · exact State.startMultiframe_touches ..
        · exact .refl _ _
      · exact .refl _ _
    | multiframeStart t =>
      change execMultiframeStart t s = _ at h
      unfold execMultiframeStart at h
      refine live_keeps (P := s.Touches [.trunks, .trunk .mfTaken, .trunk .markField, .trunk .allocation]) h (.refl _ _) ?_
      split
      · exact State.startMultiframe_touches ..
      · exact .refl _ _
    | upstreamFrameReceived t u' =>
      change execUpstreamFrameReceived t u' s = _ at h
      unfold execUpstreamFrameReceived at h
      refine live_keeps (P := s.Touches upstreamViews) h (.refl _ _) ?_
      split
      · exact State.takeUpstream_touches _ _ _ fun _ => id
      · exact .refl _ _
    | reportTake =>
      change execReportTake s = _ at h
      unfold execReportTake at h
      refine live_keeps (P := s.Touches (rowFootprint .reportTake)) h (.refl _ _) ?_
      split
      · exact .refl _ _
      · rename_i t _
        have first : s.Touches [.pointer, .trunks, .trunk .intake]
            { s.setTrunk t { s.trunk t with intake := (s.trunk t).intake.tail } with
              pointer := nextTrunk t } := by
          refine .trans (State.setTrunk_touches s t { s.trunk t with intake := (s.trunk t).intake.tail }
            (fun x hx => by cases x <;> simp at hx <;> rfl) (View.mem_of rfl))
            ⟨fun v hv => ?_, fun c => by cases c <;> exact id⟩
          cases v with
          | pointer => simp at hv
          | _ => rfl
        dsimp only
        split
        · exact first.mono (View.subset_of (by decide +kernel))
        · exact .trans (first.mono (View.subset_of (by decide +kernel))) (State.takeReport_touches ..)
    | roamTimeout i =>
      change execRoamTimeout i s = _ at h
      unfold execRoamTimeout at h
      refine live_keeps (P := s.Touches roamViews) h (.refl _ _) ?_
      split
      · exact .refl _ _
      · split
        · exact .refl _ _
        · split
          · exact .trans (State.completeRoam_touches ..) (.trans (State.tell_touches ..)
              (State.notify_touches _ .W _ (View.mem_of (by decide +kernel))))
          · exact .refl _ _
    | ageExpiry i =>
      change execAgeExpiry i s = _ at h
      unfold execAgeExpiry at h
      refine live_keeps (P := s.Touches (removeViews ++ messageViews)) h (.refl _ _) ?_
      split
      · exact .refl _ _
      · split
        · exact .refl _ _
        · split
          · exact .trans (State.remove_touches ..) (State.tell_touches ..)
          · exact .refl _ _
    | seatGraceExpiry i =>
      change execSeatGraceExpiry i s = _ at h
      unfold execSeatGraceExpiry at h
      refine live_keeps (P := s.Touches unbindViews) h (.refl _ _) ?_
      split
      · exact .refl _ _
      · rename_i r hr
        split
        · exact .refl _ _
        · split
          · refine .trans (State.putStation_touches s i r _ hr (fun x hx => ?_)
              (View.mem_of (by decide +kernel))) (.trans (State.retier_touches ..) (State.fenceSteer_touches ..))
            cases x <;> simp at hx <;> rfl
          · exact .refl _ _
    | steerHoldExpiry i =>
      change execSteerHoldExpiry i s = _ at h
      unfold execSteerHoldExpiry at h
      refine live_keeps (P := s.Touches [.stations, .station .steerHold]) h (.refl _ _) ?_
      split
      · exact .refl _ _
      · rename_i r hr
        split
        · exact .refl _ _
        · split
          · refine State.putStation_touches s i r _ hr (fun x hx => ?_) (View.mem_of rfl)
            cases x <;> simp at hx <;> rfl
          · exact .refl _ _
    | generatorExpiry =>
      change execGeneratorExpiry s = _ at h
      unfold execGeneratorExpiry at h
      refine live_keeps (P := s.Touches markViews) h (.refl _ _) ?_
      split
      · split
        · exact .trans (State.markEvent_touches s) (State.setMarks_touches ..)
        · exact .refl _ _
      · split
        · exact .trans (State.markEvent_touches s) (State.setMarks_touches ..)
        · exact .refl _ _
      all_goals exact .refl _ _
    | portVGraceExpiry =>
      change execPortVGraceExpiry s = _ at h
      unfold execPortVGraceExpiry at h
      refine live_keeps (P := s.Touches (.grace :: closeViews)) h (.refl _ _) ?_
      split
      · exact .refl _ _
      · split
        · exact .trans (State.setGrace_touches s none) (.each (fun s k => State.closeStream_touches ..) _)
        · exact .refl _ _
    | sectorTimeTick =>
      change execSectorTimeTick s = _ at h
      unfold execSectorTimeTick at h
      refine live_keeps (P := s.Touches [.now]) h (.refl _ _) ?_
      refine ⟨fun v hv => ?_, fun c => by cases c <;> exact id⟩
      cases v with
      | now => simp at hv
      | _ => rfl
    | _ => simp [portCommand] at hc

/-! ### A law and a step -/

/-- A law that does not speak of the queue and that every row keeps is kept by a step. -/
theorem step_keeps {P : State → Prop} (hp : ∀ s q, P s → P { s with pending := q })
    (hx : ∀ i s u, P s → exec i s = .next u → P u) (s u : State) (hs : P s) (h : step s = .next u) :
    P u := by
  unfold step at h
  split at h
  · cases h; exact hs
  · exact hx _ _ _ (hp _ _ hs) h

/-- A law holds after a device reset, line held or not, where it holds at reset and does not speak of
the fields that a reset keeps. -/
theorem reset_establishes {P : State → Prop} (hr : ∀ (s : State) held, P (s.deviceReset held))
    {i : Instr} {s u : State} (hi : i = .deviceReset ∨ i = .resetLineAsserted)
    (h : exec i s = .next u) : P u := by
  rcases hi with rfl | rfl
  · cases h; exact hr s false
  · cases h; exact hr s true

end Sys2Proof.Machine
end

section
/-! PROOF. The block and the ports (Chapter 1): steps, reset, the held part, sector time, the link, the
intake, the acceptance checks and the laws of a port. -/
namespace Sys2Proof.Machine

/-! ### The block (R1, R16) -/

/-- Settles O1: both branches of a step, by its definition. -/
theorem stepTakesFrontCommand : Obligations.StepTakesFrontCommand := fun _ _ _ => ⟨rfl, rfl⟩

/-- Settles O2: both rows build the reset state anew around the kept fields. -/
theorem deviceResetRestores : Obligations.DeviceResetRestores := fun _ => ⟨rfl, rfl⟩

/-- Every row but the two of the RESET line acts on a released part alone. -/
theorem exec_live (i : Instr) (hd : i ≠ .deviceReset) (hl : i ≠ .resetLineAsserted) :
    ∃ f, ∀ s, exec i s = s.live f := by
  cases i with
  | deviceReset => exact absurd rfl hd
  | resetLineAsserted => exact absurd rfl hl
  | _ => exact ⟨_, fun _ => rfl⟩

/-- Settles O4: a row that is not of the line itself is a live action, and a held part takes none. -/
theorem heldPartIsInert : Obligations.HeldPartIsInert := by
  intro i s hs hd hl
  obtain ⟨f, hf⟩ := exec_live i hd hl
  rw [hf, State.live_held s hs]

/-- The elapsed time is the modular difference. -/
theorem elapsed_eq (now stamp : Time) :
    elapsed now stamp = (now.toNat + 2 ^ 32 - stamp.toNat) % 2 ^ 32 := by
  have := stamp.isLt
  rw [elapsed, BitVec.toNat_sub, Nat.add_comm, ← Nat.add_sub_assoc (by omega)]

/-- Settles O5: a tick adds 1 to a 32-bit count. -/
theorem sectorTimeCounts : Obligations.SectorTimeCounts := by
  refine ⟨rfl, fun s hs => ⟨{ s with now := s.now + 1 }, ?_, ?_, rfl⟩, elapsed_eq⟩
  · simp only [exec, execSectorTimeTick, State.live_released s hs]
  · simp [BitVec.toNat_add]

/-! ### Notices (R11, R12) -/

/-- Settles O6: the two cases of a notice and its frame. -/
theorem noticeQueuedOrDropped : Obligations.NoticeQueuedOrDropped := by
  intro s p n
  refine ⟨fun h => if_pos h, fun h => if_neg (Nat.not_lt.2 h), ?_, fun p' hp => ?_, State.notify_frame s p n⟩
  · rw [State.port_notify, if_pos rfl]
    split <;> rfl
  · rw [State.port_notify, if_neg hp]

/-! ### The link (R2 to R6) -/

/-- The grace timer is Port V's alone (R166): what a departure writes. -/
theorem State.leaveUp_eq (s : State) (p : PortId) (d : Link) : s.leaveUp p d =
    State.setPort { s with grace := if p = .V then some s.now else s.grace } p
      { s.port p with link := d, aligned := false, waiting := [], responses := [], sending := none
                      credit := 0 } := by
  cases p <;> rfl

/-- What a port's return to UP writes. -/
theorem State.enterUp_eq (s : State) (p : PortId) : s.enterUp p =
    State.setPort { s with grace := if p = .V then none else s.grace } p
      { s.port p with link := .up, aligned := true, credit := 16 - (s.port p).taken } := by
  cases p <;> rfl

/-- Settles O7: each event by the link's state. -/
theorem linkComesUp : Obligations.LinkComesUp := by
  intro p s hs
  have live := State.live_released s hs
  have not_down : ∀ l : Link, l ≠ .down → l = .training ∨ l = .up := by intro l; cases l <;> simp
  have not_training : ∀ l : Link, l ≠ .training → l = .down ∨ l = .up := by intro l; cases l <;> simp
  refine ⟨fun h => ?_, fun h => ?_, fun h => ?_, fun h => ?_, fun h => ?_, fun h => ?_⟩
  · simp only [exec, execLinkSignalDetected, live, h]
  · rcases not_down _ h with h | h <;> simp only [exec, execLinkSignalDetected, live, h]
  · simp only [exec, execLinkReceiverAligned, live, h]
  · rcases not_training _ h with h | h <;> simp only [exec, execLinkReceiverAligned, live, h]
  · simp only [exec, execLinkAligned, live, h, State.enterUp_eq]
  · rcases not_training _ h with h | h <;> simp only [exec, execLinkAligned, live, h]

/-- No entry is free when 16 are taken. -/
theorem Port.free_eq_zero (q : Port) : q.free = 0 ↔ 16 ≤ q.taken := by
  unfold Port.free intakeCapacity
  omega

/-- Settles O8: each event by the link's state, the command without a credit by the free entries. -/
theorem linkLeavesUp : Obligations.LinkLeavesUp := by
  intro p s hs
  have live := State.live_released s hs
  have not_up : ∀ l : Link, l ≠ .up → l = .down ∨ l = .training := by intro l; cases l <;> simp
  simp only [← State.leaveUp_eq]
  refine ⟨fun h => ⟨?_, ?_, ?_, fun ht => ?_, fun ht => ?_⟩, fun h => ?_, fun h => ?_, fun h => ⟨?_, ?_, ?_⟩⟩
  · simp only [exec, execLinkSignalLost, live, h]
  · simp only [exec, execLinkTrainingReceived, live, h]
  · simp only [exec, execLinkFramingFailure, live, h]
  · simp only [exec, execCommandWithoutCredit, live, h, Port.free_eq_zero, ht, if_true]
  · simp only [exec, execCommandWithoutCredit, live, h, Port.free_eq_zero, Nat.not_le.2 ht, if_false]
  · simp only [exec, execLinkSignalLost, live, h]
  · simp only [exec, execLinkSignalLost, live, h]
  · rcases not_up _ h with h | h <;> simp only [exec, execLinkTrainingReceived, live, h]
  · rcases not_up _ h with h | h <;> simp only [exec, execLinkFramingFailure, live, h]
  · rcases not_up _ h with h | h <;> simp only [exec, execCommandWithoutCredit, live, h]

/-- Settles O9: a command received by the link's state and the free entries. -/
theorem commandTakesEntry : Obligations.CommandTakesEntry := by
  intro p m s hs
  have live := State.live_released s hs
  have not_up : ∀ l : Link, l ≠ .up → l = .down ∨ l = .training := by intro l; cases l <;> simp
  refine ⟨fun h ht => ?_, fun h ht => ?_, fun h => ?_⟩
  · simp only [exec, execCommandReceived, live, h, Port.free_eq_zero, Nat.not_le.2 ht, if_false]
  · simp only [exec, execCommandReceived, execCommandWithoutCredit, live, h, Port.free_eq_zero, ht, if_true]
  · rcases not_up _ h with h | h <;> simp only [exec, execCommandReceived, live, h]

/-! ### The acceptance checks (R180) -/

/-- A message of a code that no command has is malformed. -/
theorem Command.ofCode_none (n : Nat) (h : ∀ c : Command, c.code ≠ n) : Command.ofCode n = none := by
  cases hc : Command.ofCode n with
  | none => rfl
  | some c => exact absurd (Command.code_of_ofCode n c hc) (h c)

/-- The checks on a message that names a command. -/
theorem refusal_named (p : PortId) (m : PortMessage) (c : Command) (hk : m.kind = 1)
    (hc : c.code = m.code.toNat) : refusal p m =
      if ¬ c.permitted p then some .notPermitted
      else if maxBody < m.bodyLength.toNat ∨ m.bodyLength.toNat ≠ m.body.length then some .malformed
      else if m.body.length ≠ c.length m.body then some .malformed else none := by
  unfold refusal
  rw [if_neg (not_not_intro hk), ← hc, Command.ofCode_code]

theorem refusal_cases (p : PortId) (m : PortMessage) :
    (m.kind ≠ 1 → refusal p m = some .malformed)
    ∧ (m.kind = 1 → (∀ c : Command, c.code ≠ m.code.toNat) → refusal p m = some .malformed)
    ∧ ∀ c : Command, m.kind = 1 → c.code = m.code.toNat →
      (c.permitted p = false → refusal p m = some .notPermitted)
      ∧ (c.permitted p = true → (1040 < m.bodyLength.toNat ∨ m.bodyLength.toNat ≠ m.body.length) →
          refusal p m = some .malformed)
      ∧ (c.permitted p = true → m.body.length ≠ c.length m.body → refusal p m = some .malformed)
      ∧ (c.permitted p = true → m.bodyLength.toNat ≤ 1040 → m.bodyLength.toNat = m.body.length →
          m.body.length = c.length m.body → refusal p m = none) := by
  refine ⟨fun h => if_pos h, fun hk hc => ?_, fun c hk hc => ?_⟩
  · unfold refusal
    rw [if_neg (not_not_intro hk), Command.ofCode_none _ hc]
  · rw [refusal_named p m c hk hc]
    refine ⟨fun h => by simp [h], fun h hl => ?_, fun h hl => ?_, fun h h1 h2 h3 => ?_⟩
    · rw [if_neg (by simp [h])]
      exact if_pos hl
    · rw [if_neg (by simp [h]), if_pos hl, ite_self]
    · rw [if_neg (by simp [h]), if_neg (by unfold maxBody; omega), if_neg (not_not_intro h3)]

/-- A refused message at the head of an intake is answered by MALFORMED_MESSAGE. -/
theorem exec_malformedMessage_refused (p : PortId) (m : PortMessage) (r : Result) (s : State)
    (hs : s.held = false) (hu : (s.port p).link = .up) (hw : (s.port p).waiting.head? = some m)
    (hr : refusal p m = some r) : exec (.malformedMessage p) s = .next (s.answered p m r []) := by
  rw [← State.respond_begin s p m r [] hu (fun _ => rfl)]
  simp only [exec, execMalformedMessage, State.live_released s hs]
  cases h : (s.port p).waiting with
  | nil => simp [h] at hw
  | cons m' rest =>
    obtain rfl : m' = m := by simpa [h] using hw
    simp only [hr]

/-- Settles O11: the checks, the codes and sets by evaluation, and a refused command by either row. -/
theorem refusedMessageAnswered : Obligations.RefusedMessageAnswered := by
  refine ⟨refusal_cases, ⟨rfl, rfl, rfl, rfl, rfl, fun p c => ?_⟩, fun b => ⟨rfl, rfl, rfl, rfl⟩,
    exec_malformedMessage_refused, fun i p c m r s hi h hr => ?_⟩
  · cases p <;> cases c <;> decide
  · rw [exec_portCommand hi, State.live_released s h.released, State.act_refused s p c m r h hr]

/-! ### Every command is answered (R7, R8) -/

/-- An answer leaves, of a port that the rule left but for notices, its command's response. -/
theorem State.port_respond (s : State) (p : PortId) (m : PortMessage) (r : Result) (b : List Field)
    (h : (s.port p).link = .up) (p' : PortId) : (s.respond p m r b).port p' =
      if p' = p then { s.port p with
        responses := (s.port p).responses ++ [⟨m.code, m.tag, r, if r = .ok then b else [], (s.port p).ready⟩]
        ready := (s.port p).ready + 1 }
      else s.port p' := by
  rw [State.respond_up s p m r b h, State.port_setPort]

/-- No command's own rule touches more of a port than its notices. -/
theorem Command.bare_rule (c : Command) (b : List Byte) (s : State) (p : PortId) :
    ((c.rule b s).state.port p).bare = (s.port p).bare :=
  (c.rule_touches b s).bare p (by cases c <;> exact View.not_mem_of (by decide +kernel))

/-- What a port holds besides its notices can be read off the bare port. -/
theorem Port.eq_of_bare {α : Type} (f : Port → α) (hf : ∀ q, f q.bare = f q) {q q' : Port}
    (h : q.bare = q'.bare) : f q = f q' := by rw [← hf q, h, hf]

/-- Settles O12: the rule leaves the ports but for their notices, so that the response joins the path
that the command found. -/
theorem everyCommandAnswered : Obligations.EveryCommandAnswered := by
  intro i p c m s hi h
  have hb := c.bare_rule m.body (s.begin p)
  have hx : exec i s = .next _ := (exec_portCommand hi s).trans
    ((State.live_released s h.released _).trans (congrArg _ (State.act_taken s p c m h c.rule)))
  generalize c.rule m.body (s.begin p) = a at hb hx
  have read : ∀ {α : Type} (f : Port → α), (∀ q, f q.bare = f q) → ∀ p',
      f (a.state.port p') = f ((s.begin p).port p') := fun f hf p' => Port.eq_of_bare f hf (hb p')
  have hlink := read (·.link) (fun _ => rfl)
  have hwaiting := read (·.waiting) (fun _ => rfl)
  have hresponses := read (·.responses) (fun _ => rfl)
  have hsending := read (·.sending) (fun _ => rfl)
  have hcredit := read (·.credit) (fun _ => rfl)
  simp only [State.port_begin] at hlink hwaiting hresponses hsending hcredit
  have hup : (a.state.port p).link = .up := by rw [hlink, if_pos rfl]; exact h.up
  have port := State.port_respond a.state p m a.result a.body hup
  refine ⟨_, a.result, if a.result = .ok then a.body else [], (a.state.port p).ready, hx, ?_, ?_, ?_, ?_,
    ?_, ?_, fun q hq => ⟨?_, ?_, ?_, ?_⟩⟩
  · rw [port, if_pos rfl]; exact (hwaiting p).trans (by rw [if_pos rfl])
  · rw [port, if_pos rfl, hresponses, if_pos rfl]
  · exact fun hr => if_neg hr
  · rw [port, if_pos rfl]; exact hup
  · rw [port, if_pos rfl]; exact (hsending p).trans (by rw [if_pos rfl])
  · rw [port, if_pos rfl]; exact (hcredit p).trans (by rw [if_pos rfl])
  all_goals rw [port, if_neg hq]
  · rw [hwaiting, if_neg hq]
  · rw [hresponses, if_neg hq]
  · rw [hlink, if_neg hq]
  · rw [hsending, if_neg hq]

/-! ### The laws of a port (R3, R4, R6, R11) -/

/-- A port is sound when its bare part is and its notices have room. -/
theorem Port.sound_iff (q : Port) : q.Sound ↔ q.bare.Sound ∧ q.notices.length ≤ 64 :=
  ⟨fun h => ⟨⟨h.away, h.credits, Nat.zero_le _⟩, h.room⟩, fun ⟨h, hr⟩ => ⟨h.away, h.credits, hr⟩⟩

/-- What leaves the ports but for their notices keeps them sound. -/
theorem State.PortsSound.of_bare {s u : State} (h : s.PortsSound)
    (hb : ∀ p, (u.port p).bare = (s.port p).bare) (hr : s.canon .room → u.canon .room) : u.PortsSound :=
  fun p => (Port.sound_iff _).2
    ⟨hb p ▸ ((Port.sound_iff _).1 (h p)).1, hr (fun p => (h p).room) p⟩

/-- A sound port written keeps the ports sound. -/
theorem State.PortsSound.setPort {s : State} (h : s.PortsSound) (p : PortId) {q : Port} (hq : q.Sound) :
    (s.setPort p q).PortsSound := by
  intro p'
  rw [State.port_setPort]
  split
  · exact hq
  · exact h p'

/-- A port that has left UP is sound. -/
theorem State.PortsSound.leaveUp {s : State} (h : s.PortsSound) (p : PortId) {d : Link} (hd : d ≠ .up) :
    (s.leaveUp p d).PortsSound := by
  have left : ((s.port p).leaveUp d).Sound := ⟨fun _ => ⟨rfl, rfl, rfl⟩, fun hu => absurd hu hd, (h p).room⟩
  have := h.setPort p left
  cases p <;> exact this

/-- A command begun, acted on by a rule that leaves the ports but for their notices, and answered, moves
from the intake to the response path: the entries taken stay. -/
theorem State.PortsSound.answer {s v : State} (h : s.PortsSound) {p : PortId} {m : PortMessage}
    {rest : List PortMessage} (hw : (s.port p).waiting = m :: rest)
    (hb : ∀ p', (v.port p').bare = ((s.begin p).port p').bare) (hr : s.canon .room → v.canon .room)
    (r : Result) (b : List Field) : (v.respond p m r b).PortsSound := by
  have hup : (s.port p).link = .up := by
    refine Classical.byContradiction fun hl => ?_
    rw [((h p).away hl).1] at hw
    cases hw
  have room := hr fun p => (h p).room
  have own : (v.port p).bare = { s.port p with waiting := rest }.bare := by
    rw [hb p, State.port_begin, if_pos rfl, hw]; rfl
  have read : ∀ {α : Type} (f : Port → α), (∀ q, f q.bare = f q) →
      f (v.port p) = f { s.port p with waiting := rest } := fun f hf => Port.eq_of_bare f hf own
  have hlink : (v.port p).link = .up := (read (·.link) fun _ => rfl).trans hup
  have htaken : (v.port p).taken = _ := read Port.taken fun _ => rfl
  have hcredit : (v.port p).credit = (s.port p).credit := read (·.credit) fun _ => rfl
  have credits := (h p).credits hup
  intro p'
  rw [State.port_respond v p m r b hlink]
  split
  · refine ⟨fun hl => absurd hlink hl, fun _ => ?_, room p⟩
    simp only [Port.taken, Port.sendingResponse, hw, List.length_append, List.length_cons,
      List.length_nil] at htaken credits ⊢
    omega
  · rename_i hp
    refine (Port.sound_iff _).2 ⟨?_, room p'⟩
    rw [hb p', State.port_begin, if_neg hp]
    exact ((Port.sound_iff _).1 (h p')).1

/-- A port command keeps the ports sound. -/
theorem State.PortsSound.act {s : State} (h : s.PortsSound) (p : PortId) (c : Command) :
    (s.act p c c.rule).PortsSound := by
  unfold State.act
  split
  · exact h
  · rename_i m rest hw
    have begun := State.begin_touches (G := portViews) s p
    split
    · split
      · exact h.answer hw (fun _ => rfl) (begun.canon .room) _ _
      · exact h.answer hw (c.bare_rule _ _)
          (fun hr => (c.rule_touches _ _).canon .room (begun.canon .room hr)) _ _
    · exact h

/-- The next message sent leaves the response path or the notice queue and takes the line. -/
theorem State.PortsSound.sendNext {s : State} (h : s.PortsSound) (p : PortId)
    (hu : (s.port p).link = .up) (hs : (s.port p).sending = none) : (s.sendNext p).PortsSound := by
  have credits := (h p).credits hu
  have response : ∀ r rs, (s.port p).responses = r :: rs → (s.sendResponse p r).PortsSound := by
    intro r rs hr
    have := h.setPort p (q := { s.port p with responses := (s.port p).responses.tail
                                              sending := some (r.message s.fresh) })
      ⟨fun hl => absurd hu hl, fun _ => ?_, (h p).room⟩
    · exact this
    · simp only [Port.taken, Port.sendingResponse, hs, hr, bit, Response.message, List.tail_cons,
        List.length_cons, beq_self_eq_true, if_true, Bool.false_eq_true, if_false] at credits ⊢
      omega
  have notice : ∀ n, (s.sendNotice p n).PortsSound := by
    intro n
    have := h.setPort p (q := { s.port p with
        notices := (s.port p).notices.tail, sending := some (n.message s.fresh (s.port p).overflow)
        overflow := false })
      ⟨fun hl => absurd hu hl, fun _ => ?_, ?_⟩
    · exact this
    · simp only [Port.taken, Port.sendingResponse, hs, bit, QueuedNotice.message] at credits ⊢
      exact credits
    · have := (h p).room
      simp only [List.length_tail]
      omega
  unfold State.sendNext
  split
  · exact h
  · exact response _ _ (by assumption)
  · exact notice _
  · split
    · exact response _ _ (by assumption)
    · exact notice _

/-- Every port is sound after a device reset. -/
theorem portsSound_deviceReset (s : State) (held : Bool) : (s.deviceReset held).PortsSound := by
  have reset : Port.reset.Sound := ⟨fun _ => ⟨rfl, rfl, rfl⟩, nofun, Nat.zero_le _⟩
  intro p
  cases p <;> exact reset

/-- The events of the link, the intake and the line keep the ports sound, and so do the commands; every
other row leaves the ports but for their notices. -/
theorem portsSound_exec (i : Instr) (s u : State) (h : s.PortsSound) (hx : exec i s = .next u) :
    u.PortsSound := by
  by_cases hi : i = .deviceReset ∨ i = .resetLineAsserted
  · exact reset_establishes portsSound_deviceReset hi hx
  have t := exec_touches (fun e => hi (.inl e)) (fun e => hi (.inr e)) hx
  by_cases hb : View.bare ∉ rowFootprint i
  · exact h.of_bare (fun p => t.bare p hb) (t.canon .room)
  cases hc : portCommand i with
  | some x =>
    rw [exec_portCommand hc] at hx
    exact live_keeps hx h (h.act x.1 x.2)
  | none =>
    cases i with
    | linkSignalDetected p =>
      change execLinkSignalDetected p s = _ at hx
      refine live_keeps hx h ?_
      dsimp only
      split
      · rename_i hl
        have down := (h p).away (by rw [hl]; decide)
        exact h.setPort p ⟨fun _ => down, nofun, (h p).room⟩
      · exact h
      · exact h
    | linkReceiverAligned p =>
      change execLinkReceiverAligned p s = _ at hx
      refine live_keeps hx h ?_
      dsimp only
      split
      · exact h.setPort p ⟨(h p).away, (h p).credits, (h p).room⟩
      · exact h
      · exact h
    | linkAligned p =>
      change execLinkAligned p s = _ at hx
      refine live_keeps hx h ?_
      split
      · rename_i hl
        have none := (h p).away (by rw [hl]; decide)
        have opened : ({ s.port p with link := .up, aligned := true, credit := (s.port p).free }
            : Port).Sound := by
          refine ⟨fun hu => absurd rfl hu, fun _ => ?_, (h p).room⟩
          obtain ⟨hw, hr, hs⟩ := none
          simp [Port.free, Port.taken, Port.sendingResponse, hw, hr, hs, bit, intakeCapacity]
        have := h.setPort p opened
        cases p <;> exact this
      · exact h
      · exact h
    | linkSignalLost p =>
      change execLinkSignalLost p s = _ at hx
      refine live_keeps hx h ?_
      dsimp only
      split
      · exact h.leaveUp p (by decide)
      · rename_i hl
        have none := (h p).away (by rw [hl]; decide)
        exact h.setPort p ⟨fun _ => none, nofun, (h p).room⟩
      · exact h
    | linkTrainingReceived p =>
      change execLinkTrainingReceived p s = _ at hx
      refine live_keeps hx h ?_
      split
      · exact h.leaveUp p (by decide)
      · exact h
      · exact h
    | linkFramingFailure p =>
      change execLinkFramingFailure p s = _ at hx
      refine live_keeps hx h ?_
      split
      · exact h.leaveUp p (by decide)
      · exact h
      · exact h
    | commandWithoutCredit p =>
      change execCommandWithoutCredit p s = _ at hx
      refine live_keeps hx h ?_
      split
      · split
        · exact h.leaveUp p (by decide)
        · exact h
      · exact h
      · exact h
    | commandReceived p m =>
      change execCommandReceived p m s = _ at hx
      refine live_keeps hx h ?_
      dsimp only
      split
      · rename_i hl
        split
        · exact h.leaveUp p (by decide)
        · rename_i hf
          rw [Port.free_eq_zero] at hf
          refine h.setPort p ⟨fun hn => absurd hl hn, fun _ => ?_, (h p).room⟩
          have := (h p).credits hl
          simp only [Port.taken, Port.sendingResponse, List.length_append, List.length_singleton]
            at this hf ⊢
          omega
      · exact h
      · exact h
    | malformedMessage p =>
      change execMalformedMessage p s = _ at hx
      refine live_keeps hx h ?_
      split
      · exact h
      · rename_i m rest hw
        split
        · exact h.answer hw (fun _ => rfl) ((State.begin_touches (G := portViews) s p).canon .room) _ _
        · exact h
    | outboundSend p =>
      change execOutboundSend p s = _ at hx
      refine live_keeps hx h ?_
      split
      · exact h.sendNext p (by assumption) (by assumption)
      all_goals exact h
    | outboundMessageSent p =>
      change execOutboundMessageSent p s = _ at hx
      refine live_keeps hx h ?_
      dsimp only
      split
      · rename_i m hl hm
        refine h.setPort p ⟨fun hn => absurd hl hn, fun _ => ?_, (h p).room⟩
        have := (h p).credits hl
        simp only [Port.taken, Port.sendingResponse, hm, bit, Bool.false_eq_true, if_false] at this ⊢
        omega
      all_goals exact h
    | deviceReset => exact absurd (.inl rfl) hi
    | resetLineAsserted => exact absurd (.inr rfl) hi
    | wakeSignal | upstreamSignalDetected | wakeTimeout | alignTimeout | lostGiveUp | idleTimerExpiry
    | frameStart | multiframeStart | upstreamFrameReceived | reportTake | roamTimeout | ageExpiry
    | seatGraceExpiry | steerHoldExpiry | generatorExpiry | portVGraceExpiry | sectorTimeTick =>
      exact absurd (View.not_mem_of rfl) hb
    | _ => simp [portCommand] at hc

/-- Settles O54: every row keeps the ports sound. -/
theorem portsStaySound : Obligations.PortsStaySound :=
  fun s u => step_keeps (fun _ _ h => h) portsSound_exec s u

/-! ### The canonical forms of the tables (log entry 23) -/

/-- The canonical forms of segment memory and the tables, together. -/
theorem tablesSound_iff (s : State) : s.TablesSound ↔ ∀ c, c ≠ .room → s.canon c := by
  constructor
  · rintro ⟨hm, hc, hs, ht, hf, hd, hu⟩ c hne
    cases c with
    | fan => exact hf.1
    | listed => exact hf.2
    | room => exact absurd rfl hne
    | _ => assumption
  · exact fun h => ⟨h .memory nofun, h .cells nofun, h .stations nofun, h .tickets nofun,
      ⟨h .fan nofun, h .listed nofun⟩, h .descs nofun, h .used nofun⟩

/-- A row keeps each canonical form by itself; a reset clears the tables and keeps segment memory. -/
theorem canon_exec (c : Canon) (i : Instr) (s u : State) (h : s.canon c) (hx : exec i s = .next u) :
    u.canon c := by
  by_cases hi : i = .deviceReset ∨ i = .resetLineAsserted
  · have reset : ∀ held, (s.deviceReset held).canon c := by
      intro held
      cases c with
      | memory => exact h
      | listed => exact fun e he => (List.not_mem_nil he).elim
      | used => exact List.Pairwise.nil
      | room => exact fun p => by cases p <;> exact Nat.zero_le _
      | _ => rfl
    rcases hi with rfl | rfl
    · cases hx; exact reset false
    · cases hx; exact reset true
  · exact (exec_touches (fun e => hi (.inl e)) (fun e => hi (.inr e)) hx).canon c h

/-- A step keeps segment memory and the tables canonical. -/
theorem tablesSound_step (s u : State) (h : s.TablesSound) (hx : step s = .next u) : u.TablesSound := by
  refine step_keeps (P := State.TablesSound) (fun s q h => ?_) (fun i s u h hx => ?_) s u h hx
  · obtain ⟨hm, hc, hs, ht, hf, hd, hu⟩ := h
    exact ⟨hm, hc, hs, ht, hf, hd, hu⟩
  · rw [tablesSound_iff] at h ⊢
    exact fun c hc => canon_exec c i s u (h c hc) hx

end Sys2Proof.Machine
end

section
/-! PROOF. Tickets and stations name each other (R120): every step keeps the ticket law. The law speaks of
the bindings and seat-grace starts of the stations and of the states of the tickets alone; each operation
is taken as an update of these three. -/
namespace Sys2Proof.Machine

/-! ### The entries of a table -/

/-- The keys of a table in canonical form rise. -/
theorem pairwise_of_rising {α : Type} (l : List (Nat × α)) (h : risingFrom none l = true) :
    l.Pairwise (fun e f => e.1 < f.1) := by
  have above : ∀ (l : List (Nat × α)) b, risingFrom (some b) l = true →
      (∀ e ∈ l, b < e.1) ∧ l.Pairwise (fun e f => e.1 < f.1) := by
    intro l
    induction l with
    | nil => simp
    | cons e l ih =>
      intro b hb
      simp only [risingFrom, Bool.and_eq_true, decide_eq_true_eq] at hb
      obtain ⟨hlt, hp⟩ := ih e.1 hb.2
      refine ⟨fun f hf => ?_, List.pairwise_cons.2 ⟨hlt, hp⟩⟩
      rcases List.mem_cons.1 hf with rfl | hf
      · exact hb.1
      · exact Nat.lt_trans hb.1 (hlt f hf)
  cases l with
  | nil => simp
  | cons e l => exact List.pairwise_cons.2 (above l e.1 h)

/-- A record of a table is one of its entries. -/
theorem mem_of_assocGet {α : Type} (l : List (Nat × α)) (i : Nat) (r : α) (h : assocGet l i = some r) :
    (i, r) ∈ l := by
  induction l with
  | nil => simp [assocGet] at h
  | cons e l ih =>
    obtain ⟨k, w⟩ := e
    simp only [assocGet] at h
    split at h
    · rename_i hk
      cases h
      subst hk
      exact List.mem_cons_self ..
    · exact List.mem_cons_of_mem _ (ih h)

/-- Under the canonical form the entries are the records. -/
theorem mem_entries_iff {α : Type} (l : List (Nat × α)) (h : risingFrom none l = true) (i : Nat) (r : α) :
    (i, r) ∈ l ↔ assocGet l i = some r := by
  refine ⟨fun hm => ?_, mem_of_assocGet l i r⟩
  have hp := pairwise_of_rising l h
  clear h
  induction l with
  | nil => simp at hm
  | cons e l ih =>
    obtain ⟨hlt, hp⟩ := List.pairwise_cons.1 hp
    rcases List.mem_cons.1 hm with rfl | hm
    · simp [assocGet]
    · rw [assocGet, if_neg (Nat.ne_of_lt (hlt _ hm))]
      exact ih hm hp

/-- A key is listed when it has a record. -/
theorem mem_keys_iff {α : Type} (l : List (Nat × α)) (i : Nat) :
    i ∈ l.map Prod.fst ↔ (assocGet l i).isSome = true := by
  induction l with
  | nil => simp [assocGet]
  | cons e l ih =>
    simp only [List.map_cons, List.mem_cons, assocGet, ih]
    split
    · simp_all
    · rename_i hk
      exact or_iff_right (Ne.symm hk)

/-- The lowest free index of a table in canonical form has no record. -/
theorem Table.get?_firstFree {α : Type} (t : Table α) (h : t.wf = true) :
    t.get? (firstFree 0 t.keys) = none := by
  have hp : t.keys.Pairwise (· < ·) := List.pairwise_map.2 (pairwise_of_rising t.entries h)
  have hn := firstFree_not_mem t.keys 0 hp (fun _ _ => Nat.zero_le _)
  rw [Table.keys, mem_keys_iff] at hn
  exact Option.not_isSome_iff_eq_none.1 hn

/-- The record found for an address is live. -/
theorem State.station?_of_stationAt? (s : State) (h : s.stations.wf = true) (a : Address) (i : StationIx)
    (r : Station) (hr : s.stationAt? a = some (i, r)) : s.station? i = some r := by
  refine (mem_entries_iff _ h i r).1 ?_
  unfold State.stationAt? at hr
  generalize s.stations.entries = l at hr
  induction l with
  | nil => simp [findAddress] at hr
  | cons e l ih =>
    simp only [findAddress] at hr
    split at hr
    · cases hr; exact List.mem_cons_self ..
    · exact List.mem_cons_of_mem _ (ih hr)

/-! ### A law of some views and a step -/

/-- No view of a list is listed in a footprint. -/
def View.apart (V F : List View) : Bool := V.all fun v => !View.listed F v

theorem View.apart_iff (V F : List View) : View.apart V F = true ↔ ∀ v ∈ V, v ∉ F := by
  simp only [View.apart, List.all_eq_true, Bool.not_eq_true', Bool.eq_false_iff, ne_eq, View.listed_iff]

/-- A law that rests on some views alone is kept by a step when it holds at reset and the own rules and the
events that may change those views keep it. -/
theorem law_step {P : State → Prop} (V : List View)
    (hV : ∀ {F : List View} {s u : State}, s.Touches F u → View.apart V F = true → P s → P u)
    (hport : View.apart V (.pending :: portViews) = true)
    (hreset : ∀ s held, P (State.deviceReset s held))
    (hrule : ∀ c b s, View.apart V (Command.footprint c) = false → P s → P (c.rule b s).state)
    (hevent : ∀ i s u, portCommand i = none → i ≠ .deviceReset → i ≠ .resetLineAsserted →
      View.apart V (rowFootprint i) = false → P s → exec i s = .next u → P u)
    (s u : State) (hs : P s) (h : step s = .next u) : P u := by
  have ports : ∀ {s u : State}, s.Touches portViews u → P s → P u := fun t =>
    hV (t.mono (List.subset_cons_self _ _)) hport
  refine step_keeps (fun s q hs => ?_) (fun i s u hs h => ?_) s u hs h
  · refine hV (F := .pending :: portViews) ⟨fun v hv => ?_, fun c => by cases c <;> exact id⟩ hport hs
    cases v with
    | pending => simp at hv
    | _ => rfl
  · by_cases hi : i = .deviceReset ∨ i = .resetLineAsserted
    · exact reset_establishes hreset hi h
    have t := exec_touches (fun e => hi (.inl e)) (fun e => hi (.inr e)) h
    cases ha : View.apart V (rowFootprint i) with
    | true => exact hV t ha hs
    | false =>
      cases hc : portCommand i with
      | none => exact hevent i s u hc (fun e => hi (.inl e)) (fun e => hi (.inr e)) ha hs h
      | some x =>
        obtain ⟨p, c⟩ := x
        rw [exec_portCommand hc] at h
        refine live_keeps h hs ?_
        unfold State.act
        split
        · exact hs
        · have begun := ports (State.begin_touches s p) hs
          split
          · split
            · exact ports (State.respond_touches ..) begun
            · refine ports (State.respond_touches ..) ?_
              cases hr : View.apart V c.footprint with
              | true => exact hV (c.rule_touches _ _) hr begun
              | false => exact hrule c _ _ hr begun
          · exact hs

/-! ### Bindings and ticket states -/

/-- The binding of the station at an index. -/
def State.bindingAt (s : State) (i : StationIx) : Option Binding := (s.station? i).map (·.binding)
/-- The seat-grace start of the station at an index. -/
def State.graceAt (s : State) (i : StationIx) : Option (Option Time) := (s.station? i).map (·.grace)
/-- The state of the ticket of a token. -/
def State.stateAt (s : State) (k : Token) : Option TicketState := (s.ticket? k).map (·.state)

/-- Bindings and ticket states name each other, and a bound station has no seat-grace start. -/
structure Agree (b : StationIx → Option Binding) (g : StationIx → Option (Option Time))
    (t : Token → Option TicketState) : Prop where
  named : ∀ i k, b i = some (.bound k) ↔ t k = some (.seated i)
  grace : ∀ i k, b i = some (.bound k) → g i = some none

/-- The ticket law in bindings and ticket states. -/
theorem ticketLaw_iff (s : State) : s.TicketLaw ↔ s.stations.wf = true ∧ s.tickets.wf = true
    ∧ Agree s.bindingAt s.graceAt s.stateAt := by
  constructor
  · rintro ⟨hs, ht, hb, hn⟩
    refine ⟨hs, ht, fun i k => ⟨fun h => ?_, fun h => ?_⟩, fun i k h => ?_⟩
    · obtain ⟨r, hr, hk⟩ := Option.map_eq_some_iff.1 h
      obtain ⟨-, t, ht, hx⟩ := hb i r k hr hk
      simp [State.stateAt, ht, hx]
    · obtain ⟨t, ht, hx⟩ := Option.map_eq_some_iff.1 h
      obtain ⟨r, hr, hk⟩ := hn k t i ht hx
      simp [State.bindingAt, hr, hk]
    · obtain ⟨r, hr, hk⟩ := Option.map_eq_some_iff.1 h
      simp [State.graceAt, hr, (hb i r k hr hk).1]
  · rintro ⟨hs, ht, hn, hg⟩
    refine ⟨hs, ht, fun i r k hr hk => ⟨?_, ?_⟩, fun k t i ht hx => ?_⟩
    · simpa [State.graceAt, hr] using hg i k (by simp [State.bindingAt, hr, hk])
    · simpa [State.bindingAt, State.stateAt, hr, hk, Option.map_eq_some_iff] using hn i k
    · simpa [State.bindingAt, State.stateAt, ht, hx, Option.map_eq_some_iff] using hn i k

/-- A function with another value at one argument. -/
def changedAt {α β : Type} [DecidableEq α] (f : α → β) (a : α) (b : β) : α → β := fun x => if x = a then b else f x

section
variable {α β : Type} [DecidableEq α] {f : α → β} {b : β}

@[simp] theorem changedAt_self (a : α) : changedAt f a b a = b := if_pos rfl

theorem changedAt_of_ne {a x : α} (h : x ≠ a) : changedAt f a b x = f x := if_neg h

theorem changedAt_eq_self {a : α} (h : b = f a) : changedAt f a b = f := by
  funext x
  by_cases hx : x = a
  · rw [hx, changedAt_self, h]
  · exact changedAt_of_ne hx

theorem changedAt_again {a : α} (c : β) : changedAt (changedAt f a c) a b = changedAt f a b := by
  funext x
  by_cases hx : x = a
  · rw [hx, changedAt_self, changedAt_self]
  · rw [changedAt_of_ne hx, changedAt_of_ne hx, changedAt_of_ne hx]

end

namespace Agree
variable {b : StationIx → Option Binding} {g : StationIx → Option (Option Time)}
  {t : Token → Option TicketState}

/-- A station that is not bound, before and after, is free to change. -/
theorem setStation (h : Agree b g t) (i : StationIx) (x : Option Binding) (y : Option (Option Time))
    (hb : ∀ k, b i ≠ some (.bound k)) (hx : ∀ k, x ≠ some (.bound k)) :
    Agree (changedAt b i x) (changedAt g i y) t := by
  constructor
  · intro j k
    by_cases hj : j = i
    · subst hj
      simp only [changedAt_self, ← h.named]
      exact ⟨fun e => absurd e (hx k), fun e => absurd e (hb k)⟩
    · simpa only [changedAt_of_ne hj] using h.named j k
  · intro j k
    by_cases hj : j = i
    · subst hj
      simp only [changedAt_self]
      exact fun e => absurd e (hx k)
    · simpa only [changedAt_of_ne hj] using h.grace j k

/-- A ticket that is not seated, before and after, is free to change. -/
theorem setTicket (h : Agree b g t) (k : Token) (x : Option TicketState)
    (ht : ∀ i, t k ≠ some (.seated i)) (hx : ∀ i, x ≠ some (.seated i)) :
    Agree b g (changedAt t k x) := by
  refine ⟨fun i j => ?_, h.grace⟩
  by_cases hj : j = k
  · subst hj
    simp only [changedAt_self, h.named]
    exact ⟨fun e => absurd e (ht i), fun e => absurd e (hx i)⟩
  · simpa only [changedAt_of_ne hj] using h.named i j

/-- Ticket and station part. -/
theorem unseat (h : Agree b g t) {k : Token} {i : StationIx} (hk : t k = some (.seated i))
    (x : Option TicketState) (y : Option Binding) (z : Option (Option Time))
    (hx : ∀ i, x ≠ some (.seated i)) (hy : ∀ k, y ≠ some (.bound k)) :
    Agree (changedAt b i y) (changedAt g i z) (changedAt t k x) := by
  have hb := (h.named i k).2 hk
  have other : ∀ j, j ≠ k → t j ≠ some (.seated i) := fun j hj e => by
    have := (h.named i j).2 e
    rw [hb] at this
    cases this
    exact hj rfl
  have station : ∀ j, j ≠ i → b j ≠ some (.bound k) := fun j hj e => by
    have := (h.named j k).1 e
    rw [hk] at this
    cases this
    exact hj rfl
  constructor
  · intro j l
    by_cases hj : j = i
    · subst hj
      simp only [changedAt_self]
      refine ⟨fun e => absurd e (hy l), fun e => ?_⟩
      by_cases hl : l = k
      · subst hl; rw [changedAt_self] at e; exact absurd e (hx j)
      · rw [changedAt_of_ne hl] at e; exact absurd e (other l hl)
    · rw [changedAt_of_ne hj]
      by_cases hl : l = k
      · subst hl
        rw [changedAt_self]
        exact ⟨fun e => absurd e (station j hj), fun e => absurd e (hx j)⟩
      · rw [changedAt_of_ne hl]; exact h.named j l
  · intro j l
    by_cases hj : j = i
    · subst hj
      simp only [changedAt_self]
      exact fun e => absurd e (hy l)
    · simpa only [changedAt_of_ne hj] using h.grace j l

/-- Ticket and station come to name each other. -/
theorem seat (h : Agree b g t) (k : Token) (i : StationIx) (hb : ∀ k, b i ≠ some (.bound k))
    (ht : ∀ i, t k ≠ some (.seated i)) : Agree (changedAt b i (some (.bound k)))
      (changedAt g i (some none)) (changedAt t k (some (.seated i))) := by
  constructor
  · intro j l
    by_cases hj : j = i <;> by_cases hl : l = k
    · subst hj hl; simp
    · subst hj
      simp only [changedAt_self, changedAt_of_ne hl, ← h.named]
      exact ⟨fun e => absurd (by cases e; rfl) hl, fun e => absurd e (hb l)⟩
    · subst hl
      simp only [changedAt_self, changedAt_of_ne hj, h.named]
      exact ⟨fun e => absurd e (ht j), fun e => absurd (by cases e; rfl) hj⟩
    · simpa only [changedAt_of_ne hj, changedAt_of_ne hl] using h.named j l
  · intro j l
    by_cases hj : j = i
    · subst hj; simp
    · simpa only [changedAt_of_ne hj] using h.grace j l

end Agree

/-! ### The updates of the operations -/

/-- The views that the ticket law rests on. -/
abbrev seatViews : List View := [.station .binding, .station .grace, .ticket .state]

section
variable {F : List View} {s u : State}

theorem State.Touches.bindingAt (h : s.Touches F u) (hF : View.station .binding ∉ F) :
    u.bindingAt = s.bindingAt := h.same _ hF
theorem State.Touches.graceAt (h : s.Touches F u) (hF : View.station .grace ∉ F) :
    u.graceAt = s.graceAt := h.same _ hF
theorem State.Touches.stateAt (h : s.Touches F u) (hF : View.ticket .state ∉ F) :
    u.stateAt = s.stateAt := h.same _ hF

/-- An operation that leaves bindings, grace starts and ticket states keeps the ticket law. -/
theorem ticketLaw_of_touches (h : s.Touches F u) (ha : View.apart seatViews F = true)
    (hs : s.TicketLaw) : u.TicketLaw := by
  rw [View.apart_iff] at ha
  rw [ticketLaw_iff] at hs ⊢
  rw [h.bindingAt (ha _ (by simp)), h.graceAt (ha _ (by simp)), h.stateAt (ha _ (by simp))]
  exact ⟨h.canon .stations hs.1, h.canon .tickets hs.2.1, hs.2.2⟩

end

theorem State.bindingAt_putStation (s : State) (i : StationIx) (r : Station) :
    (s.putStation i r).bindingAt = changedAt s.bindingAt i (some r.binding) := by
  funext j
  simp only [State.bindingAt, State.station?_putStation, changedAt]
  split <;> rfl

theorem State.graceAt_putStation (s : State) (i : StationIx) (r : Station) :
    (s.putStation i r).graceAt = changedAt s.graceAt i (some r.grace) := by
  funext j
  simp only [State.graceAt, State.station?_putStation, changedAt]
  split <;> rfl

theorem State.stateAt_putTicket (s : State) (k : Token) (t : Ticket) :
    (s.putTicket k t).stateAt = changedAt s.stateAt k (some t.state) := by
  funext j
  simp only [State.stateAt, State.ticket?_putTicket, changedAt]
  split <;> rfl

/-- A station that is not bound may be written anew as another that is not bound. -/
theorem State.TicketLaw.putStation {s : State} (h : s.TicketLaw) (i : StationIx) (r : Station)
    (hb : ∀ k, s.bindingAt i ≠ some (.bound k)) (hr : ∀ k, r.binding ≠ .bound k) :
    (s.putStation i r).TicketLaw := by
  rw [ticketLaw_iff] at h ⊢
  rw [s.bindingAt_putStation, s.graceAt_putStation]
  exact ⟨Table.wf_put _ _ _ h.1, h.2.1, h.2.2.setStation i _ _ hb fun k e => hr k (Option.some.inj e)⟩

/-- A record may be written anew with the binding and the grace start it has. -/
theorem State.TicketLaw.rewrite {s : State} (h : s.TicketLaw) (i : StationIx) (r r' : Station)
    (hr : s.station? i = some r) (hb : r'.binding = r.binding) (hg : r'.grace = r.grace) :
    (s.putStation i r').TicketLaw := by
  rw [ticketLaw_iff] at h ⊢
  rw [s.bindingAt_putStation, s.graceAt_putStation, hb, hg,
    changedAt_eq_self (show some r.binding = s.bindingAt i by simp [State.bindingAt, hr]),
    changedAt_eq_self (show some r.grace = s.graceAt i by simp [State.graceAt, hr])]
  exact ⟨Table.wf_put _ _ _ h.1, h.2⟩

/-- A ticket that is not seated may be written anew as another that is not seated. -/
theorem State.TicketLaw.putTicket {s : State} (h : s.TicketLaw) (k : Token) (t : Ticket)
    (hb : ∀ i, s.stateAt k ≠ some (.seated i)) (ht : ∀ i, t.state ≠ .seated i) :
    (s.putTicket k t).TicketLaw := by
  rw [ticketLaw_iff] at h ⊢
  rw [s.stateAt_putTicket]
  exact ⟨h.1, Table.wf_put _ _ _ h.2.1, h.2.2.setTicket k _ hb fun i e => ht i (Option.some.inj e)⟩

/-- What unbinding does to the bindings: its station is UNBOUND. -/
theorem State.bindingAt_unbindStation (s : State) (i : StationIx) : (s.unbindStation i).bindingAt =
    changedAt s.bindingAt i ((s.bindingAt i).map fun _ => .unbound) := by
  unfold State.unbindStation
  split
  · rename_i hr
    exact (changedAt_eq_self (by simp [State.bindingAt, hr])).symm
  · rename_i r hr
    rw [(State.retier_touches (G := tierViews) _ i).bindingAt (View.not_mem_of (by decide +kernel)),
      State.bindingAt_putStation]
    congr 1
    simp only [State.bindingAt, hr, Option.map_some, Station.unbind]
    split <;> rfl

/-- Unbinding touches the grace start of its station alone. -/
theorem State.graceAt_unbindStation (s : State) (i : StationIx) : (s.unbindStation i).graceAt =
    changedAt s.graceAt i ((s.unbindStation i).graceAt i) := by
  funext j
  rw [changedAt]
  split
  · subst_vars; rfl
  · rename_i hj
    unfold State.unbindStation
    split
    · rfl
    · rw [(State.retier_touches (G := tierViews) _ i).graceAt (View.not_mem_of (by decide +kernel)),
        State.graceAt_putStation, changedAt_of_ne hj]

theorem State.stateAt_unbindStation (s : State) (i : StationIx) :
    (s.unbindStation i).stateAt = s.stateAt :=
  (State.unbindStation_touches (G := unbindViews) s i).stateAt (View.not_mem_of (by decide +kernel))

/-- An unbound station is not bound. -/
theorem Option.map_unbound_ne (o : Option Binding) (k : Token) :
    o.map (fun _ => Binding.unbound) ≠ some (.bound k) := by cases o <;> simp

/-- A seated ticket written anew as one that is not, and its holder unbound. -/
theorem State.TicketLaw.unseat {s : State} (h : s.TicketLaw) (k : Token) (t : Ticket) (i : StationIx)
    (hk : s.stateAt k = some (.seated i)) (ht : ∀ i, t.state ≠ .seated i) :
    ((s.putTicket k t).unbindStation i).TicketLaw := by
  have touched := State.unbindStation_touches (G := unbindViews) (s.putTicket k t) i
  rw [ticketLaw_iff] at h ⊢
  refine ⟨touched.canon .stations h.1, touched.canon .tickets (Table.wf_put _ _ _ h.2.1), ?_⟩
  rw [State.bindingAt_unbindStation, State.graceAt_unbindStation, State.stateAt_unbindStation,
    State.stateAt_putTicket]
  exact h.2.2.unseat hk _ _ _ (fun i e => ht i (Option.some.inj e)) (Option.map_unbound_ne _)

/-! ### Presentations -/

/-- What a binding writes, with the ticket law of bindings that are free to name each other. -/
theorem agree_bindTicket {s : State} {x : CellId} {i : StationIx} {r : Station} {k : Token} {t : Ticket}
    (h : Agree (changedAt s.bindingAt i (some (.bound k))) (changedAt s.graceAt i (some none))
      (changedAt s.stateAt k (some (.seated i)))) :
    Agree (s.bindTicket x i r k t).bindingAt (s.bindTicket x i r k t).graceAt
      (s.bindTicket x i r k t).stateAt := by
  have rest : (s.join i r k t).Touches tierViews (s.bindTicket x i r k t) :=
    .trans (State.recomputeTier_touches ..) (.trans (State.ticketResult_touches ..)
      (State.tellTier_touches ..))
  rw [rest.bindingAt (View.not_mem_of (by decide +kernel)),
    rest.graceAt (View.not_mem_of (by decide +kernel)), rest.stateAt (View.not_mem_of (by decide +kernel))]
  unfold State.join
  rw [State.bindingAt_putStation, State.graceAt_putStation]
  exact (congrArg (Agree _ _) (s.stateAt_putTicket k _)).mpr h

/-- A presentation keeps the ticket law: it binds a free ticket to a free station, or takes the ticket from
its stale holder first. -/
theorem State.TicketLaw.present {s : State} (h : s.TicketLaw) (x : CellId) (i : StationIx) (k : Token) :
    (s.present x i k).TicketLaw := by
  have message : ∀ {u : State}, s.Touches (.portT :: messageViews) u → u.TicketLaw := fun t =>
    ticketLaw_of_touches t (by decide +kernel) h
  have told : ∀ r, s.Touches (.portT :: messageViews) (s.ticketResult x i r) := fun r =>
    State.ticketResult_touches ..
  have notify : ∀ {u : State} n, u.TicketLaw → (u.notify .T n).TicketLaw := fun n =>
    ticketLaw_of_touches (State.notify_touches (G := [.portT]) _ .T n (View.mem_of rfl)) (by decide +kernel)
  have free : ∀ r t, s.station? i = some r → s.ticket? k = some t → t.state ≠ .seated i →
      r.boundElsewhere k = false → ∀ j, s.bindingAt i ≠ some (.bound j) := by
    intro r t hr ht hne hb j e
    have hbind : r.binding = .bound j := by simpa [State.bindingAt, hr] using e
    have hj : j = k := by simpa [Station.boundElsewhere, hbind] using hb
    subst hj
    have := (((ticketLaw_iff s).1 h).2.2.named i j).1 e
    simp [State.stateAt, ht] at this
    exact hne this
  have touched := State.present_touches (G := presentViews) s x i k
  have agree := ((ticketLaw_iff s).1 h).2.2
  have law : ∀ {u : State}, s.Touches presentViews u → Agree u.bindingAt u.graceAt u.stateAt →
      u.TicketLaw := fun t a =>
    (ticketLaw_iff _).2 ⟨t.canon .stations h.stations, t.canon .tickets h.tickets, a⟩
  unfold State.present
  split
  · exact h
  · exact message (told _)
  · rename_i r t hr ht
    have hk : s.stateAt k = some t.state := by simp [State.stateAt, ht]
    split
    · exact notify _ (message (told _))
    · exact notify _ (message (told _))
    · exact notify _ (message (told _))
    · rename_i hstate
      split
      · exact message (told _)
      · rename_i hb
        refine notify _ (law (State.bindTicket_touches s x i r r k t ht hr fun _ _ _ _ => rfl) ?_)
        refine agree_bindTicket (agree.seat k i ?_ ?_)
        · exact free r t hr ht (by simp [hstate]) (by simpa using hb)
        · simp [hk, hstate]
    · rename_i holder hstate
      split
      · exact message (told _)
      · rename_i hb
        split
        · exact message (told _)
        · rename_i hne
          split
          · have unbind := State.unbindStation_touches (G := unbindViews) s holder
            obtain ⟨q, hq, same⟩ := State.station?_of_touches_unbind unbind i r hr
            have ht' := (unbind.ticket? k).trans ht
            refine notify _ (law ((unbind.mono (View.subset_of (by decide +kernel))).trans
              (State.bindTicket_touches _ x i r q k t ht' hq same)) ?_)
            refine agree_bindTicket ?_
            rw [State.bindingAt_unbindStation, State.graceAt_unbindStation, State.stateAt_unbindStation]
            have parted := agree.unseat (hk.trans (by rw [hstate])) (some .admitted)
              ((s.bindingAt holder).map fun _ => .unbound) ((s.unbindStation holder).graceAt holder)
              (by simp) (Option.map_unbound_ne _)
            have bound := parted.seat k i (fun j => ?_) (fun j => by simp)
            · rwa [changedAt_again] at bound
            · rw [changedAt_of_ne (Ne.symm hne)]
              exact free r t hr ht (by simp [hstate, hne]) (by simpa using hb) j
          · exact notify _ (message (told _))

/-! ### Removal, settling and expiry -/

/-- A station that settles keeps the ticket law: a bound one keeps its binding, another is not bound
afterwards either. -/
theorem State.TicketLaw.settled {s : State} (h : s.TicketLaw) (i : StationIx) (r r' : Station)
    (hr : s.station? i = some r)
    (hb : (∀ k, r.binding = .bound k → r'.binding = .bound k ∧ r'.grace = r.grace)
      ∧ ((∀ k, r.binding ≠ .bound k) → ∀ k, r'.binding ≠ .bound k)) : (s.putStation i r').TicketLaw := by
  by_cases hk : ∃ k, r.binding = .bound k
  · obtain ⟨k, hk⟩ := hk
    obtain ⟨h1, h2⟩ := hb.1 k hk
    exact h.rewrite i r r' hr (h1.trans hk.symm) h2
  · have free : ∀ k, r.binding ≠ .bound k := fun k e => hk ⟨k, e⟩
    refine h.putStation i r' (fun k e => free k ?_) (hb.2 free)
    simpa [State.bindingAt, hr] using e

theorem Station.settle_binding (r : Station) (now : Time) (a b : CellKind) :
    (∀ k, r.binding = .bound k → (r.settle now a b).binding = .bound k ∧ (r.settle now a b).grace = r.grace)
      ∧ ((∀ k, r.binding ≠ .bound k) → ∀ k, (r.settle now a b).binding ≠ .bound k) := by
  refine ⟨fun k hk => by simp [Station.settle, hk], fun h k => ?_⟩
  unfold Station.settle
  split
  · simp_all
  · simp_all
  · simp_all
  · simp
  · simp_all
  · exact h k

theorem State.TicketLaw.resettle {s : State} (h : s.TicketLaw) (a b : CellKind) (i : StationIx) :
    (State.resettle a b s i).TicketLaw := by
  unfold State.resettle
  split
  · exact h
  · rename_i r hr
    exact ticketLaw_of_touches (State.retier_touches (G := tierViews) _ i) (by decide +kernel)
      (h.settled i r _ hr (r.settle_binding ..))

/-- The binding of a removed index is no binding. -/
theorem State.bindingAt_del (s : State) (i : StationIx) (h : s.stations.wf = true) :
    State.bindingAt { s with stations := s.stations.del i } = changedAt s.bindingAt i none := by
  funext j
  simp only [State.bindingAt, State.station?, Table.get?_del _ _ _ h, changedAt]
  split <;> rfl

theorem State.graceAt_del (s : State) (i : StationIx) (h : s.stations.wf = true) :
    State.graceAt { s with stations := s.stations.del i } = changedAt s.graceAt i none := by
  funext j
  simp only [State.graceAt, State.station?, Table.get?_del _ _ _ h, changedAt]
  split <;> rfl

/-- The part just before the index of a removed station is given up, its ticket still to be released. -/
def State.beforeRelease (s : State) (i : StationIx) (r : Station) : State :=
  (((s.leaveCounts r.cell r.tier r.subs).putStation i { r with subs := [] }).recomputeEach r.subs).leaveCells r

theorem State.remove_eq (s : State) (i : StationIx) (r : Station) (c : Cause) (hr : s.station? i = some r) :
    s.remove i c = { (s.beforeRelease i r).releaseTicket i r.binding c with
      stations := ((s.beforeRelease i r).releaseTicket i r.binding c).stations.del i } := by
  unfold State.remove
  rw [hr]
  rfl

theorem State.beforeRelease_touches {G : List View} (s : State) (i : StationIx) (r : Station)
    (hr : s.station? i = some r)
    (hG : [.stations, .station .subs, .fan, .demand, .portV] ++ countViews ⊆ G := by
      exact View.subset_of (by decide +kernel)) : s.Touches G (s.beforeRelease i r) := by
  have leave := State.leaveCounts_touches (G := [.fan]) s r.cell r.tier r.subs
  exact .mono (.trans (leave.mono (View.subset_of rfl)) (.trans
    (State.putSubs_touches _ i r [] ((leave.station? i).trans hr))
    (.trans (State.recomputeEach_touches ..) (State.leaveCells_touches ..)))) hG

/-- A removal keeps the ticket law: the ticket of a bound station returns to ADMITTED. -/
theorem State.TicketLaw.remove {s : State} (h : s.TicketLaw) (i : StationIx) (c : Cause) :
    (s.remove i c).TicketLaw := by
  cases hr : s.station? i with
  | none => unfold State.remove; rw [hr]; exact h
  | some r =>
    have touched := State.remove_touches (G := removeViews) s i c
    have before := State.beforeRelease_touches (G := _) s i r hr (fun _ => id)
    have same := ticketLaw_of_touches before (by decide +kernel) h
    have hbi : (s.beforeRelease i r).bindingAt i = some r.binding := by
      rw [before.bindingAt (View.not_mem_of (by decide +kernel))]; simp [State.bindingAt, hr]
    refine (ticketLaw_iff _).2 ⟨touched.canon .stations h.stations, touched.canon .tickets h.tickets, ?_⟩
    rw [s.remove_eq i r c hr]
    generalize s.beforeRelease i r = v at same hbi
    have agree := ((ticketLaw_iff v).1 same).2.2
    have released := State.releaseTicket_touches (G := [.tickets, .ticket .state, .portT]) v i r.binding c
    rw [State.bindingAt_del _ _ (released.canon .stations same.stations),
      State.graceAt_del _ _ (released.canon .stations same.stations),
      released.bindingAt (View.not_mem_of (by decide +kernel)),
      released.graceAt (View.not_mem_of (by decide +kernel))]
    change Agree _ _ (v.releaseTicket i r.binding c).stateAt
    unfold State.releaseTicket
    split
    · rename_i k hk
      have hseat := (agree.named i k).1 (by rw [hbi, hk])
      obtain ⟨t, ht, hstate⟩ := Option.map_eq_some_iff.1 hseat
      simp only [ht]
      rw [(State.notify_touches (G := [.portT]) _ .T _ (View.mem_of rfl)).stateAt
        (View.not_mem_of (by decide +kernel)), State.stateAt_putTicket]
      exact agree.unseat hseat _ _ _ (by simp) (by simp)
    · rename_i hk
      exact agree.setStation i _ _ (by simp [hbi, hk]) (by simp)
    · rename_i hk
      exact agree.setStation i _ _ (by simp [hbi, hk]) (by simp)

/-- The completion of a roam keeps the ticket law. -/
theorem State.TicketLaw.completeRoam {s : State} (h : s.TicketLaw) (i : StationIx) (r : Station) (m : Roam)
    (hr : s.station? i = some r) : (s.completeRoam i r m).TicketLaw := by
  have before : s.Touches (.fan :: countViews) (((s.leaveCounts r.cell r.tier r.subs).countCell r.cell
      Cell.lose).countCell m.pending Cell.arrive) :=
    .trans (State.leaveCounts_touches ..) (.trans (State.countCell_touches _ _ countsOnly_lose)
      (State.countCell_touches _ _ countsOnly_arrive))
  have moved := (ticketLaw_of_touches before (by decide +kernel) h).settled i r (s.arrived r m)
    ((before.station? i).trans hr)
    (Station.settle_binding { r with cell := m.pending, roam := none } s.now _ _)
  have rest : State.Touches ([.fan, .demand, .portV] ++ messageViews) _ (s.completeRoam i r m) :=
    .trans (State.joinCounts_touches _ m.pending (s.arrived r m).tier r.subs)
      (.trans (State.tellTier_touches ..) (State.recomputeEach_touches ..))
  exact ticketLaw_of_touches rest (by decide +kernel) moved

/-! ### Reports -/

theorem State.TicketLaw.presentCarried {s : State} (h : s.TicketLaw) (x : CellId) (i : StationIx)
    (o : Option Token) : (s.presentCarried x i o).TicketLaw := by
  unfold State.presentCarried
  split
  · exact h.present ..
  · exact h

/-- Messages, counts and a carried token behind a station's record keep the ticket law. -/
theorem State.TicketLaw.told {s : State} (h : s.TicketLaw) (c : CellId) (b : CtlBody) :
    (s.tell c b).TicketLaw :=
  ticketLaw_of_touches (State.tell_touches (G := messageViews) s c b) (by decide +kernel) h

theorem State.TicketLaw.counted {s : State} (h : s.TicketLaw) (c : CellId) {f : Cell → Cell}
    (hf : CountsOnly f) : (s.countCell c f).TicketLaw :=
  ticketLaw_of_touches (State.countCell_touches (G := countViews) s c hf) (by decide +kernel) h

/-- A phone created at a free index is not bound until its token is presented. -/
theorem State.TicketLaw.create {s : State} (h : s.TicketLaw) (x : CellId) (a : Address) (o : Option Token) :
    (s.create x a o).TicketLaw := by
  have free := s.stations.get?_firstFree h.stations
  have made := h.putStation (firstFree 0 s.stations.keys) (newStation s x a)
    (fun k => by simp [State.bindingAt, State.station?, free]) (fun k => nofun)
  exact ((made.counted x countsOnly_gain).told x _).presentCarried x _ o

theorem State.TicketLaw.assocUnknown {s : State} (h : s.TicketLaw) (x : CellId) (a : Address)
    (o : Option Token) : (s.assocUnknown x a o).TicketLaw := by
  unfold State.assocUnknown
  split
  · exact h.told ..
  · split
    · exact h.told ..
    · exact h.told ..
    · exact h.create ..

theorem State.TicketLaw.roamRequest {s : State} (h : s.TicketLaw) (x : CellId) (i : StationIx) (r : Station)
    (o : Option Token) (hr : s.station? i = some r) : (s.roamRequest x i r o).TicketLaw := by
  unfold State.roamRequest
  split
  · exact h.told ..
  · exact (h.rewrite i r { r with steerHold := some (s.now + BitVec.ofNat 32 (s.timers.steerHold * unitsPerSecond)) }
      hr rfl rfl).told ..
  · exact h.told ..
  · exact ((((h.rewrite i r { r with roam := some ⟨x, s.now⟩ } hr rfl rfl).counted x
      countsOnly_expect).told x _).told r.cell _).presentCarried x i o

theorem State.TicketLaw.acceptAgain {s : State} (h : s.TicketLaw) (x : CellId) (i : StationIx) (l : Level)
    (o : Option Token) : (s.acceptAgain x i l o).TicketLaw := (h.told ..).presentCarried ..

theorem State.TicketLaw.assoc {s : State} (h : s.TicketLaw) (x : CellId) (a : Address) (o : Option Token) :
    (s.assoc x a o).TicketLaw := by
  unfold State.assoc
  split
  · exact h.assocUnknown ..
  · rename_i i r hr
    have live := s.station?_of_stationAt? h.stations a i r hr
    split
    · split
      · exact h.acceptAgain ..
      · exact h.roamRequest x i r o live
    · split
      · exact h.acceptAgain ..
      · split
        · exact h.acceptAgain ..
        · exact h.told ..

theorem State.TicketLaw.refreshAddress {s : State} (h : s.TicketLaw) (a : Address) :
    (s.refreshAddress a).TicketLaw := by
  unfold State.refreshAddress
  split
  · rename_i i r hr
    exact h.rewrite i r _ (s.station?_of_stationAt? h.stations a i r hr) rfl rfl
  · exact h

theorem State.TicketLaw.depart {s : State} (h : s.TicketLaw) (x : CellId) (i : StationIx) (r : Station)
    (hr : s.station? i = some r) : (s.depart x i r).TicketLaw := by
  unfold State.depart
  split
  · exact h.remove ..
  · split
    · exact h.completeRoam i r _ hr
    · exact (h.remove ..).told ..

/-- A station named by a report is live. -/
theorem State.station?_of_named (s : State) (x : CellId) (i : StationIx) (r : Station)
    (h : s.named x i = some r) : s.station? i = some r ∧ r.standsAt x = true := by
  unfold State.named at h
  split at h
  · split at h
    · cases h; exact ⟨by assumption, by assumption⟩
    · cases h
  · cases h

/-- What a report's rule keeps for a live record, the report keeps. -/
theorem State.TicketLaw.onStation {s : State} (h : s.TicketLaw) (x : CellId) (i : StationIx)
    (f : State → Station → State)
    (hf : ∀ (u : State) r, u.TicketLaw → u.station? i = some r → (f u r).TicketLaw) :
    (s.onStation x i f).TicketLaw := by
  unfold State.onStation
  split
  · rename_i r hr
    exact hf _ _ (h.rewrite i r (r.refresh s.now) (s.station?_of_named x i r hr).1 rfl rfl) (by simp)
  · exact h

theorem State.TicketLaw.handReport {s : State} (h : s.TicketLaw) (x : CellId) (b : ReportBody) :
    (s.handReport x b).TicketLaw := by
  unfold State.handReport
  split
  · exact (h.refreshAddress _).assoc ..
  · exact h.onStation x _ _ fun u r hu hr => hu.depart x _ r hr
  · exact h.onStation x _ _ fun u r hu hr => hu.present ..
  · exact h.onStation x _ _ fun u r hu hr =>
      ticketLaw_of_touches (State.subscribe_touches u x _ r _ hr) (by decide +kernel) hu
  · exact h.onStation x _ _ fun u r hu hr =>
      ticketLaw_of_touches (State.unsubscribe_touches u x _ r _ hr) (by decide +kernel) hu
  · exact h

/-! ### The commands -/

theorem State.TicketLaw.loadEntry {s : State} (h : s.TicketLaw) (b : List Byte) (n : Nat) :
    (s.loadEntry b n).1.TicketLaw := by
  rw [State.loadEntry]
  split
  · exact h
  · split
    · exact h
    · split
      · exact h
      · rename_i hk
        split
        · exact h
        · refine h.putTicket _ _ (fun i => ?_) (fun i => nofun)
          simp [State.stateAt, Option.not_isSome_iff_eq_none.1 hk]

theorem State.TicketLaw.loadEntries (b : List Byte) (left : Nat) :
    ∀ {s : State} (n : Nat), s.TicketLaw → (s.loadEntries b n left).1.TicketLaw := by
  induction left with
  | zero => exact fun _ h => h
  | succ left ih => exact fun n h => ih (n + 1) (h.loadEntry b _)

/-- A command that names a ticket keeps what its rule for that ticket keeps. -/
theorem onTicket_keeps {P : State → Prop} (b : List Byte) (s : State) (f : Token → Ticket → Answer)
    (hs : P s) (h : ∀ k t, s.ticket? k = some t → P (f k t).state) : P (onTicket b s f).state := by
  unfold onTicket
  split
  · exact hs
  · exact h _ _ (by assumption)

/-- After every BOUND station has been unbound none is bound. -/
theorem State.bindingAt_each_unbind (hs : List StationIx) (s : State) (i : StationIx) (k : Token)
    (h : (s.each hs State.unbindStation).bindingAt i = some (.bound k)) :
    i ∉ hs ∧ s.bindingAt i = some (.bound k) := by
  induction hs generalizing s with
  | nil => exact ⟨List.not_mem_nil, h⟩
  | cons j hs ih =>
    obtain ⟨hi, hb⟩ := ih (s.unbindStation j) h
    rw [State.bindingAt_unbindStation, changedAt] at hb
    split at hb
    · exact absurd hb (Option.map_unbound_ne _ k)
    · exact ⟨List.not_mem_cons_of_ne_of_not_mem (by assumption) hi, hb⟩

/-- The BOUND stations are those with a bound record. -/
theorem State.mem_boundStations (s : State) (i : StationIx) (k : Token)
    (h : s.bindingAt i = some (.bound k)) : i ∈ s.boundStations := by
  obtain ⟨r, hr, hk⟩ := Option.map_eq_some_iff.1 h
  have hm := mem_of_assocGet _ _ _ hr
  refine List.mem_map.2 ⟨(i, r), List.mem_filter.2 ⟨hm, ?_⟩, rfl⟩
  simp [Station.isBound, hk]

theorem ticketLaw_ticketClear {s : State} (h : s.TicketLaw) (b : List Byte) :
    (ticketClearRule b s).state.TicketLaw := by
  have touched := ticketClearRule_touches b s
  refine (ticketLaw_iff _).2 ⟨touched.canon .stations h.stations, touched.canon .tickets h.tickets, ?_⟩
  have free : ∀ i k, (ticketClearRule b s).state.bindingAt i ≠ some (.bound k) := fun i k e =>
    have ⟨hn, hb⟩ := State.bindingAt_each_unbind s.boundStations s i k e
    hn (s.mem_boundStations i k hb)
  exact ⟨fun i k => ⟨fun e => absurd e (free i k), nofun⟩, fun i k e => absurd e (free i k)⟩

/-- The state of a seated or unseated ticket, read by its record. -/
theorem State.stateAt_eq {s : State} {k : Token} {t : Ticket} {x : TicketState}
    (ht : s.ticket? k = some t) (hx : t.state = x) : s.stateAt k = some x := by
  simp [State.stateAt, ht, hx]

theorem ticketLaw_rule (c : Command) (b : List Byte) (s : State)
    (hc : View.apart seatViews (Command.footprint c) = false) (h : s.TicketLaw) :
    (c.rule b s).state.TicketLaw := by
  cases c with
  | cellSet =>
    change (cellSetRule b s).state.TicketLaw
    unfold cellSetRule
    dsimp only
    split
    · exact h
    · split
      · exact ticketLaw_of_touches (State.setCells_touches (G := cellViews) _ _ (Table.wf_put _ _ _))
          (by decide +kernel) h
      · rename_i old hold _
        have first : s.Touches cellViews
            { s with cells := s.cells.put (byteAt b 0) (old.configure (byteAt b 0) b) } :=
          State.setCells_touches _ _ (Table.wf_put _ _ _)
        have h' := ticketLaw_of_touches first (by decide +kernel) h
        unfold State.rewriteCell
        dsimp only
        split
        · exact h'
        · exact State.each_keeps State.TicketLaw _ _ _ (fun s i _ hs => hs.resettle ..) h'
      · exact h
      · split
        · exact h
        · exact ticketLaw_of_touches (State.removeCell_touches (G := removeCellViews) s _)
            (by decide +kernel) h
  | stationDetach =>
    change (stationDetachRule b s).state.TicketLaw
    unfold stationDetachRule
    dsimp only
    split
    · exact h
    · split
      · exact ticketLaw_of_touches (State.tellDetached_touches (G := messageViews) _ _ _)
          (by decide +kernel) (h.remove ..)
      · exact h
  | stationClear =>
    have removed := State.each_keeps State.TicketLaw (fun s i => s.remove i .cleared) s.stations.keys s
      (fun s i _ hs => hs.remove ..) h
    exact State.each_keeps State.TicketLaw _ _ _ (fun s t _ hs => ticketLaw_of_touches
      (State.tellAll_touches (G := messageViews) s t _) (by decide +kernel) hs) removed
  | ticketLoad =>
    change (ticketLoadRule b s).state.TicketLaw
    unfold ticketLoadRule
    split
    · exact h
    · exact State.TicketLaw.loadEntries b _ 0 h
  | gateAdmit =>
    refine onTicket_keeps b s _ h fun k t ht => ?_
    split
    · exact h.putTicket k _ (by simp [State.stateAt_eq ht (by assumption)]) (by simp [Ticket.enter])
    · exact h.putTicket k _ (by simp [State.stateAt_eq ht (by assumption)]) (by simp [Ticket.enter])
    · exact h
    · split
      · exact h.unseat k _ _ (State.stateAt_eq ht (by assumption)) (by simp [Ticket.enter])
      · exact h
    · exact h
  | gateExit =>
    refine onTicket_keeps b s _ h fun k t ht => ?_
    split
    · exact h.putTicket k _ (by simp [State.stateAt_eq ht (by assumption)]) (by simp)
    · exact h.unseat k _ _ (State.stateAt_eq ht (by assumption)) (by simp)
    all_goals exact h
  | ticketVoid =>
    refine onTicket_keeps b s _ h fun k t ht => ?_
    split
    · exact h.unseat k _ _ (State.stateAt_eq ht (by assumption)) (by simp)
    · exact h.putTicket k _ (by simp [State.stateAt_eq ht (by assumption)]) (by simp)
    · exact h.putTicket k _ (by simp [State.stateAt_eq ht (by assumption)]) (by simp)
    · exact h.putTicket k _ (by simp [State.stateAt_eq ht (by assumption)]) (by simp)
    · exact h
  | ticketClear => exact ticketLaw_ticketClear h b
  | _ => exact absurd hc (by decide +kernel)

/-! ### The events -/

/-- A report is taken off its queue before it is acted on. -/
theorem State.taken_touches {G : List View} (s : State) (t : TrunkId)
    (hG : [.pointer, .trunks, .trunk .intake] ⊆ G := by exact View.subset_of (by decide +kernel)) :
    s.Touches G { s.setTrunk t { s.trunk t with intake := (s.trunk t).intake.tail } with
      pointer := nextTrunk t } := by
  refine .mono (.trans (State.setTrunk_touches s t { s.trunk t with intake := (s.trunk t).intake.tail }
    (fun x hx => by cases x <;> simp at hx <;> rfl) (View.mem_of rfl))
    (⟨fun v hv => ?_, fun c => by cases c <;> exact id⟩ : State.Touches [.pointer, .trunks, .trunk .intake] _ _)) hG
  cases v with
  | pointer => simp at hv
  | _ => rfl

theorem ticketLaw_event (i : Instr) (s u : State) (hc : portCommand i = none) (hd : i ≠ .deviceReset)
    (hl : i ≠ .resetLineAsserted) (ha : View.apart seatViews (rowFootprint i) = false)
    (h : s.TicketLaw) (hx : exec i s = .next u) : u.TicketLaw := by
  cases i with
  | deviceReset => exact absurd rfl hd
  | resetLineAsserted => exact absurd rfl hl
  | reportTake =>
    change execReportTake s = _ at hx
    refine live_keeps hx h ?_
    split
    · exact h
    · rename_i t _
      have h' := ticketLaw_of_touches (s.taken_touches (G := _) t (fun _ => id)) (by decide +kernel) h
      dsimp only
      split
      · exact h'
      · unfold State.takeReport
        split
        · exact h'.handReport ..
        · exact h'
  | roamTimeout i =>
    change execRoamTimeout i s = _ at hx
    refine live_keeps hx h ?_
    split
    · exact h
    · rename_i r hr
      split
      · exact h
      · split
        · exact ticketLaw_of_touches (State.notify_touches (G := [.portW]) _ .W _ (View.mem_of rfl))
            (by decide +kernel) ((h.completeRoam i r _ hr).told ..)
        · exact h
  | ageExpiry i =>
    change execAgeExpiry i s = _ at hx
    refine live_keeps hx h ?_
    split
    · exact h
    · split
      · exact h
      · split
        · exact (h.remove ..).told ..
        · exact h
  | seatGraceExpiry i =>
    change execSeatGraceExpiry i s = _ at hx
    refine live_keeps hx h ?_
    split
    · exact h
    · rename_i r hr
      split
      · exact h
      · rename_i stamp hstamp
        split
        · have fenced := h.putStation i { r with binding := .fenced, grace := none } (fun k e => ?_)
            (fun k => nofun)
          · exact ticketLaw_of_touches (State.fenceSteer_touches (G := messageViews) _ _) (by decide +kernel)
              (ticketLaw_of_touches (State.retier_touches (G := tierViews) _ i) (by decide +kernel) fenced)
          · have := (h.bound i r k hr (by simpa [State.bindingAt, hr] using e)).1
            simp [hstamp] at this
        · exact h
  | _ => first | exact absurd hc (Option.some_ne_none _) | exact absurd (ha.symm.trans rfl) Bool.false_ne_true

/-- Settles O57: the rows that move bindings, grace starts or ticket states keep the two naming each
other, and no other row touches them. -/
theorem ticketLawKept : Obligations.TicketLawKept :=
  fun s u => law_step seatViews ticketLaw_of_touches (by decide +kernel)
    (hreset := fun _ _ => (ticketLaw_iff _).2 ⟨rfl, rfl, fun _ _ => ⟨nofun, nofun⟩, fun _ _ => nofun⟩)
    (hrule := fun c b s => ticketLaw_rule c b s) (hevent := ticketLaw_event) s u

end Sys2Proof.Machine
end


section
/-! PROOF. What waits in the command intakes is looked at by no operation of the part but the taking of a
command: an operation on a state with other intakes does what it does on the state, and leaves those intakes.
So a port command's own rule may be read on the state that the command found (R7). -/
namespace Sys2Proof.Machine

/-- What waits in the three command intakes. -/
structure Waits where
  w : List PortMessage
  t : List PortMessage
  v : List PortMessage

def Ports.await (q : Ports) (a : Waits) : Ports :=
  ⟨{ q.w with waiting := a.w }, { q.t with waiting := a.t }, { q.v with waiting := a.v }⟩

/-- The part with other commands waiting. -/
def State.await (s : State) (a : Waits) : State := { s with ports := s.ports.await a }

/-- The answer of a rule with other commands waiting. -/
def Answer.await (r : Answer) (a : Waits) : Answer := ⟨r.state.await a, r.result, r.body⟩

namespace State
variable (s : State) (a : Waits)

/-! ### Reads -/

@[simp] theorem await_now : (s.await a).now = s.now := rfl
@[simp] theorem await_held : (s.await a).held = s.held := rfl
@[simp] theorem await_timers : (s.await a).timers = s.timers := rfl
@[simp] theorem await_trunks : (s.await a).trunks = s.trunks := rfl
@[simp] theorem await_pointer : (s.await a).pointer = s.pointer := rfl
@[simp] theorem await_cells : (s.await a).cells = s.cells := rfl
@[simp] theorem await_load : (s.await a).load = s.load := rfl
@[simp] theorem await_stations : (s.await a).stations = s.stations := rfl
@[simp] theorem await_tickets : (s.await a).tickets = s.tickets := rfl
@[simp] theorem await_fan : (s.await a).fan = s.fan := rfl
@[simp] theorem await_demand : (s.await a).demand = s.demand := rfl
@[simp] theorem await_streams : (s.await a).streams = s.streams := rfl
@[simp] theorem await_descs : (s.await a).descs = s.descs := rfl
@[simp] theorem await_used : (s.await a).used = s.used := rfl
@[simp] theorem await_segMem : (s.await a).segMem = s.segMem := rfl
@[simp] theorem await_release : (s.await a).release = s.release := rfl
@[simp] theorem await_marks : (s.await a).marks = s.marks := rfl
@[simp] theorem await_grace : (s.await a).grace = s.grace := rfl
@[simp] theorem await_fresh : (s.await a).fresh = s.fresh := rfl
@[simp] theorem await_pending : (s.await a).pending = s.pending := rfl
@[simp] theorem await_ports : (s.await a).ports = s.ports.await a := rfl
@[simp] theorem await_trunk (t : TrunkId) : (s.await a).trunk t = s.trunk t := rfl
@[simp] theorem await_cell (c : CellId) : (s.await a).cell c = s.cell c := rfl
@[simp] theorem await_configured (c : CellId) : (s.await a).configured c = s.configured c := rfl
@[simp] theorem await_station? (i : StationIx) : (s.await a).station? i = s.station? i := rfl
@[simp] theorem await_stationAt? (d : Address) : (s.await a).stationAt? d = s.stationAt? d := rfl
@[simp] theorem await_ticket? (k : Token) : (s.await a).ticket? k = s.ticket? k := rfl
@[simp] theorem await_counts (c : CellId) (k : StreamId) : (s.await a).counts c k = s.counts c k := rfl
@[simp] theorem await_stream (k : StreamId) : (s.await a).stream k = s.stream k := rfl
@[simp] theorem await_sectorDemand (k : StreamId) : (s.await a).sectorDemand k = s.sectorDemand k := rfl
@[simp] theorem await_desc? (d : DescIx) : (s.await a).desc? d = s.desc? d := rfl
@[simp] theorem await_watched (c : CellId) (k : StreamId) : (s.await a).watched c k = s.watched c k := rfl
@[simp] theorem await_trunkDemand (t : TrunkId) (k : StreamId) :
    (s.await a).trunkDemand t k = s.trunkDemand t k := rfl
@[simp] theorem await_highestDemand (k : StreamId) : (s.await a).highestDemand k = s.highestDemand k := rfl
@[simp] theorem await_tierOf (b : Binding) (c : CellId) : (s.await a).tierOf b c = s.tierOf b c := rfl
@[simp] theorem await_activeTrunks : (s.await a).activeTrunks = s.activeTrunks := rfl
@[simp] theorem await_servingTrunks : (s.await a).servingTrunks = s.servingTrunks := rfl
@[simp] theorem await_idleHolds (t : TrunkId) : (s.await a).idleHolds t = s.idleHolds t := rfl
@[simp] theorem await_wantedOn (k : StreamId) : (s.await a).wantedOn k = s.wantedOn k := rfl
@[simp] theorem await_stationsAt (c : CellId) : (s.await a).stationsAt c = s.stationsAt c := rfl
@[simp] theorem await_boundStations : (s.await a).boundStations = s.boundStations := rfl
@[simp] theorem await_openStreams : (s.await a).openStreams = s.openStreams := rfl
@[simp] theorem await_heldOf (k : StreamId) : (s.await a).heldOf k = s.heldOf k := rfl
@[simp] theorem await_upload? (k : StreamId) : (s.await a).upload? k = s.upload? k := rfl
@[simp] theorem await_closeFrees (k : StreamId) : (s.await a).closeFrees k = s.closeFrees k := rfl
@[simp] theorem await_holders (d : DescIx) : (s.await a).holders d = s.holders d := rfl
@[simp] theorem await_isStale (d : DescIx) : (s.await a).isStale d = s.isStale d := rfl
@[simp] theorem await_reachedNow (d : DescIx) : (s.await a).reachedNow d = s.reachedNow d := rfl

/-! ### Records written -/

@[simp] theorem await_setTrunk (t : TrunkId) (r : Trunk) :
    (s.await a).setTrunk t r = (s.setTrunk t r).await a := rfl
@[simp] theorem await_putStation (i : StationIx) (r : Station) :
    (s.await a).putStation i r = (s.putStation i r).await a := rfl
@[simp] theorem await_putTicket (k : Token) (r : Ticket) :
    (s.await a).putTicket k r = (s.putTicket k r).await a := rfl
@[simp] theorem await_setStream (k : StreamId) (r : Stream) :
    (s.await a).setStream k r = (s.setStream k r).await a := rfl
@[simp] theorem await_setDemand (k : StreamId) (d : Level) :
    (s.await a).setDemand k d = (s.setDemand k d).await a := rfl
@[simp] theorem await_putDesc (d : DescIx) (r : Desc) :
    (s.await a).putDesc d r = (s.putDesc d r).await a := rfl
@[simp] theorem await_dropSubscribers (k : StreamId) :
    (s.await a).dropSubscribers k = (s.dropSubscribers k).await a := rfl

/-- A choice between two states, with other commands waiting. -/
theorem await_ite (P : Prop) [Decidable P] (u v : State) :
    (if P then u else v).await a = if P then u.await a else v.await a := apply_ite (State.await · a) P u v

/-- What each action of a list does with other commands waiting, the whole list does. -/
theorem await_each {α : Type} (f : State → α → State) (h : ∀ s x, f (s.await a) x = (f s x).await a)
    (xs : List α) : (s.await a).each xs f = (s.each xs f).await a := by
  induction xs generalizing s with
  | nil => rfl
  | cons x xs ih => rw [each_cons, each_cons, h, ih]

@[simp] theorem await_notify (p : PortId) (n : Notice) : (s.await a).notify p n = (s.notify p n).await a := by
  have hl : ((s.await a).port p).notices = (s.port p).notices := by cases p <;> rfl
  unfold notify
  simp only [hl, await_ite]
  split <;> cases p <;> rfl

@[simp] theorem await_modCell (c : CellId) (f : Cell → Cell) :
    (s.await a).modCell c f = (s.modCell c f).await a := by
  unfold modCell
  rw [await_cells]
  split <;> rfl

@[simp] theorem await_setCounts (c : CellId) (k : StreamId) (n : Counts) :
    (s.await a).setCounts c k n = (s.setCounts c k n).await a := by
  unfold setCounts
  split <;> rfl

/-! ### Messages, counts, tiers and demand -/

@[simp] theorem await_raiseFlag (t : TrunkId) (f : ErrorFlag) :
    (s.await a).raiseFlag t f = (s.raiseFlag t f).await a := by
  simp [raiseFlag, await_ite]

@[simp] theorem await_append (t : TrunkId) (m : Ctl) : (s.await a).append t m = (s.append t m).await a := by
  simp [append, await_ite]

@[simp] theorem await_tell (c : CellId) (b : CtlBody) : (s.await a).tell c b = (s.tell c b).await a :=
  s.await_append ..

@[simp] theorem await_tellAll (t : TrunkId) (b : CtlBody) : (s.await a).tellAll t b = (s.tellAll t b).await a :=
  s.await_append ..

@[simp] theorem await_recompute (k : StreamId) : (s.await a).recompute k = (s.recompute k).await a := by
  simp [recompute, await_ite]

@[simp] theorem await_recomputeEach (ks : List StreamId) :
    (s.await a).recomputeEach ks = (s.recomputeEach ks).await a :=
  s.await_each a _ (fun s k => s.await_recompute a k) ks

@[simp] theorem await_recomputeAll : (s.await a).recomputeAll = s.recomputeAll.await a := s.await_recomputeEach ..

@[simp] theorem await_joinCounts (c : CellId) (l : Level) (ks : List StreamId) :
    (s.await a).joinCounts c l ks = (s.joinCounts c l ks).await a :=
  s.await_each a _ (fun s _ => s.await_setCounts ..) ks

@[simp] theorem await_leaveCounts (c : CellId) (l : Level) (ks : List StreamId) :
    (s.await a).leaveCounts c l ks = (s.leaveCounts c l ks).await a :=
  s.await_each a _ (fun s _ => s.await_setCounts ..) ks

theorem await_recomputeTier (i : StationIx) :
    (s.await a).recomputeTier i = ((s.recomputeTier i).1.await a, (s.recomputeTier i).2) := by
  unfold recomputeTier
  rw [await_station?]
  split
  · rfl
  · rename_i r _
    by_cases h : s.tierOf r.binding r.cell = r.tier
    · simp [h]
    · simp [h]

@[simp] theorem await_tellTier (i : StationIx) (o : Option Level) :
    (s.await a).tellTier i o = (s.tellTier i o).await a := by
  unfold tellTier
  rw [await_station?]
  split
  · exact s.await_tell ..
  · rfl
  · rfl

@[simp] theorem await_retier (i : StationIx) : (s.await a).retier i = (s.retier i).await a := by
  simp [retier, await_recomputeTier]

@[simp] theorem await_withdraw (k : StreamId) : (s.await a).withdraw k = (s.withdraw k).await a := by
  simp only [withdraw, await_dropSubscribers, await_recompute, await_activeTrunks]
  exact await_each _ a _ (fun s _ => s.await_tellAll ..) _

/-! ### Cells and stations -/

@[simp] theorem await_idleUpdate (t : TrunkId) : (s.await a).idleUpdate t = (s.idleUpdate t).await a := by
  unfold idleUpdate
  simp only [await_idleHolds, await_trunk, await_ite]
  congr 1
  cases (s.trunk t).idle <;> rfl

@[simp] theorem await_countCell (c : CellId) (f : Cell → Cell) :
    (s.await a).countCell c f = (s.countCell c f).await a := by simp [countCell]

@[simp] theorem await_unbindStation (i : StationIx) :
    (s.await a).unbindStation i = (s.unbindStation i).await a := by
  unfold unbindStation
  rw [await_station?]
  split <;> simp

@[simp] theorem await_releaseTicket (i : StationIx) (b : Binding) (c : Cause) :
    (s.await a).releaseTicket i b c = (s.releaseTicket i b c).await a := by
  unfold releaseTicket
  split
  · rw [await_ticket?]
    split <;> simp
  · rfl
  · rfl

@[simp] theorem await_leaveCells (r : Station) : (s.await a).leaveCells r = (s.leaveCells r).await a := by
  unfold leaveCells
  split <;> simp

@[simp] theorem await_remove (i : StationIx) (c : Cause) : (s.await a).remove i c = (s.remove i c).await a := by
  unfold remove
  rw [await_station?]
  split
  · rfl
  · simp only [await_leaveCounts, await_putStation, await_recomputeEach, await_leaveCells, await_releaseTicket]
    rfl

@[simp] theorem await_tellDetached (i : StationIx) (r : Station) :
    (s.await a).tellDetached i r = (s.tellDetached i r).await a := by
  unfold tellDetached
  split <;> simp

@[simp] theorem await_resettle (b c : CellKind) (i : StationIx) :
    (s.await a).resettle b c i = (s.resettle b c i).await a := by
  unfold resettle
  rw [await_station?]
  split <;> simp

@[simp] theorem await_rewriteCell (c : CellId) (old new : Cell) :
    (s.await a).rewriteCell c old new = (s.rewriteCell c old new).await a := by
  have h : ({ s.await a with cells := (s.await a).cells.put c new } : State)
      = State.await { s with cells := s.cells.put c new } a := rfl
  unfold rewriteCell
  rw [h]
  split
  · rfl
  · exact await_each _ a _ (fun s _ => s.await_resettle ..) _

@[simp] theorem await_removeCell (c : CellId) : (s.await a).removeCell c = (s.removeCell c).await a := rfl

/-! ### Descriptors, streams and marks -/

@[simp] theorem await_endDrain (k : StreamId) : (s.await a).endDrain k = (s.endDrain k).await a := by
  simp [endDrain, await_ite]

@[simp] theorem await_freeCore (d : DescIx) : (s.await a).freeCore d = (s.freeCore d).await a := by
  unfold freeCore
  rw [await_desc?]
  split <;> rfl

@[simp] theorem await_freeDesc (d : DescIx) : (s.await a).freeDesc d = (s.freeDesc d).await a := by
  unfold freeDesc
  rw [await_desc?]
  split <;> simp

@[simp] theorem await_unlink (t : TrunkId) (d : DescIx) : (s.await a).unlink t d = (s.unlink t d).await a := by
  unfold unlink
  simp only [await_trunk, await_setTrunk, await_desc?]
  split
  · rfl
  · split
    · simp [await_ite]
    · rfl
    · rfl

@[simp] theorem await_flushReplay (t : TrunkId) : (s.await a).flushReplay t = (s.flushReplay t).await a :=
  s.await_each a _ (fun s _ => s.await_unlink ..) _

@[simp] theorem await_releaseDesc (d : DescIx) : (s.await a).releaseDesc d = (s.releaseDesc d).await a := by
  unfold releaseDesc
  rw [await_desc?]
  split
  · rfl
  · simp only [await_wantedOn, await_stream, await_setStream, await_freeDesc, await_ite]
    split
    · rfl
    · exact await_each (s.putDesc d _) a
        (fun s t => s.setTrunk t { s.trunk t with replay := (s.trunk t).replay ++ [d] }) (fun _ _ => rfl) _

@[simp] theorem await_releaseHeld (d : DescIx) : (s.await a).releaseHeld d = (s.releaseHeld d).await a :=
  await_releaseDesc { s with release := s.release.filter (· ≠ d) } a d

@[simp] theorem await_flushStale (d : DescIx) : (s.await a).flushStale d = (s.flushStale d).await a := by
  unfold flushStale
  rw [await_desc?]
  split
  · rfl
  · simp only [await_holders, await_notify]
    exact await_each _ a _ (fun s _ => s.await_unlink ..) _

@[simp] theorem await_bumpMark : (s.await a).bumpMark = s.bumpMark.await a := rfl

@[simp] theorem await_releaseReached : (s.await a).releaseReached = s.releaseReached.await a :=
  s.await_each a _ (fun s _ => s.await_releaseHeld ..) _

@[simp] theorem await_flushAllStale : (s.await a).flushAllStale = s.flushAllStale.await a :=
  s.await_each a _ (fun s _ => s.await_flushStale ..) _

@[simp] theorem await_markEvent : (s.await a).markEvent = s.markEvent.await a := by simp [markEvent]

@[simp] theorem await_freeUpload (k : StreamId) : (s.await a).freeUpload k = (s.freeUpload k).await a := by
  unfold freeUpload
  rw [await_upload?]
  split <;> simp

@[simp] theorem await_freeHeld (k : StreamId) : (s.await a).freeHeld k = (s.freeHeld k).await a :=
  s.await_each a _ (fun s d => await_freeDesc { s with release := s.release.filter (· ≠ d) } a d) _

@[simp] theorem await_startDrain (k : StreamId) : (s.await a).startDrain k = (s.startDrain k).await a := by
  simp [startDrain]

@[simp] theorem await_closeStream (k : StreamId) : (s.await a).closeStream k = (s.closeStream k).await a := by
  simp [closeStream]

@[simp] theorem await_insertHeld (n : Int) (d : DescIx) (l : List DescIx) :
    (s.await a).insertHeld n d l = s.insertHeld n d l := by
  induction l with
  | nil => rfl
  | cons e l ih =>
    unfold insertHeld
    rw [await_desc?]
    split
    · rw [ih]; rfl
    · rw [ih]

@[simp] theorem await_hold (d : DescIx) (r : Desc) : (s.await a).hold d r = (s.hold d r).await a := by
  unfold hold
  simp only [await_putDesc, await_insertHeld]
  rfl

@[simp] theorem await_beginUpload (d : DescIx) (k : StreamId) (q : Seq) (m : Mark) (nL nX : Nat) (bs : List Nat) :
    (s.await a).beginUpload d k q m nL nX bs = (s.beginUpload d k q m nL nX bs).await a := rfl

@[simp] theorem await_withdrawClosed (k : StreamId) :
    (s.await a).withdrawClosed k = (s.withdrawClosed k).await a := by simp [withdrawClosed]

@[simp] theorem await_closeDraining (k : StreamId) :
    (s.await a).closeDraining k = (s.closeDraining k).await a := by
  unfold closeDraining
  rw [await_stream]
  split <;> rfl

@[simp] theorem await_clearSegments : (s.await a).clearSegments = s.clearSegments.await a := by
  have cleared := s.await_each a (fun s t => s.setTrunk t (s.trunk t).clearReplay) (fun _ _ => rfl) allTrunks
  unfold clearSegments
  simp only [cleared]
  exact await_each { s.each allTrunks fun s t => s.setTrunk t (s.trunk t).clearReplay with release := [] } a _
    (fun s _ => s.await_freeCore ..) _

/-! ### Trunks -/

@[simp] theorem await_unhearCells (t : TrunkId) : (s.await a).unhearCells t = (s.unhearCells t).await a :=
  s.await_each a _ (fun s _ => s.await_modCell ..) _

@[simp] theorem await_quitTrunk (t : TrunkId) (d : TrunkState) (e : Option Time) :
    (s.await a).quitTrunk t d e = (s.quitTrunk t d e).await a := by
  unfold quitTrunk
  simp only [await_trunk, await_setTrunk]
  split <;> simp

@[simp] theorem await_enterWaking (t : TrunkId) : (s.await a).enterWaking t = (s.enterWaking t).await a := rfl

@[simp] theorem await_disable (t : TrunkId) : (s.await a).disable t = (s.disable t).await a := by
  unfold disable
  rw [await_trunk]
  split <;> simp

@[simp] theorem await_enable (t : TrunkId) : (s.await a).enable t = (s.enable t).await a := by
  unfold enable
  rw [await_trunk]
  split <;> rfl

@[simp] theorem await_standDown (t : TrunkId) : (s.await a).standDown t = (s.standDown t).await a := by
  unfold standDown
  rw [await_trunk]
  split <;> simp

/-! ### Ticket batches -/

/-- An entry that R121 refuses for its values. -/
def badEntry (b : List Byte) (o : Nat) : Prop :=
  (BitVec.ofNat 64 (numAt b o 8) : Token) = 0 ∨ 63 < byteAt b (o + 8) ∨ 1 < byteAt b (o + 10)

theorem loadEntry_of_bad {b : List Byte} {o : Nat} (h : badEntry b o) : s.loadEntry b o = (s, .badValue) :=
  if_pos h

theorem loadEntry_of_no_tier {b : List Byte} {o : Nat} (ht : tierField (byteAt b (o + 9)) = none) :
    s.loadEntry b o = (s, .badValue) := by
  rw [loadEntry, ht]
  exact ite_self _

theorem loadEntry_of_tier {b : List Byte} {o : Nat} (h : ¬ badEntry b o) {l : TicketTier}
    (ht : tierField (byteAt b (o + 9)) = some l) : s.loadEntry b o =
      if (s.ticket? (BitVec.ofNat 64 (numAt b o 8))).isSome then (s, .exists_)
      else if ticketCapacity ≤ s.tickets.size then (s, .full)
      else (s.putTicket (BitVec.ofNat 64 (numAt b o 8)) ⟨byteAt b (o + 8), homeField b o, l, .issued, 0⟩, .ok) := by
  rw [loadEntry, ht]
  exact if_neg h

theorem await_loadEntry (b : List Byte) (o : Nat) :
    (s.await a).loadEntry b o = ((s.loadEntry b o).1.await a, (s.loadEntry b o).2) := by
  by_cases h : badEntry b o
  · simp only [loadEntry_of_bad _ h]
  cases ht : tierField (byteAt b (o + 9)) with
  | none => simp only [loadEntry_of_no_tier _ ht]
  | some l =>
    by_cases he : (s.ticket? (BitVec.ofNat 64 (numAt b o 8))).isSome
    · simp only [loadEntry_of_tier _ h ht, await_ticket?, he, if_true]
    by_cases hf : ticketCapacity ≤ s.tickets.size
    · simp only [loadEntry_of_tier _ h ht, await_ticket?, await_tickets, he, hf, if_true, if_false, Bool.false_eq_true]
    · simp only [loadEntry_of_tier _ h ht, await_ticket?, await_tickets, await_putTicket, he, hf, if_false, Bool.false_eq_true]

/-- A batch with an entry left decides that entry, then the rest against the table it leaves. -/
theorem loadEntries_succ (b : List Byte) (n left : Nat) {x : State × Result}
    (h : s.loadEntry b (entryOffset n) = x) : s.loadEntries b n (left + 1) =
      ((x.1.loadEntries b (n + 1) left).1, .u8 x.2.code :: (x.1.loadEntries b (n + 1) left).2) := by
  subst h
  rfl

theorem await_loadEntries_succ (b : List Byte) (n left : Nat)
    (ih : ∀ (s : State) n, (s.await a).loadEntries b n left
      = ((s.loadEntries b n left).1.await a, (s.loadEntries b n left).2))
    {x : State × Result} (hx : s.loadEntry b (entryOffset n) = x)
    (first : (s.await a).loadEntry b (entryOffset n) = (x.1.await a, x.2)) :
    (s.await a).loadEntries b n (left + 1)
      = ((s.loadEntries b n (left + 1)).1.await a, (s.loadEntries b n (left + 1)).2) := by
  rw [s.loadEntries_succ b n left hx, (s.await a).loadEntries_succ b n left first, ih]

theorem await_loadEntries (b : List Byte) (left n : Nat) :
    (s.await a).loadEntries b n left = ((s.loadEntries b n left).1.await a, (s.loadEntries b n left).2) := by
  induction left generalizing s n with
  | zero => rfl
  | succ left ih => exact s.await_loadEntries_succ a b n left ih rfl (s.await_loadEntry a b _)

end State

/-! ### The rules of the commands -/

theorem Answer.await_mk (a : Waits) (u : State) (r : Result) (f : List Field) :
    (⟨u, r, f⟩ : Answer).await a = ⟨u.await a, r, f⟩ := rfl

theorem Answer.await_ite (a : Waits) (P : Prop) [Decidable P] (x y : Answer) :
    (if P then x else y).await a = if P then x.await a else y.await a := apply_ite (Answer.await · a) P x y

theorem onTrunk_await (b : List Byte) (s : State) (a : Waits) (f g : TrunkId → Answer)
    (h : ∀ t, f t = (g t).await a) : onTrunk b (s.await a) f = (onTrunk b s g).await a := by
  unfold onTrunk
  split
  · rfl
  · exact h _

theorem onStream_await (b : List Byte) (s : State) (a : Waits) (f g : StreamId → Answer)
    (h : ∀ k, f k = (g k).await a) : onStream b (s.await a) f = (onStream b s g).await a := by
  unfold onStream
  split
  · rfl
  · exact h _

theorem onTicket_await (b : List Byte) (s : State) (a : Waits) (f g : Token → Ticket → Answer)
    (h : ∀ k t, f k t = (g k t).await a) : onTicket b (s.await a) f = (onTicket b s g).await a := by
  unfold onTicket
  rw [State.await_ticket?]
  split
  · rfl
  · exact h _ _

section
variable (b : List Byte) (s : State) (a : Waits)

theorem trunkSetRule_await : trunkSetRule b (s.await a) = (trunkSetRule b s).await a := by
  refine onTrunk_await b s a _ _ fun t => ?_
  split
  · rename_i en _ _ _ _ _
    cases en <;> simp [Answer.await, State.stateField]
  · rfl

theorem trunkStartRule_await : trunkStartRule b (s.await a) = (trunkStartRule b s).await a := by
  refine onTrunk_await b s a _ _ fun t => ?_
  rw [State.await_trunk]
  split <;> rfl

theorem trunkStandbyRule_await : trunkStandbyRule b (s.await a) = (trunkStandbyRule b s).await a := by
  refine onTrunk_await b s a _ _ fun t => ?_
  rw [State.await_trunk]
  split
  · rfl
  all_goals simp [Answer.await, State.stateField]

theorem trunkResetRule_await : trunkResetRule b (s.await a) = (trunkResetRule b s).await a := by
  refine onTrunk_await b s a _ _ fun t => ?_
  rw [State.await_trunk]
  split
  · rfl
  all_goals simp [Answer.await, State.stateField]

theorem cellSetRule_await : cellSetRule b (s.await a) = (cellSetRule b s).await a := by
  unfold cellSetRule
  simp only [State.await_cells, Answer.await_ite]
  split
  · rfl
  · split
    · rfl
    · simp [Answer.await]
    · rfl
    · rw [Answer.await_ite]
      rfl

theorem pollListSetRule_await : pollListSetRule b (s.await a) = (pollListSetRule b s).await a := by
  refine onTrunk_await b s a _ _ fun t => ?_
  rw [Answer.await_ite]
  rfl

theorem ticketQueryRule_await : ticketQueryRule b (s.await a) = (ticketQueryRule b s).await a :=
  onTicket_await b s a _ _ fun _ _ => rfl

theorem streamQueryRule_await : streamQueryRule b (s.await a) = (streamQueryRule b s).await a :=
  onStream_await b s a _ _ fun _ => rfl

theorem pollUrgentRule_await : pollUrgentRule b (s.await a) = (pollUrgentRule b s).await a := by
  simp only [pollUrgentRule, Answer.await_ite]
  rfl

theorem stationDetachRule_await : stationDetachRule b (s.await a) = (stationDetachRule b s).await a := by
  unfold stationDetachRule
  simp only [State.await_station?]
  split
  · rfl
  · simp [Answer.await_ite, Answer.await_mk]

theorem stationClearRule_await : stationClearRule b (s.await a) = (stationClearRule b s).await a := by
  have removed := s.await_each a (fun s i => s.remove i .cleared) (fun s _ => s.await_remove ..) s.stations.keys
  simp only [stationClearRule, State.await_stations, removed, State.await_servingTrunks]
  rw [State.await_each _ a _ (fun s _ => s.await_tellAll ..)]
  rfl

theorem gateAdmitRule_await : gateAdmitRule b (s.await a) = (gateAdmitRule b s).await a := by
  refine onTicket_await b s a _ _ fun k t => ?_
  split
  · rfl
  · rfl
  · rfl
  · rw [Answer.await_ite]
    have hs : ∀ h, (s.await a).stale h = s.stale h := fun _ => rfl
    rw [hs]
    split
    · simp only [Answer.await, State.await_putTicket, State.await_unbindStation]
      rfl
    · rfl
  · rfl

theorem gateExitRule_await : gateExitRule b (s.await a) = (gateExitRule b s).await a := by
  refine onTicket_await b s a _ _ fun k t => ?_
  split
  · rfl
  · simp only [Answer.await, State.await_putTicket, State.await_unbindStation]
    rfl
  all_goals rfl

theorem ticketVoidRule_await : ticketVoidRule b (s.await a) = (ticketVoidRule b s).await a := by
  refine onTicket_await b s a _ _ fun k t => ?_
  split
  · simp only [Answer.await, State.await_putTicket, State.await_unbindStation]
    rfl
  all_goals rfl

theorem ticketClearRule_await : ticketClearRule b (s.await a) = (ticketClearRule b s).await a := by
  simp only [ticketClearRule, State.await_boundStations, State.await_tickets,
    State.await_each _ a State.unbindStation (fun s i => s.await_unbindStation a i)]
  rfl

theorem ticketLoadRule_await : ticketLoadRule b (s.await a) = (ticketLoadRule b s).await a := by
  simp only [ticketLoadRule, State.await_loadEntries, Answer.await_ite]
  rfl

theorem streamOpenRule_await : streamOpenRule b (s.await a) = (streamOpenRule b s).await a := by
  refine onStream_await b s a _ _ fun k => ?_
  rw [State.await_stream]
  split <;> rfl

theorem streamCloseRule_await : streamCloseRule b (s.await a) = (streamCloseRule b s).await a := by
  refine onStream_await b s a _ _ fun k => ?_
  rw [State.await_stream]
  split
  · simp [Answer.await]
  · rfl
  · rfl

theorem segBeginRule_await : segBeginRule b (s.await a) = (segBeginRule b s).await a := by
  refine onStream_await b s a _ _ fun k => ?_
  simp only [Answer.await_ite]
  rfl

theorem segDataRule_await : segDataRule b (s.await a) = (segDataRule b s).await a := by
  refine onStream_await b s a _ _ fun k => ?_
  rw [State.await_upload?]
  split
  · rfl
  · rw [Answer.await_ite]
    rfl

theorem segEndRule_await : segEndRule b (s.await a) = (segEndRule b s).await a := by
  refine onStream_await b s a _ _ fun k => ?_
  rw [State.await_upload?]
  split
  · rfl
  · simp only [Answer.await_ite, State.await_stream, State.await_setStream, State.await_freeDesc,
      State.await_releaseDesc, State.await_hold]
    rfl

theorem segAbortRule_await : segAbortRule b (s.await a) = (segAbortRule b s).await a := by
  refine onStream_await b s a _ _ fun k => ?_
  rw [State.await_upload?]
  split
  · rfl
  · simp [Answer.await]

theorem markRule_await : markRule b (s.await a) = (markRule b s).await a := by
  unfold markRule
  rw [State.await_marks]
  split
  · simp [Answer.await]
  · rfl

theorem markSetRule_await : markSetRule b (s.await a) = (markSetRule b s).await a := by
  unfold markSetRule
  split <;> rfl

theorem replayClearRule_await : replayClearRule b (s.await a) = (replayClearRule b s).await a := by
  simp only [replayClearRule, State.await_clearSegments, State.await_openStreams, State.await_descs,
    State.await_each _ a State.withdrawClosed (fun s k => s.await_withdrawClosed a k),
    State.await_each _ a State.closeDraining (fun s k => s.await_closeDraining a k), Answer.await_mk]

theorem trunkQueryRule_await : trunkQueryRule b (s.await a) = (trunkQueryRule b s).await a := by
  refine onTrunk_await b s a _ _ fun t => ?_
  split <;> rfl

theorem stationQueryRule_await : stationQueryRule b (s.await a) = (stationQueryRule b s).await a := by
  have hs : (s.await a).selected b = s.selected b := rfl
  unfold stationQueryRule
  rw [hs, Answer.await_ite]
  split
  · rfl
  · split <;> rfl

theorem fanoutQueryRule_await : fanoutQueryRule b (s.await a) = (fanoutQueryRule b s).await a := by
  unfold fanoutQueryRule
  split <;> rfl

theorem loadSetRule_await : loadSetRule b (s.await a) = (loadSetRule b s).await a := by
  simp only [loadSetRule, Answer.await_ite]
  rfl

/-- No rule looks at the intakes. -/
theorem Command.rule_await (c : Command) : c.rule b (s.await a) = (c.rule b s).await a := by
  cases c with
  | cellSet => exact cellSetRule_await b s a
  | loadSet => exact loadSetRule_await b s a
  | trunkSet => exact trunkSetRule_await b s a
  | trunkStart => exact trunkStartRule_await b s a
  | trunkStandby => exact trunkStandbyRule_await b s a
  | trunkReset => exact trunkResetRule_await b s a
  | pollListSet => exact pollListSetRule_await b s a
  | pollUrgent => exact pollUrgentRule_await b s a
  | timersSet => rfl
  | stationDetach => exact stationDetachRule_await b s a
  | stationClear => exact stationClearRule_await b s a
  | cellQuery => rfl
  | trunkQuery => exact trunkQueryRule_await b s a
  | ticketLoad => exact ticketLoadRule_await b s a
  | gateAdmit => exact gateAdmitRule_await b s a
  | gateExit => exact gateExitRule_await b s a
  | ticketVoid => exact ticketVoidRule_await b s a
  | ticketQuery => exact ticketQueryRule_await b s a
  | ticketClear => exact ticketClearRule_await b s a
  | streamOpen => exact streamOpenRule_await b s a
  | streamClose => exact streamCloseRule_await b s a
  | segBegin => exact segBeginRule_await b s a
  | segData => exact segDataRule_await b s a
  | segEnd => exact segEndRule_await b s a
  | segAbort => exact segAbortRule_await b s a
  | mark => exact markRule_await b s a
  | markSet => exact markSetRule_await b s a
  | streamQuery => exact streamQueryRule_await b s a
  | fanoutQuery => exact fanoutQueryRule_await b s a
  | replayClear => exact replayClearRule_await b s a
  | stationQuery => exact stationQueryRule_await b s a
  | partStatus => rfl

end

/-! ### A command taken -/

/-- The intakes once a command of a port has begun. -/
def State.begun (s : State) (p : PortId) : Waits :=
  ⟨(s.begin p).ports.w.waiting, (s.begin p).ports.t.waiting, (s.begin p).ports.v.waiting⟩

theorem State.begin_eq_await (s : State) (p : PortId) : s.begin p = s.await (s.begun p) := by
  cases p <;> rfl

/-- A state whose intakes stand as in another begins a command as that one does. -/
theorem State.begun_eq {s u : State} (h : ∀ p, (u.port p).waiting = (s.port p).waiting) (p : PortId) :
    u.begun p = s.begun p := by
  have hw := h .W
  have ht := h .T
  have hv := h .V
  simp only [State.port] at hw ht hv
  cases p <;> simp [State.begun, State.begin, State.setPort, State.port, hw, ht, hv]

/-- **A command that the checks pass** leaves the state that its own rule makes of the state found, with its
response: the intake is not looked at. -/
theorem exec_taken {i : Instr} {p : PortId} {c : Command} {m : PortMessage} {s : State}
    (hi : portCommand i = some (p, c)) (h : s.Taking p c m) {u : State} {r : Result} {b : List Field}
    (hr : c.rule m.body s = ⟨u, r, b⟩) (hb : r ≠ .ok → b = []) : exec i s = .next (u.answered p m r b) := by
  have ha := c.rule_await m.body s (s.begun p)
  rw [← State.begin_eq_await, hr] at ha
  have bare := fun p' => c.bare_rule m.body s p'
  rw [hr] at bare
  have waits : ∀ p', (u.port p').waiting = (s.port p').waiting := fun p' =>
    Port.eq_of_bare (·.waiting) (fun _ => rfl) (bare p')
  have up : (u.port p).link = .up := (Port.eq_of_bare (·.link) (fun _ => rfl) (bare p)).trans h.up
  have begun : u.await (s.begun p) = u.begin p := by rw [State.begin_eq_await, State.begun_eq waits]
  rw [exec_portCommand hi, State.live_released s h.released, State.act_taken s p c m h, ha]
  exact congrArg _ ((congrArg (State.respond · p m r b) begun).trans (State.respond_begin u p m r b up hb))

/-- An accepted command is permitted on its port. -/
theorem State.Taking.permitted {s : State} {p : PortId} {c : Command} {m : PortMessage}
    (h : s.Taking p c m) : c.permitted p = true := by
  refine Classical.byContradiction fun hp => ?_
  have hc : Command.ofCode m.code.toNat = some c := by rw [h.code, Command.ofCode_code]
  have := h.accepted
  simp only [refusal, hc, hp] at this
  split at this <;> simp at this

/-- A command row on its port: an OK answer. -/
theorem exec_ok {i : Instr} {p : PortId} {c : Command} {m : PortMessage} {s : State} (h : s.Taking p c m)
    {u : State} {b : List Field} (hr : c.rule m.body s = ⟨u, .ok, b⟩)
    (hi : portCommand i = some (p, c) := by rfl) : exec i s = .next (u.answered p m .ok b) :=
  exec_taken hi h hr (absurd rfl)

/-- A command row on its port: an answer with no body, as every refusal is. -/
theorem exec_bare {i : Instr} {p : PortId} {c : Command} {m : PortMessage} {s : State} (h : s.Taking p c m)
    {u : State} {r : Result} (hr : c.rule m.body s = ⟨u, r, []⟩)
    (hi : portCommand i = some (p, c) := by rfl) : exec i s = .next (u.answered p m r []) :=
  exec_taken hi h hr (fun _ => rfl)

end Sys2Proof.Machine
end


section
/-! PROOF. The commands that name what does not exist, the queries (Chapters 2, 4, 6, 8, 9 and 10), and the
commands that store settings. -/
namespace Sys2Proof.Machine

/-! ### Reset values -/

theorem State.trunk_reset (t : TrunkId) : State.reset.trunk t = .reset := by
  simp [State.trunk, State.reset]

/-- Settles O3, by evaluation of each record at device reset. -/
theorem resetValues : Obligations.ResetValues := by
  refine ⟨⟨rfl, rfl, rfl, rfl⟩, fun p => ?_, fun t => ?_, fun c => ⟨rfl, rfl⟩,
    ⟨fun i => rfl, fun a => rfl, fun k => rfl⟩, fun c k => rfl, fun k => ?_,
    ⟨fun d => rfl, rfl, rfl, rfl⟩, rfl, rfl⟩
  · cases p <;> exact ⟨rfl, rfl, rfl, rfl, rfl, rfl⟩
  · have left : State.reset.chunksLeft t = 0 := by rw [State.chunksLeft, State.trunk_reset]; rfl
    intro r
    have hr : r = .reset := State.trunk_reset t
    rw [hr]
    exact ⟨rfl, rfl, rfl, rfl, rfl, rfl, rfl, rfl, rfl, rfl, rfl, rfl, rfl, rfl, rfl, rfl, rfl, rfl, rfl, left, rfl⟩
  · simp [State.sectorDemand, State.stream, State.reset, Stream.reset]

/-! ### Names that do not exist -/

theorem trunkField_none {n : Nat} (h : 8 ≤ n) : trunkField n = none := dif_neg (by omega)
theorem streamField_none {n : Nat} (h : 16 ≤ n) : streamField n = none := dif_neg (by omega)
theorem trunkField_val {n : Nat} (t : TrunkId) (h : n = t.val) : trunkField n = some t := by
  subst h
  exact dif_pos t.isLt
theorem streamField_val {n : Nat} (k : StreamId) (h : n = k.val) : streamField n = some k := by
  subst h
  exact dif_pos k.isLt

theorem onTrunk_none {b : List Byte} {s : State} (f : TrunkId → Answer) (h : 8 ≤ byteAt b 0) :
    onTrunk b s f = ⟨s, .noSuch, []⟩ := by rw [onTrunk, trunkField_none h]
theorem onStream_none {b : List Byte} {s : State} (f : StreamId → Answer) (h : 16 ≤ byteAt b 0) :
    onStream b s f = ⟨s, .noSuch, []⟩ := by rw [onStream, streamField_none h]
theorem onTicket_none {m : PortMessage} {s : State} (f : Token → Ticket → Answer)
    (h : s.ticket? (tokenOf m) = none) : onTicket m.body s f = ⟨s, .noSuch, []⟩ := by
  rw [onTicket]
  unfold tokenOf at h
  rw [h]
theorem onTrunk_val {b : List Byte} {s : State} (f : TrunkId → Answer) (t : TrunkId)
    (h : byteAt b 0 = t.val) : onTrunk b s f = f t := by rw [onTrunk, trunkField_val t h]
theorem onStream_val {b : List Byte} {s : State} (f : StreamId → Answer) (k : StreamId)
    (h : byteAt b 0 = k.val) : onStream b s f = f k := by rw [onStream, streamField_val k h]
theorem onTicket_some {m : PortMessage} {s : State} (f : Token → Ticket → Answer) (x : Ticket)
    (h : s.ticket? (tokenOf m) = some x) : onTicket m.body s f = f (tokenOf m) x := by
  rw [onTicket]
  unfold tokenOf at h
  rw [h]
  rfl

theorem stationDetachRule_none {b : List Byte} {s : State}
    (h : ∀ r, s.station? (numAt b 0 2) = some r → r.address.toNat ≠ numAt b 2 6) :
    stationDetachRule b s = ⟨s, .noSuch, []⟩ := by
  unfold stationDetachRule
  dsimp only
  split
  · rfl
  · exact if_neg (h _ ‹_›)

/-- Settles O13: the rule of each command that names a record looks the name up first. -/
theorem unknownNameRefused : Obligations.UnknownNameRefused := by
  intro i p c m s hi h hn
  refine exec_taken hi h ?_ (fun _ => rfl)
  obtain ⟨hc, hb⟩ | ⟨hc, hb⟩ | ⟨hc, ht⟩ | ⟨rfl, hd⟩ := hn
  · simp only [List.mem_cons, List.not_mem_nil, or_false] at hc
    obtain rfl | rfl | rfl | rfl | rfl | rfl := hc <;> exact onTrunk_none _ hb
  · simp only [List.mem_cons, List.not_mem_nil, or_false] at hc
    obtain rfl | rfl | rfl | rfl | rfl | rfl | rfl | rfl := hc
    all_goals exact onStream_none _ hb
  · simp only [List.mem_cons, List.not_mem_nil, or_false] at hc
    obtain rfl | rfl | rfl | rfl := hc
    · exact (onTicket_none _ ht : gateAdmitRule m.body s = _)
    · exact (onTicket_none _ ht : gateExitRule m.body s = _)
    · exact (onTicket_none _ ht : ticketVoidRule m.body s = _)
    · exact (onTicket_none _ ht : ticketQueryRule m.body s = _)
  · exact stationDetachRule_none hd

/-! ### Queries (R36, R60, R83, R100, R128, R149, R168) -/

/-- A presence byte is 1 where the field is. -/
theorem bit_isSome {α : Type} (o : Option α) : bit o.isSome = if o = none then 0 else 1 := by
  cases o <;> rfl

theorem TrunkId.sum_cells (f : CellId → Nat) (t : TrunkId) :
    sumOver (cellsOf t) f = ((List.range 32).map fun pos => f (32 * t.val + pos)).sum := by
  rw [sumOver, cellsOf, List.map_map]
  rfl

/-- How many of a list meet a test, as a sum of ones. -/
theorem length_filter_eq_sum {α : Type} (l : List α) (q : α → Bool) :
    (l.filter q).length = (l.map fun x => if q x then 1 else 0).sum := by
  induction l with
  | nil => rfl
  | cons x l ih =>
    rw [List.filter_cons, List.map_cons, List.sum_cons, ← ih]
    split <;> simp [*, Nat.add_comm]

/-- The watched cells of a trunk, counted over its positions. -/
theorem State.length_watched (s : State) (t : TrunkId) (k : StreamId) :
    ((cellsOf t).filter fun c => s.watched c k).length = ((List.range 32).map fun pos =>
      if 0 < (s.counts (32 * t.val + pos) k).full + (s.counts (32 * t.val + pos) k).lean then 1 else 0).sum := by
  have ones := TrunkId.sum_cells (fun c => if s.watched c k then 1 else 0) t
  simp only [State.watched, decide_eq_true_eq] at ones
  rw [length_filter_eq_sum, ← ones, sumOver]
  simp only [State.watched, decide_eq_true_eq]

/-- The upload of a stream is a listed descriptor of that stream in the UPLOADING state. -/
theorem findUpload_some {l : List (Nat × Desc)} {k : StreamId} {d : DescIx} {r : Desc} {n : Nat}
    (h : findUpload l k = some (d, r, n)) : (d, r) ∈ l ∧ r.stream = k ∧ r.state = .uploading n := by
  induction l with
  | nil => cases h
  | cons e l ih =>
    obtain ⟨d', r'⟩ := e
    have rest : findUpload l k = some (d, r, n) → (d, r) ∈ (d', r') :: l ∧ r.stream = k ∧ r.state = .uploading n :=
      fun h => ⟨List.mem_cons_of_mem _ (ih h).1, (ih h).2⟩
    unfold findUpload at h
    split at h
    · split at h
      · cases h
        exact ⟨List.mem_cons_self, by assumption, by assumption⟩
      · exact rest h
    · exact rest h
    · exact rest h


/-- The record of CELL_QUERY, figure by figure (R60). -/
theorem State.cellRecord_eq (s : State) (c : CellId) : s.cellRecord c =
    let x := s.cell c
    [.u8 (bit (s.configured c)), .u8 x.kind.code, .u8 x.section_, .u8 x.cmax,
          .u8 x.neighbours.length] ++ x.neighbours.map .u8
          ++ [.u8 (bit x.override.isSome), ⟨2, x.override.map Prod.fst⟩, ⟨2, x.override.map Prod.snd⟩,
              .u8 x.live.code, .u8 x.miss, .u8 x.accepted.code,
              .u8 (match x.candidate with
                | some k => k.code
                | none => 0xFF),
              .u8 x.lastA, .u8 x.attached, .u8 x.incoming, .u16 x.score, .u8 x.load.code,
              .u8 (if x.accepted = .degraded then max 1 (x.cmax / 2) else x.cmax),
              .u8 (bit (s.configured c && x.live == .live
                && (x.accepted == .run || x.accepted == .degraded))),
              .u8 (allStreams.filter fun k => 0 < (s.counts c k).full + (s.counts c k).lean).length] := by
  have serves : ∀ a : Condition, a.serves = (a == .run || a == .degraded) := by
    intro a; cases a <;> rfl
  have cand : ∀ o : Option Condition, candidateCode o = match o with
      | some k => k.code
      | none => 0xFF := by
    intro o; cases o <;> rfl
  simp only [State.cellRecord, State.admitting, serves, cand]
  rfl

theorem exec_cellQuery_taken {p : PortId} {m : PortMessage} {s : State} (h : s.Taking p .cellQuery m) :
    exec (.cellQuery p) s = .next (s.answered p m .ok (s.cellRecord (byteAt m.body 0))) :=
  exec_ok h rfl

/-- The bytes that follow an entry's distance in STREAM_QUERY stand for a RELEASED descriptor alone (R168). -/
theorem descFields_eq (count : Mark) (d : DescIx) (r : Desc) : descFields count d r =
    [.u8 d, .u8 r.state.code, .u16 r.sequence.toNat, .u16 r.mark.toNat, .u16 (count - r.mark).toNat]
      ++ match r.state with
        | .released refs cs => .u8 refs :: allTrunks.flatMap fun t =>
            [.u8 (cs[t.val]).rendition.code, .u16 (cs[t.val]).remaining]
        | _ => [] := by
  unfold descFields
  cases r.state <;> rfl

/-- A descriptor listed by STREAM_QUERY is not UPLOADING. -/
theorem Desc.settled_eq (r : Desc) : r.settled = match r.state with
    | .uploading _ => false
    | _ => true := by
  unfold Desc.settled
  cases r.state <;> rfl

/-- The rest of a descriptor's chunks on a trunk, 0 where the pool does not hold it (R173). -/
theorem State.chunksLeft_eq (s : State) (t : TrunkId) : s.chunksLeft t =
    ((s.trunk t).replay.map fun d => ((s.desc? d).map fun x => (x.carry t).remaining).getD 0).sum := by
  unfold State.chunksLeft
  congr 2
  funext d
  cases s.desc? d <;> rfl

theorem trunkQueryRule_at {b : List Byte} {s : State} (t : TrunkId) (h : byteAt b 0 = t.val) :
    trunkQueryRule b s = match onOff (byteAt b 1) with
      | none => ⟨s, .badValue, []⟩
      | some false => ⟨s, .ok, s.trunkSnapshot t⟩
      | some true => ⟨s.setTrunk t { s.trunk t with flags := .clear }, .ok, s.trunkSnapshot t⟩ :=
  onTrunk_val _ t h

theorem onOff_none {n : Nat} (h : 2 ≤ n) : onOff n = none := by
  match n, h with
  | _ + 2, _ => rfl

theorem stationQueryRule_found {b : List Byte} {s : State} {i : StationIx} {r : Station}
    (h : (byteAt b 0 = 0 ∧ i = numAt b 2 2 ∧ s.station? i = some r)
      ∨ (byteAt b 0 = 1 ∧ s.stationAt? (BitVec.ofNat 48 (numAt b 1 6)) = some (i, r))) :
    stationQueryRule b s = ⟨s, .ok, s.stationRecord i r⟩ := by
  have hs : s.selected b = some (i, r) := by
    obtain ⟨h0, rfl, hr⟩ | ⟨h1, hr⟩ := h
    · simp [State.selected, h0, hr]
    · simp [State.selected, h1, hr]
  have small : ¬ 1 < byteAt b 0 := by omega
  rw [stationQueryRule, if_neg small, hs]

theorem stationQueryRule_missing {b : List Byte} {s : State}
    (h : (byteAt b 0 = 0 ∧ s.station? (numAt b 2 2) = none)
      ∨ (byteAt b 0 = 1 ∧ s.stationAt? (BitVec.ofNat 48 (numAt b 1 6)) = none)) :
    stationQueryRule b s = ⟨s, .noSuch, []⟩ := by
  have hs : s.selected b = none := by
    obtain ⟨h0, hr⟩ | ⟨h1, hr⟩ := h
    · simp [State.selected, h0, hr]
    · simp [State.selected, h1, hr]
  have small : ¬ 1 < byteAt b 0 := by omega
  rw [stationQueryRule, if_neg small, hs]

/-- The record of STATION_QUERY, figure by figure (R100). -/
theorem State.stationRecord_eq (s : State) (i : StationIx) (r : Station) : s.stationRecord i r =
    [.u16 i, .u48 r.address.toNat, .u8 (bit r.roam.isSome), .u8 r.cell]
      ++ optField 1 (r.roam.map fun x => x.pending) ++ optField 4 (r.roam.map fun x => x.start.toNat)
      ++ [.u8 r.binding.code]
      ++ optField 8 (match r.binding with
        | .bound k => some k.toNat
        | _ => none)
      ++ [.u8 r.subs.length] ++ r.subs.map (fun k => .u8 k.val)
      ++ [.u8 r.tier.code, .u32 r.lastHeard.toNat]
      ++ optField 4 (r.grace.map fun x => x.toNat) ++ optField 4 (r.steerHold.map fun x => x.toNat)
      ++ [.u32 s.now.toNat] := by
  have ticket : r.binding.ticket.map BitVec.toNat = match r.binding with
      | .bound k => some k.toNat
      | _ => none := by cases r.binding <;> rfl
  rw [State.stationRecord, ticket]
  simp [Station.mobility]

theorem ticketQueryRule_at {m : PortMessage} {s : State} {t : Ticket} (h : s.ticket? (tokenOf m) = some t) :
    ticketQueryRule m.body s = ⟨s, .ok,
      [.u64 (tokenOf m).toNat, .u8 t.section_] ++ optField 1 t.home
        ++ [.u8 t.tier.level.code, .u8 t.state.code] ++ optField 2 t.state.holder ++ [.u8 t.entries]
        ++ match t.state.holder with
          | some h => s.holderRecord h
          | none => []⟩ := onTicket_some _ t h

theorem State.cellOf_some {s : State} {h : StationIx} {r : Station} (hr : s.station? h = some r) :
    s.cellOf h = r.cell := by rw [State.cellOf, hr]

theorem State.unheardFor_some {s : State} {h : StationIx} {r : Station} (hr : s.station? h = some r) :
    s.unheardFor h = elapsed s.now r.lastHeard := by rw [State.unheardFor, hr]

theorem State.holderRecord_some {s : State} {h : StationIx} {r : Station} (hr : s.station? h = some r) :
    s.holderRecord h
      = [.u8 r.cell, .u8 (bit r.roam.isSome), .u32 (elapsed s.now r.lastHeard), .u16 s.timers.window] := by
  rw [State.holderRecord, State.cellOf_some hr, State.unheardFor_some hr, hr]
  rfl

theorem streamQueryRule_at {b : List Byte} {s : State} (k : StreamId) (h : byteAt b 0 = k.val) :
    streamQueryRule b s =
      let r := s.stream k
      let ds := s.descs.entries.filter fun e => e.2.stream == k && e.2.settled
      ⟨s, .ok,
        [.u8 r.state.code] ++ optField 2 (r.lastSeq.map BitVec.toNat) ++ [.u16 r.inUse, .u16 r.unwatched]
          ++ uploadFields (s.upload? k)
          ++ .u16 ds.length :: ds.flatMap (fun e => descFields s.marks.count e.1 e.2)
          ++ [.u16 s.marks.count.toNat, .u8 s.marks.source.code, .u8 s.marks.mode.code,
              .u16 s.marks.period, .u16 s.marks.stale]
          ++ optField 4 (s.grace.map (elapsed s.now))⟩ :=
  onStream_val _ k h

/-- Settles O15, query by query: the rule of each finds the record that the body names and lists its figures. -/
theorem queriesReportRecords : Obligations.QueriesReportRecords := by
  intro p m s b
  refine ⟨fun h => ?_, fun t h ht => ?_, fun i r h hr => ?_, fun h hr => exec_bare h (stationQueryRule_missing hr),
    fun h h2 => ?_, fun t h ht => ?_, fun k h hk => ?_, fun k h hk => ?_, rfl, fun w o => ?_,
    rfl, rfl, rfl, rfl, rfl, rfl, rfl, rfl, rfl, fun _ _ => rfl, rfl, rfl⟩
  · rw [exec_cellQuery_taken h, State.cellRecord_eq] <;> rfl
  · have at_ := trunkQueryRule_at (s := s) t ht
    refine ⟨fun h0 => ?_, fun h1 => ?_, fun h2 => ?_⟩
    · rw [h0] at at_
      rw [exec_ok h at_, State.trunkSnapshot, State.chunksLeft_eq] <;> rfl
    · rw [h1] at at_
      rw [exec_ok h at_, State.trunkSnapshot, State.chunksLeft_eq] <;> rfl
    · rw [onOff_none h2] at at_
      exact exec_bare h at_
  · rw [exec_ok h (stationQueryRule_found hr), State.stationRecord_eq] <;> rfl
  · exact exec_bare h (if_pos (show 1 < byteAt b 0 from h2))
  · have at_ := ticketQueryRule_at ht
    refine ⟨fun hh => ?_, fun i r hi hr => ?_⟩
    · have none_ : t.state.holder = none := by
        cases hs : t.state with
        | seated i => exact absurd hs (hh i)
        | _ => rfl
      rw [none_, List.append_nil] at at_
      exact exec_ok h at_
    · rw [hi] at at_
      simp only [TicketState.holder, State.holderRecord_some hr] at at_
      rw [← hi] at at_
      exact exec_ok h at_
  · have at_ := streamQueryRule_at (s := s) k hk
    intro r entry listed answer
    have leads : ∀ upload, uploadFields (s.upload? k) = upload → answer upload := by
      intro upload hu
      refine exec_ok h (at_.trans ?_)
      simp only [descFields_eq, Desc.settled_eq, hu]
      simp only [List.append_assoc, List.cons_append, List.nil_append]
      rfl
    refine ⟨fun hu => leads _ (by rw [hu]; rfl), fun d x next hu => ?_⟩
    obtain ⟨hm, hk', hx⟩ := findUpload_some hu
    exact ⟨hm, hk', hx, leads _ (by rw [hu]; rfl)⟩
  · intro ofTrunk fulls leans watched
    refine exec_ok h ?_
    change fanoutQueryRule m.body s = _
    rw [fanoutQueryRule, streamField_val k hk]
    simp only [TrunkId.sum_cells, State.length_watched]
    rfl
  · rw [optField, bit_isSome]

end Sys2Proof.Machine
end


section
/-! PROOF. Byte layouts (Chapter 12): numbers in bytes, the fields of a body, the header of a message; and the
outbound line (R10, R12). -/
namespace Sys2Proof.Machine

/-! ### Numbers in bytes -/

theorem length_beBytes (w n : Nat) : (beBytes w n).length = w := by
  induction w with
  | zero => rfl
  | succ w ih => rw [beBytes, List.length_cons, ih]

theorem byteAt_append_right (l r : List Byte) (i : Nat) : byteAt (l ++ r) (l.length + i) = byteAt r i := by
  simp only [byteAt, List.getD_eq_getElem?_getD, List.getElem?_append_right (Nat.le_add_right l.length i),
    Nat.add_sub_cancel_left]

theorem byteAt_append_left {l : List Byte} (r : List Byte) {i : Nat} (h : i < l.length) :
    byteAt (l ++ r) i = byteAt l i := by
  simp only [byteAt, List.getD_eq_getElem?_getD, List.getElem?_append_left h]

theorem numAt_append_right (l r : List Byte) (i w : Nat) : numAt (l ++ r) (l.length + i) w = numAt r i w := by
  induction w generalizing i with
  | zero => rfl
  | succ w ih => rw [numAt, numAt, byteAt_append_right, Nat.add_assoc, ih]

theorem numAt_append_left {l : List Byte} (r : List Byte) {i w : Nat} (h : i + w ≤ l.length) :
    numAt (l ++ r) i w = numAt l i w := by
  induction w generalizing i with
  | zero => rfl
  | succ w ih => rw [numAt, numAt, byteAt_append_left r (by omega), ih (by omega)]

/-- A number laid out in bytes is read back, modulo what the bytes hold. -/
theorem numAt_beBytes (w n : Nat) : numAt (beBytes w n) 0 w = n % 256 ^ w := by
  induction w with
  | zero => rw [Nat.pow_zero, Nat.mod_one]; rfl
  | succ w ih =>
    have head : byteAt (beBytes (w + 1) n) 0 = n / 256 ^ w % 256 := by
      have : (2 : Nat) ^ (8 * w) = 256 ^ w := by rw [Nat.pow_mul]
      simp [byteAt, beBytes, Nat.shiftRight_eq_div_pow, this]
    have tail : numAt (beBytes (w + 1) n) 1 w = numAt (beBytes w n) 0 w :=
      numAt_append_right [BitVec.ofNat 8 (n >>> (8 * w))] (beBytes w n) 0 w
    rw [numAt, head, tail, ih, Nat.pow_succ, Nat.mod_mul, Nat.mul_comm, Nat.add_comm]

/-- A number laid out among other bytes is read back. -/
theorem numAt_at {l r b : List Byte} {o w n : Nat} (hb : b = l ++ beBytes w n ++ r) (ho : o = l.length)
    (hn : n < 256 ^ w) : numAt b o w = n := by
  subst hb ho
  rw [List.append_assoc]
  have at_ := numAt_append_right l (beBytes w n ++ r) 0 w
  rw [Nat.add_zero] at at_
  rw [at_, numAt_append_left r (by rw [length_beBytes]; omega), numAt_beBytes, Nat.mod_eq_of_lt hn]

/-! ### Bodies -/

theorem Field.length_bytes (f : Field) (absent : Nat → Byte) (off : Nat) : (f.bytes absent off).length = f.width := by
  unfold Field.bytes
  split
  · exact length_beBytes ..
  · simp

/-- A field laid out behind others begins where they end, after its pad byte. -/
theorem layoutFrom_append (absent : Nat → Byte) (off : Nat) (fs : List Field) (f : Field) :
    layoutFrom absent off (fs ++ [f]) =
      let l := layoutFrom absent off fs
      l ++ List.replicate (padBefore (off + l.length) f) 0
        ++ f.bytes absent (off + l.length + padBefore (off + l.length) f) := by
  induction fs generalizing off with
  | nil => simp [layoutFrom]
  | cons g fs ih =>
    have hl : (layoutFrom absent off (g :: fs)).length
        = padBefore off g + g.width + (layoutFrom absent (off + padBefore off g + g.width) fs).length := by
      simp [layoutFrom, Field.length_bytes, Nat.add_assoc]
    have ho : ∀ n, off + padBefore off g + g.width + n = off + (padBefore off g + g.width + n) := by
      intro n; omega
    rw [List.cons_append]
    dsimp only
    rw [hl, ← ho, layoutFrom, ih, layoutFrom]
    simp only [List.append_assoc]

/-- What a field's own bytes hold. -/
theorem Field.bytes_value (f : Field) (absent : Nat → Byte) (off : Nat) :
    (∀ v, f.value = some v → numAt (f.bytes absent off) 0 f.width = v % 256 ^ f.width)
    ∧ (f.value = none → ∀ i, i < f.width → (f.bytes absent off).getD i 0 = absent (off + i)) := by
  refine ⟨fun v hv => ?_, fun hv i hi => ?_⟩
  · rw [Field.bytes, hv, numAt_beBytes]
  · rw [Field.bytes, hv]
    simp [hi]

/-! ### Messages -/

/-- The header and the body of a message on the line (Chapter 12.1). -/
theorem PortMessage.wire_fields (m : PortMessage) : let w := PortMessage.wire m
    w.length = 12 + m.body.length ∧ w.take 2 = [m.kind, m.code] ∧ numAt w 2 2 = m.tag.toNat
      ∧ numAt w 4 2 = m.bodyLength.toNat ∧ (w.drop 6).take 2 = [m.resultFlags, m.spare]
      ∧ numAt w 8 4 = m.sectorTime.toNat ∧ w.drop 12 = m.body := by
  intro w
  refine ⟨?_, rfl, ?_, ?_, rfl, ?_, rfl⟩
  · simp only [w, PortMessage.wire, List.length_append, length_beBytes, List.length_cons, List.length_nil]
  · exact numAt_at (l := [m.kind, m.code])
      (r := beBytes 2 m.bodyLength.toNat ++ [m.resultFlags, m.spare] ++ beBytes 4 m.sectorTime.toNat ++ m.body)
      (by simp [w, PortMessage.wire]) rfl m.tag.isLt
  · exact numAt_at (l := [m.kind, m.code] ++ beBytes 2 m.tag.toNat)
      (r := [m.resultFlags, m.spare] ++ beBytes 4 m.sectorTime.toNat ++ m.body)
      (by simp [w, PortMessage.wire]) rfl m.bodyLength.isLt
  · exact numAt_at (l := [m.kind, m.code] ++ beBytes 2 m.tag.toNat ++ beBytes 2 m.bodyLength.toNat
        ++ [m.resultFlags, m.spare]) (r := m.body)
      (by simp [w, PortMessage.wire]) rfl m.sectorTime.isLt

theorem Result.code_lt (r : Result) : r.code < 256 := by cases r <;> decide
theorem Notice.code_lt (n : Notice) : n.code < 256 := by cases n <;> exact Nat.le_of_ble_eq_true rfl

theorem toNat_code {n : Nat} (h : n < 256) : (BitVec.ofNat 8 n).toNat = n := by
  rw [BitVec.toNat_ofNat, Nat.mod_eq_of_lt h]

/-- A set of trunks as bits. -/
theorem testBit_trunkSetByte (ts : List TrunkId) (j : TrunkId) : (trunkSetByte ts).testBit j.val = true ↔ j ∈ ts := by
  have from_ : ∀ n : Nat, (ts.foldl (fun n t => n ||| (1 <<< t.val)) n).testBit j.val = true
      ↔ n.testBit j.val = true ∨ j ∈ ts := by
    induction ts with
    | nil => simp
    | cons t ts ih =>
      intro n
      rw [List.foldl_cons, ih, Nat.testBit_or, Nat.one_shiftLeft, Nat.testBit_two_pow, Bool.or_eq_true,
        decide_eq_true_eq, List.mem_cons, Fin.val_inj, eq_comm (a := t), or_assoc]
  simpa [trunkSetByte] using from_ 0

theorem optField_eq {w : Nat} (o : Option Nat) : optField w o = [.u8 (if o = none then 0 else 1), ⟨w, o⟩] := by
  rw [optField, bit_isSome]

/-! ### The outbound line (R10, R12) -/

/-- What is on a port's line in each link state (R2, R3). -/
theorem State.portLine_cases (s : State) (p : PortId) : let q := s.port p
    (q.link ≠ .up → s.portLine p = .training q.aligned)
      ∧ (q.link = .up → q.sending = none → s.portLine p = .idle)
      ∧ ∀ m, q.link = .up → q.sending = some m → s.portLine p = .message (PortMessage.wire m) := by
  intro q
  refine ⟨fun h => ?_, fun h hs => ?_, fun m h hs => ?_⟩
  · unfold State.portLine
    cases hl : (s.port p).link with
    | up => exact absurd hl h
    | _ => rfl
  · rw [State.portLine, show (s.port p).link = .up from h, show (s.port p).sending = none from hs]
  · rw [State.portLine, show (s.port p).link = .up from h, show (s.port p).sending = some m from hs]

/-- A transmission begun moves the count of messages with the port. -/
theorem State.setPort_fresh_comm (s : State) (p : PortId) (q : Port) (n : Nat) :
    { s.setPort p q with fresh := n } = State.setPort { s with fresh := n } p q := by cases p <;> rfl

theorem State.sendResponse_eq {s : State} {p : PortId} {r : Response} {rs : List Response}
    (h : (s.port p).responses = r :: rs) : s.sendResponse p r =
      State.setPort { s with fresh := s.fresh + 1 } p
        { s.port p with responses := rs, sending := some (r.message s.fresh) } := by
  rw [← State.setPort_fresh_comm, State.sendResponse, h]
  simp

theorem State.sendNotice_eq {s : State} {p : PortId} {n : QueuedNotice} {ns : List QueuedNotice}
    (h : (s.port p).notices = n :: ns) : s.sendNotice p n =
      State.setPort { s with fresh := s.fresh + 1 } p { s.port p with
        notices := ns, sending := some (n.message s.fresh (s.port p).overflow), overflow := false } := by
  rw [← State.setPort_fresh_comm, State.sendNotice, h]
  simp

theorem exec_outboundSend_free {p : PortId} {s : State} (hs : s.held = false) (hu : (s.port p).link = .up)
    (hf : (s.port p).sending = none) : exec (.outboundSend p) s = .next (s.sendNext p) := by
  simp only [exec, execOutboundSend, State.live_released s hs, hu, hf]

theorem exec_outboundSend_busy {p : PortId} {s : State} {m : PortMessage} (hs : s.held = false)
    (hu : (s.port p).link = .up) (hf : (s.port p).sending = some m) : exec (.outboundSend p) s = .next s := by
  simp only [exec, execOutboundSend, State.live_released s hs, hu, hf]

theorem exec_outboundSend_away {p : PortId} {s : State} (hs : s.held = false) (hu : (s.port p).link ≠ .up) :
    exec (.outboundSend p) s = .next s := by
  simp only [exec, execOutboundSend, State.live_released s hs]
  cases hl : (s.port p).link with
  | up => exact absurd hl hu
  | _ => rfl

theorem exec_outboundMessageSent_busy {p : PortId} {s : State} {m : PortMessage} (hs : s.held = false)
    (hu : (s.port p).link = .up) (hf : (s.port p).sending = some m) : exec (.outboundMessageSent p) s =
      .next (s.setPort p { s.port p with
        sending := none, credit := (s.port p).credit + if m.kind = 2 then 1 else 0 }) := by
  simp only [exec, execOutboundMessageSent, State.live_released s hs, hu, hf, bit, beq_iff_eq]

theorem exec_outboundMessageSent_free {p : PortId} {s : State} (hs : s.held = false)
    (hu : (s.port p).link = .up) (hf : (s.port p).sending = none) :
    exec (.outboundMessageSent p) s = .next s := by
  simp only [exec, execOutboundMessageSent, State.live_released s hs, hu, hf]

theorem exec_outboundMessageSent_away {p : PortId} {s : State} (hs : s.held = false)
    (hu : (s.port p).link ≠ .up) : exec (.outboundMessageSent p) s = .next s := by
  simp only [exec, execOutboundMessageSent, State.live_released s hs]
  cases hl : (s.port p).link with
  | up => exact absurd hl hu
  | _ => rfl

/-- The next message: nothing, the head response, or the head notice. -/
theorem State.sendNext_cases (s : State) (p : PortId) :
    ((s.port p).responses = [] → (s.port p).notices = [] → s.sendNext p = s)
    ∧ (∀ r rs, (s.port p).responses = r :: rs → (∀ n ∈ (s.port p).notices.head?, r.ready < n.ready) →
        s.sendNext p = s.sendResponse p r)
    ∧ ∀ n ns, (s.port p).notices = n :: ns → (∀ r ∈ (s.port p).responses.head?, n.ready ≤ r.ready) →
        s.sendNext p = s.sendNotice p n := by
  unfold State.sendNext
  refine ⟨fun hr hn => by rw [hr, hn], fun r rs hr hlt => ?_, fun n ns hn hle => ?_⟩
  · rw [hr]
    cases hn : (s.port p).notices with
    | nil => rfl
    | cons n ns => exact if_pos (hlt n (by rw [hn]; rfl))
  · rw [hn]
    cases hr : (s.port p).responses with
    | nil => rfl
    | cons r rs => exact if_neg (Nat.not_lt.2 (hle r (by rw [hr]; rfl)))

/-- Settles O10: layouts by the lemmas on bytes and bodies, codes by evaluation, and the two events of the line
by link state and by what is under transmission. -/
theorem outboundLineOrder : Obligations.OutboundLineOrder := by
  refine ⟨fun n r => ⟨rfl, rfl, rfl, toNat_code r.result.code_lt, rfl, rfl, rfl, BitVec.toNat_ofNat ..⟩,
    fun n o x => ⟨rfl, rfl, by cases o <;> rfl, toNat_code x.notice.code_lt, rfl, rfl, rfl, BitVec.toNat_ofNat ..⟩,
    PortMessage.wire_fields, rfl, fun t c x i h k q o n e home => ?_, rfl, rfl, rfl, rfl, State.portLine_cases,
    fun _ => rfl, fun n fs f => ?_, fun p s hs => ?_⟩
  · exact ⟨fun _ _ _ => ⟨rfl, rfl⟩, fun _ => ⟨rfl, rfl⟩, fun _ => ⟨rfl, rfl⟩, ⟨rfl, rfl⟩, fun _ _ => ⟨rfl, rfl⟩,
      fun _ => ⟨rfl, rfl⟩, ⟨rfl, rfl⟩, fun _ => ⟨rfl, by simp only [Notice.fields, optField_eq]; rfl⟩, ⟨rfl, rfl⟩,
      fun _ => ⟨rfl, rfl⟩, fun _ => ⟨rfl, by simp only [Notice.fields, optField_eq]; rfl⟩,
      fun _ _ => ⟨rfl, rfl⟩, fun _ _ => ⟨rfl, rfl⟩, ⟨rfl, rfl⟩,
      fun ts => ⟨rfl, trunkSetByte ts, rfl, testBit_trunkSetByte ts⟩⟩
  · have laid := layoutFrom_append (Config.absentByte n) 0 fs f
    simp only [Nat.zero_add] at laid
    exact ⟨_, laid, f.length_bytes .., f.bytes_value ..⟩
  · intro q more
    refine ⟨fun hu hf => ?_, fun m hu hf => ⟨exec_outboundSend_busy hs hu hf, exec_outboundMessageSent_busy hs hu hf⟩,
      fun hu => ⟨exec_outboundSend_away hs hu, exec_outboundMessageSent_away hs hu⟩⟩
    have sent := exec_outboundSend_free hs hu hf
    obtain ⟨idle, response, notice⟩ := s.sendNext_cases p
    exact ⟨fun hr hn => sent.trans (congrArg _ (idle hr hn)),
      fun r rs hr hlt => sent.trans (congrArg _ ((response r rs hr hlt).trans (State.sendResponse_eq hr))),
      fun n ns hn hle => sent.trans (congrArg _ ((notice n ns hn hle).trans (State.sendNotice_eq hn))),
      exec_outboundMessageSent_free hs hu hf⟩

end Sys2Proof.Machine
end


section
/-! PROOF. The commands that store settings and lists: LOAD_SET (R81), POLL_LIST_SET and POLL_URGENT (R61, R63),
TICKET_LOAD (R121). -/
namespace Sys2Proof.Machine

/-! ### LOAD_SET (R81) -/

/-- Settles O32: the length by the checks of R180, the two pairs by the command's own rule. -/
theorem loadSetChecked : Obligations.LoadSetChecked := by
  refine ⟨fun m s h hk hl => ?_, fun p m s h => ⟨fun hp => ?_, fun hs hc => ?_⟩⟩
  · have hr : refusal .W m = some .malformed := refusal_wrong_length .W .loadSet m hk h.code rfl hl
    rw [exec_portCommand (p := .W) (c := .loadSet) rfl, State.live_released s h.released,
      State.act_refused s _ _ m _ h hr]
  · refine exec_bare h ?_
    change loadSetRule m.body s = _
    unfold loadSetRule
    dsimp only
    split
    · rfl
    · exact if_pos (hp.resolve_left (by assumption))
  · refine exec_ok h ?_
    change loadSetRule m.body s = _
    exact (if_neg (Nat.not_le.2 hs)).trans (if_neg (Nat.not_le.2 hc))

/-! ### POLL_LIST_SET and POLL_URGENT (R61, R63) -/

theorem trunkOf_of_val {c : CellId} {t : TrunkId} (h : t.val = c / 32) : trunkOf c = t := trunkOf_eq_of_val c t h

/-- POLL_URGENT by what the cell and its trunk hold. -/
theorem pollUrgentRule_cases {b : List Byte} (s : State) {t : TrunkId} (ht : t.val = byteAt b 0 / 32) :
    pollUrgentRule b s =
      let c := byteAt b 0
      let r := s.trunk t
      if s.configured c = false then ⟨s, .noSuch, []⟩
      else if r.state = .off then ⟨s, .wrongState, []⟩
      else if c % 32 ∈ r.urgent then ⟨s, .ok, [.u8 1, .u8 r.urgent.length]⟩
      else if r.urgent.length < 4 then
        ⟨s.setTrunk t { r with urgent := r.urgent ++ [c % 32] }, .ok, [.u8 0, .u8 (r.urgent.length + 1)]⟩
      else ⟨s, .full, []⟩ := by
  unfold pollUrgentRule
  simp only [trunkOf_eq_of_val _ t ht, positionOf, urgentCapacity, Bool.not_eq_true', Trunk.addUrgent]
  congr 2
  by_cases hin : byteAt b 0 % 32 ∈ (s.trunk t).urgent
  · simp only [hin, if_true]
  · by_cases hlt : (s.trunk t).urgent.length < 4
    · simp [hin, hlt]
    · simp only [hin, hlt, if_false]

/-- Settles O31: the two rules by their cases. -/
theorem pollCommands : Obligations.PollCommands := by
  intro p m s
  refine ⟨fun t h ht => ⟨fun hbad => ?_, fun hn hl => ?_⟩, fun h t ht => ?_⟩
  · refine exec_bare h ((onTrunk_val _ t ht).trans (if_pos ?_))
    simpa [positionBytes] using hbad
  · refine exec_bare h ((onTrunk_val _ t ht).trans (if_neg ?_))
    rintro (hlong | hany)
    · omega
    · obtain ⟨pos, hpos, hlt⟩ := List.any_eq_true.1 hany
      have := hl pos hpos
      simp only [decide_eq_true_eq] at hlt
      omega
  · have rule := pollUrgentRule_cases (b := m.body) s ht
    refine ⟨fun hc => exec_bare h (rule.trans (if_pos hc)), fun hc hoff => exec_bare h ?_,
      fun hc hoff hin => exec_ok h ?_, fun hc hoff hin hlt => exec_ok h ?_,
      fun hc hoff hin hge => exec_bare h ?_⟩
    all_goals
      change pollUrgentRule m.body s = _
      have on : ¬ s.configured (byteAt m.body 0) = false := by rw [hc]; decide
      rw [rule]
      refine (if_neg on).trans ?_
    · exact if_pos hoff
    · exact (if_neg hoff).trans (if_pos hin)
    · exact (if_neg hoff).trans ((if_neg hin).trans (if_pos hlt))
    · exact (if_neg hoff).trans ((if_neg hin).trans (if_neg (Nat.not_lt.2 hge)))

/-! ### TICKET_LOAD (R121) -/

/-- A tier field holds a tier when it is 1 or 2. -/
theorem tierField_eq (n : Nat) : tierField n = if n = 1 then some .lean else if n = 2 then some .full else none := by
  match n with
  | 0 => rfl
  | 1 => rfl
  | 2 => rfl
  | n + 3 => simp [tierField]

/-- A batch answers the results of its entries, each against the table that those before it have left: `run`
gives the states and results along the batch. -/
theorem loadEntries_run {b : List Byte} {run : Nat → State × Result}
    (h : ∀ n, (run n).1.loadEntry b (entryOffset n) = run (n + 1)) (left n : Nat) :
    (run n).1.loadEntries b n left
      = ((run (n + left)).1, (List.range' n left).map fun j => .u8 (run (j + 1)).2.code) := by
  induction left generalizing n with
  | zero => rfl
  | succ left ih =>
    rw [State.loadEntries_succ _ b n left (h n), ih (n + 1), List.range'_succ, List.map_cons,
      Nat.add_assoc n 1 left, Nat.add_comm 1 left]

/-- The run of a batch from a state. -/
def loadRun (b : List Byte) (s : State) : Nat → State × Result
  | 0 => (s, .ok)
  | n + 1 => (loadRun b s n).1.loadEntry b (entryOffset n)

theorem loadRun_succ (b : List Byte) (s : State) (n : Nat) :
    (loadRun b s n).1.loadEntry b (entryOffset n) = loadRun b s (n + 1) := rfl

theorem loadRun_zero (b : List Byte) (s : State) : (loadRun b s 0).1 = s := rfl

/-- TICKET_LOAD of at most 16 entries. -/
theorem ticketLoadRule_run {b : List Byte} {run : Nat → State × Result}
    (h : ∀ n, (run n).1.loadEntry b (entryOffset n) = run (n + 1)) (hb : byteAt b 0 ≤ 16) :
    ticketLoadRule b (run 0).1 = ⟨(run (byteAt b 0)).1, .ok,
      (List.range (byteAt b 0)).map fun j => .u8 (run (j + 1)).2.code⟩ := by
  have batch := loadEntries_run h (byteAt b 0) 0
  rw [Nat.zero_add, ← List.range_eq_range'] at batch
  rw [ticketLoadRule, if_neg (Nat.not_lt.2 hb), batch]

/-- Settles O42: the checks of one entry in their order, and a batch as the run of its entries. -/
theorem ticketLoadDecidesEntries : Obligations.TicketLoadDecidesEntries := by
  refine ⟨fun s b o => ?_, fun p m s h => ⟨fun hb => ?_, fun hb => ?_⟩⟩
  · intro k tier bad
    have split_bad : bad ↔ State.badEntry b o ∨ tierField tier = none := by
      simp only [bad, State.badEntry, tierField_eq, k]
      constructor
      · rintro (h | h | ⟨h1, h2⟩ | h)
        · exact .inl (.inl h)
        · exact .inl (.inr (.inl h))
        · exact .inr (by rw [if_neg h1, if_neg h2])
        · exact .inl (.inr (.inr h))
      · rintro ((h | h | h) | h)
        · exact .inl h
        · exact .inr (.inl h)
        · exact .inr (.inr (.inr h))
        · refine .inr (.inr (.inl ⟨fun h1 => ?_, fun h2 => ?_⟩))
          · rw [if_pos h1] at h; cases h
          · rw [h2] at h; cases h
    refine ⟨fun h => ?_, fun hn ht => ?_, fun hn ht hf => ?_, fun hn ht hf => ?_⟩
    · obtain h | h := split_bad.1 h
      · exact s.loadEntry_of_bad h
      · exact s.loadEntry_of_no_tier h
    all_goals
      have good : ¬ State.badEntry b o := fun h => hn (split_bad.2 (.inl h))
      obtain ⟨l, hl⟩ := Option.ne_none_iff_exists'.1 fun h => hn (split_bad.2 (.inr h))
      rw [s.loadEntry_of_tier good hl]
    · exact if_pos (Option.isSome_iff_ne_none.2 ht)
    · have empty : ¬ (s.ticket? k).isSome := by rw [ht]; decide
      exact (if_neg empty).trans (if_pos hf)
    · have empty : ¬ (s.ticket? k).isSome := by rw [ht]; decide
      refine (if_neg empty).trans ((if_neg (Nat.not_le.2 hf)).trans ?_)
      have hlevel : l = if tier = 2 then .full else .lean := by
        have := tierField_eq tier
        rw [hl] at this
        split at this
        · simp_all
        · split at this <;> simp_all
      rw [hlevel]
      rfl
  · exact exec_bare h (if_pos hb)
  · have rule := ticketLoadRule_run (loadRun_succ m.body s) hb
    rw [loadRun_zero] at rule
    exact ⟨loadRun m.body s, loadRun_zero .., fun n _ => (loadRun_succ m.body s n).symm, exec_ok h rule⟩

end Sys2Proof.Machine
end


section
/-! PROOF. A tier recompute with its TIER_UPDATE (R140), said once; unbinding (R123), the gate commands (R125 to
R127), TICKET_CLEAR (R129), and the end of a seat grace (R97). -/
namespace Sys2Proof.Machine

/-! ### A tier recompute (R140) -/

/-- What a tier recompute may change, its message left out. -/
abbrev retierViews : List View := [.stations, .station .tier, .fan, .demand, .portV]

/-- A change of stations, fan-out counts, demand and Port V, as an equation on the state. -/
theorem State.Touches.fanFrame {F : List View} {s u : State} (h : s.Touches F u)
    (hF : F ⊆ .station .binding :: .station .grace :: .station .subs :: retierViews) :
    u = { s with stations := u.stations, fan := u.fan, demand := u.demand
                 ports := { s.ports with v := u.ports.v } } :=
  (h.mono hF).eq_frame.trans rfl

theorem State.station?_recomputeEach (s : State) (ks : List StreamId) (i : StationIx) :
    (s.recomputeEach ks).station? i = s.station? i :=
  (State.recomputeEach_touches (G := [.demand, .portV]) s ks).station? i

/-- A tier that stays as it is: the recompute does nothing. -/
theorem State.recomputeTier_same {s : State} {i : StationIx} {r : Station} (hr : s.station? i = some r)
    (h : s.tierOf r.binding r.cell = r.tier) : s.recomputeTier i = (s, none) := by
  rw [State.recomputeTier, hr]
  exact if_pos h

/-- A tier that changes: the counts move, the tier is stored, the demand of the listed streams is recomputed. -/
theorem State.recomputeTier_changed {s : State} {i : StationIx} {r : Station} (hr : s.station? i = some r)
    (h : s.tierOf r.binding r.cell ≠ r.tier) : s.recomputeTier i =
      ((((s.leaveCounts r.cell r.tier r.subs).joinCounts r.cell (s.tierOf r.binding r.cell) r.subs).putStation i
        { r with tier := s.tierOf r.binding r.cell }).recomputeEach r.subs, some (s.tierOf r.binding r.cell)) := by
  rw [State.recomputeTier, hr]
  exact if_neg h

/-- The station after a tier recompute has the tier of its binding and cell. -/
theorem State.station?_recomputeTier {s : State} {i : StationIx} {r : Station} (hr : s.station? i = some r)
    (j : StationIx) : (s.recomputeTier i).1.station? j =
      if j = i then some { r with tier := s.tierOf r.binding r.cell } else s.station? j := by
  by_cases h : s.tierOf r.binding r.cell = r.tier
  · rw [State.recomputeTier_same hr h, h]
    split
    · subst_vars; exact hr
    · rfl
  · rw [State.recomputeTier_changed hr h, State.station?_recomputeEach, State.station?_putStation]
    congr 1
    rw [State.joinCounts_frame, State.leaveCounts_frame]
    rfl

/-- The message of a changed tier goes to the station's current cell. -/
theorem State.tellTier_some {s : State} {i : StationIx} {r : Station} (hr : s.station? i = some r) (l : Level) :
    s.tellTier i (some l) = s.tell r.cell (.tierUpdate i l) := by
  unfold State.tellTier
  rw [hr]

/-- A tier recompute with its message: the recompute, then TIER_UPDATE to the station's cell where the tier has
changed. -/
theorem State.retier_eq {s : State} {i : StationIx} {r : Station} (hr : s.station? i = some r) : s.retier i =
    (s.recomputeTier i).1.tierTold i r.cell r.tier (s.tierOf r.binding r.cell) := by
  unfold State.retier State.tierTold
  by_cases h : s.tierOf r.binding r.cell = r.tier
  · rw [State.recomputeTier_same hr h, if_pos h]
    rfl
  · have stored := State.station?_recomputeTier hr i
    rw [if_pos rfl] at stored
    rw [if_neg h]
    rw [State.recomputeTier_changed hr h] at stored ⊢
    exact State.tellTier_some stored _

theorem State.tierTold_touches {G : List View} (s : State) (i : StationIx) (c : CellId) (a b : Level)
    (hG : messageViews ⊆ G := by exact View.subset_of (by decide +kernel)) : s.Touches G (s.tierTold i c a b) := by
  unfold State.tierTold
  split
  · exact .refl _ _
  · exact State.tell_touches _ _ _ hG

/-! ### Unbinding (R123) -/

/-- The tier of an UNBOUND station. -/
theorem State.tierOf_unbound (s : State) (c : CellId) : s.tierOf .unbound c = s.tierUnbound c := by
  unfold State.tierOf State.tierUnbound
  cases h : (s.cell c).kind <;> simp [h]

theorem Station.unbind_eq (r : Station) (now : Time) (k : CellKind) : r.unbind now k =
    { r with binding := .unbound, grace := if k = .seat then some now else none } := by
  cases k <;> rfl

/-- A station's record replaced and its tier recomputed, the TIER_UPDATE left out. -/
def State.rebind (s : State) (i : StationIx) (q : Station) : State := (State.recomputeTier (s.putStation i q) i).1

theorem State.put_retier_eq (s : State) (i : StationIx) (q : Station) : (s.putStation i q).retier i =
    (s.rebind i q).tierTold i q.cell q.tier (s.tierOf q.binding q.cell) := by
  have put : (s.putStation i q).station? i = some q := by rw [State.station?_putStation, if_pos rfl]
  exact State.retier_eq put

theorem State.station?_rebind (s : State) (i : StationIx) (q : Station) (j : StationIx) :
    (s.rebind i q).station? j =
      if j = i then some { q with tier := s.tierOf q.binding q.cell } else s.station? j := by
  have put : (s.putStation i q).station? i = some q := by rw [State.station?_putStation, if_pos rfl]
  rw [State.rebind, State.station?_recomputeTier put, State.station?_putStation]
  split <;> rfl

/-- A record replaced in its binding and seat-grace start, and its tier. -/
theorem State.rebind_touches {s : State} {i : StationIx} {r : Station} (hr : s.station? i = some r) (b : Binding)
    (g : Option Time) : s.Touches (.station .binding :: .station .grace :: retierViews)
      (s.rebind i { r with binding := b, grace := g }) := by
  refine .trans (State.putStation_touches s i r _ hr (fun x hx => ?_) (View.mem_of (by decide +kernel)))
    (State.recomputeTier_touches ..)
  cases x <;> simp at hx <;> rfl

/-- The record of a station that has been unbound, its tier not yet recomputed. -/
def State.unboundRecord (s : State) (r : Station) : Station :=
  { r with binding := .unbound, grace := if (s.cell r.cell).kind = .seat then some s.now else none }

theorem State.unbindStation_eq {s : State} {i : StationIx} {r : Station} (hr : s.station? i = some r) :
    s.unbindStation i = (s.rebind i (s.unboundRecord r)).tierTold i r.cell r.tier (s.tierUnbound r.cell) := by
  rw [State.unbindStation, hr]
  refine (State.put_retier_eq s i _).trans ?_
  rw [Station.unbind_eq]
  exact congrArg (State.tierTold _ i r.cell r.tier) (s.tierOf_unbound r.cell)

/-- What an unbinding does to the holder, and its message behind. -/
theorem State.unbindStation_says {s : State} {h : StationIx} {r : Station} (hr : s.station? h = some r) :
    let u := s.unbindStation h
    u.station? h = some { s.unboundRecord r with tier := s.tierUnbound r.cell }
      ∧ (∀ j, j ≠ h → u.station? j = s.station? j)
      ∧ ∃ w : State, u = w.tierTold h r.cell r.tier (s.tierUnbound r.cell)
        ∧ w = { s with stations := u.stations, fan := w.fan, demand := w.demand
                       ports := { s.ports with v := w.ports.v } } := by
  intro u
  have told := State.tierTold_touches (G := messageViews) (s.rebind h (s.unboundRecord r)) h r.cell r.tier
    (s.tierUnbound r.cell)
  rw [← State.unbindStation_eq hr] at told
  have read : ∀ j, u.station? j = _ := fun j => (told.station? j).trans (s.station?_rebind h _ j)
  have tier : s.tierOf (s.unboundRecord r).binding (s.unboundRecord r).cell = s.tierUnbound r.cell :=
    s.tierOf_unbound r.cell
  rw [tier] at read
  refine ⟨(read h).trans (if_pos rfl), fun j hj => (read j).trans (if_neg hj), _, State.unbindStation_eq hr, ?_⟩
  have kept : u.stations = (s.rebind h (s.unboundRecord r)).stations := told.stations
  rw [kept]
  exact (State.rebind_touches hr ..).fanFrame (View.subset_of (by decide +kernel))

/-! ### The gate commands (R124 to R127) -/

theorem State.stale_iff {s : State} {h : StationIx} {r : Station} (hr : s.station? h = some r) :
    s.stale h = true ↔ s.timers.window * 250 ≤ elapsed s.now r.lastHeard := by
  rw [State.stale, decide_eq_true_eq, State.windowUnits, State.unheardFor_some hr]
  rfl

/-- GATE_ADMIT by the state of its ticket (R125). -/
theorem gateAdmitRule_at {m : PortMessage} {s : State} {x : Ticket} (h : s.ticket? (tokenOf m) = some x) :
    gateAdmitRule m.body s = match x.state with
      | .issued | .exited => ⟨s.putTicket (tokenOf m) x.enter, .ok, gateBody 0 x.enter⟩
      | .admitted => ⟨s, .ok, gateBody 1 x⟩
      | .seated h =>
        if s.stale h then
          ⟨(s.putTicket (tokenOf m) x.enter).unbindStation h, .ok,
            gateBody 3 x.enter ++ [.u16 h, .u8 (s.cellOf h)]⟩
        else ⟨s, .ok, gateBody 2 x ++ [.u16 h, .u8 (s.cellOf h), .u32 (s.unheardFor h)]⟩
      | .void => ⟨s, .ok, gateBody 4 x⟩ := onTicket_some _ x h

/-- GATE_EXIT by the state of its ticket (R126). -/
theorem gateExitRule_at {m : PortMessage} {s : State} {x : Ticket} (h : s.ticket? (tokenOf m) = some x) :
    gateExitRule m.body s = match x.state with
      | .admitted => ⟨s.putTicket (tokenOf m) { x with state := .exited }, .ok, holderFields none⟩
      | .seated h =>
        ⟨(s.putTicket (tokenOf m) { x with state := .exited }).unbindStation h, .ok,
          holderFields (some (h, s.cellOf h))⟩
      | .issued => ⟨s, .wrongState, []⟩
      | .exited => ⟨s, .wrongState, []⟩
      | .void => ⟨s, .wrongState, []⟩ := onTicket_some _ x h

/-- TICKET_VOID by the state of its ticket (R127). -/
theorem ticketVoidRule_at {m : PortMessage} {s : State} {x : Ticket} (h : s.ticket? (tokenOf m) = some x) :
    ticketVoidRule m.body s = match x.state with
      | .seated h =>
        ⟨(s.putTicket (tokenOf m) { x with state := .void }).unbindStation h, .ok,
          holderFields (some (h, s.cellOf h))⟩
      | .issued | .admitted | .exited =>
        ⟨s.putTicket (tokenOf m) { x with state := .void }, .ok, holderFields none⟩
      | .void => ⟨s, .ok, holderFields none⟩ := onTicket_some _ x h

/-- Settles O43: each command by the state of the ticket that its body names, and the unbinding. -/
theorem gateCommandsDecide : Obligations.GateCommandsDecide := by
  refine ⟨fun p m s x hx => ?_, fun s h r hr => State.unbindStation_says hr⟩
  have admitted := gateAdmitRule_at hx
  have exited := gateExitRule_at hx
  have voided := ticketVoidRule_at hx
  intro k entered none_
  refine ⟨fun ht => ⟨fun hs => ?_, fun hs => ?_, fun hs => ?_, fun h r hs hr => ⟨fun hw => ?_, fun hw => ?_⟩⟩,
    fun ht => ⟨fun hs => ?_, fun hs => ?_, fun h r hs hr => ?_⟩,
    fun ht => ⟨fun hs => ?_, fun hs => ?_, fun h r hs hr => ?_⟩⟩
  · obtain hs | hs := hs <;> rw [hs] at admitted <;> exact exec_ok ht admitted
  · rw [hs] at admitted
    exact (exec_ok ht admitted).trans (by rw [gateBody, hs]; rfl)
  · rw [hs] at admitted
    exact (exec_ok ht admitted).trans (by rw [gateBody, hs]; rfl)
  · have fresh : ¬ s.stale h = true := fun hst => absurd ((State.stale_iff hr).1 hst) (Nat.not_le.2 hw)
    rw [hs] at admitted
    refine (exec_ok ht (admitted.trans (if_neg fresh))).trans ?_
    rw [gateBody, hs, State.cellOf_some hr, State.unheardFor_some hr]
    rfl
  · rw [hs] at admitted
    refine (exec_ok ht (admitted.trans (if_pos ((State.stale_iff hr).2 hw)))).trans ?_
    rw [State.cellOf_some hr]
    rfl
  · rw [hs] at exited
    exact exec_ok ht exited
  · obtain hs | hs | hs := hs <;> rw [hs] at exited <;> exact exec_bare ht exited
  · rw [hs] at exited
    refine (exec_ok ht exited).trans ?_
    rw [State.cellOf_some hr]
    rfl
  · obtain hs | hs | hs := hs <;> rw [hs] at voided <;> exact exec_ok ht voided
  · rw [hs] at voided
    exact exec_ok ht voided
  · rw [hs] at voided
    refine (exec_ok ht voided).trans ?_
    rw [State.cellOf_some hr]
    rfl

/-! ### Messages to cells stand apart from counts, tiers and demand -/

/-- The control queues, the error flags and Port W of another state. -/
def State.graft (s a : State) : State := { s with trunks := a.trunks, ports := { s.ports with w := a.ports.w } }

/-- Two states whose trunks are in the same states. -/
def State.Alike (s a : State) : Prop := ∀ t, (a.trunk t).state = (s.trunk t).state

/-- Two states with the same trunks, Port W and clock. -/
structure State.Beside (s u : State) : Prop where
  trunks : u.trunks = s.trunks
  portW : u.ports.w = s.ports.w
  now : u.now = s.now

theorem State.Beside.trunk {s u : State} (h : s.Beside u) (t : TrunkId) : u.trunk t = s.trunk t := by
  unfold State.trunk
  rw [h.trunks]

theorem State.Beside.setTrunk {s u : State} (h : s.Beside u) (t : TrunkId) (r : Trunk) :
    (s.setTrunk t r).Beside (u.setTrunk t r) :=
  ⟨congrArg (fun v : Vector Trunk 8 => v.set t.val r) h.trunks, h.portW, h.now⟩

/-- A trunk written in the one state is the trunk written in the other, grafted. -/
theorem State.Beside.setTrunk_graft {s u : State} (h : s.Beside u) (t : TrunkId) (r : Trunk) :
    u.setTrunk t r = u.graft (s.setTrunk t r) := by
  obtain ⟨ht, hw, hn⟩ := h
  obtain ⟨_, _, ⟨_, _, _⟩, _, _, _, _, _, _, _, _, _, _, _, _, _, _, _, _, _, _⟩ := u
  simp only at ht hw
  subst ht hw
  rfl

theorem State.Beside.notify {s u : State} (h : s.Beside u) (n : Notice) :
    u.notify .W n = u.graft (s.notify .W n) := by
  obtain ⟨ht, hw, hn⟩ := h
  obtain ⟨_, _, ⟨_, _, _⟩, _, _, _, _, _, _, _, _, _, _, _, _, _, _, _, _, _, _⟩ := u
  simp only at ht hw hn
  subst ht hw hn
  unfold State.notify State.port
  dsimp only
  by_cases hr : s.ports.w.notices.length < noticeCapacity
  · rw [if_pos hr, if_pos hr]
    rfl
  · rw [if_neg hr, if_neg hr]
    rfl

theorem State.Beside.raiseFlag {s u : State} (h : s.Beside u) (t : TrunkId) (f : ErrorFlag) :
    u.raiseFlag t f = u.graft (s.raiseFlag t f) := by
  unfold State.raiseFlag
  dsimp only
  rw [h.trunk]
  by_cases hf : (s.trunk t).flags.get f
  · rw [if_pos hf, if_pos hf, State.graft, ← h.trunks, ← h.portW]
  · rw [if_neg hf, if_neg hf, (h.setTrunk t _).notify]
    rfl

/-- A message is appended by what the trunks, Port W and the clock hold. -/
theorem State.Beside.append {s u : State} (h : s.Beside u) (t : TrunkId) (m : Ctl) :
    u.append t m = u.graft (s.append t m) := by
  unfold State.append
  dsimp only
  rw [h.trunk]
  by_cases hs : (s.trunk t).state.serving
  · rw [if_pos hs, if_pos hs]
    by_cases hc : (s.trunk t).control.length < controlCapacity
    · rw [if_pos hc, if_pos hc, h.setTrunk_graft]
    · rw [if_neg hc, if_neg hc, h.raiseFlag]
  · rw [if_neg hs, if_neg hs, State.graft, ← h.trunks, ← h.portW]

theorem State.alike_append (s : State) (t : TrunkId) (m : Ctl) : s.Alike (s.append t m) :=
  fun x => (State.append_touches (G := messageViews) s t m).trunk .state x

theorem State.trunkDemand_graft {s a : State} (h : s.Alike a) (t : TrunkId) (k : StreamId) :
    (s.graft a).trunkDemand t k = s.trunkDemand t k := by
  have ht : ((s.graft a).trunk t).state = (s.trunk t).state := h t
  unfold State.trunkDemand
  rw [ht]
  rfl

theorem State.highestDemand_graft {s a : State} (h : s.Alike a) (k : StreamId) :
    (s.graft a).highestDemand k = s.highestDemand k := by
  simp only [State.highestDemand, State.trunkDemand_graft h]

theorem State.notify_graft (s a : State) (n : Notice) :
    (s.graft a).notify .V n = (s.notify .V n).graft a := by
  by_cases hr : s.ports.v.notices.length < noticeCapacity
  · refine (if_pos hr).trans ?_
    rw [State.notify, if_pos (show (s.port .V).notices.length < _ from hr)]
    rfl
  · refine (if_neg hr).trans ?_
    rw [State.notify, if_neg (show ¬ (s.port .V).notices.length < _ from hr)]
    rfl

theorem State.recompute_graft {s a : State} (h : s.Alike a) (k : StreamId) :
    (s.graft a).recompute k = (s.recompute k).graft a := by
  unfold State.recompute
  dsimp only
  rw [State.highestDemand_graft h]
  by_cases he : s.highestDemand k = s.sectorDemand k
  · exact (if_pos he).trans (congrArg (State.graft · a) (if_pos he).symm)
  · refine (if_neg he).trans (Eq.trans ?_ (congrArg (State.graft · a) (if_neg he).symm))
    exact State.notify_graft (s.setDemand k _) a _

theorem State.alike_recompute {s a : State} (h : s.Alike a) (k : StreamId) : (s.recompute k).Alike a := by
  have kept := (State.recompute_touches (G := [.demand, .portV]) s k).trunkAll
  exact fun t => (h t).trans (congrArg Trunk.state (kept t).symm)

theorem State.recomputeEach_graft {s a : State} (h : s.Alike a) (ks : List StreamId) :
    (s.graft a).recomputeEach ks = (s.recomputeEach ks).graft a := by
  induction ks generalizing s with
  | nil => rfl
  | cons k ks ih =>
    change ((s.graft a).recompute k).recomputeEach ks = ((s.recompute k).recomputeEach ks).graft a
    rw [State.recompute_graft h, ih (State.alike_recompute h k)]

theorem State.setCounts_graft (s a : State) (c : CellId) (k : StreamId) (n : Counts) :
    (s.graft a).setCounts c k n = (s.setCounts c k n).graft a := by
  unfold State.setCounts
  split <;> rfl

theorem State.joinCounts_graft (s a : State) (c : CellId) (l : Level) (ks : List StreamId) :
    (s.graft a).joinCounts c l ks = (s.joinCounts c l ks).graft a := by
  induction ks generalizing s with
  | nil => rfl
  | cons k ks ih =>
    change State.joinCounts ((s.graft a).setCounts c k ((s.counts c k).inc l)) c l ks = _
    rw [State.setCounts_graft, ih]
    rfl

theorem State.leaveCounts_graft (s a : State) (c : CellId) (l : Level) (ks : List StreamId) :
    (s.graft a).leaveCounts c l ks = (s.leaveCounts c l ks).graft a := by
  induction ks generalizing s with
  | nil => rfl
  | cons k ks ih =>
    change State.leaveCounts ((s.graft a).setCounts c k ((s.counts c k).dec l)) c l ks = _
    rw [State.setCounts_graft, ih]
    rfl

theorem State.recomputeTier_graft {s a : State} (h : s.Alike a) (i : StationIx) :
    ((s.graft a).recomputeTier i).1 = (s.recomputeTier i).1.graft a := by
  cases hr : s.station? i with
  | none =>
    have hg : (s.graft a).station? i = none := hr
    rw [State.recomputeTier, hg, State.recomputeTier, hr]
  | some r =>
    have hg : (s.graft a).station? i = some r := hr
    by_cases he : s.tierOf r.binding r.cell = r.tier
    · rw [State.recomputeTier_same hr he, State.recomputeTier_same hg he]
    · have leave := State.leaveCounts_touches (G := [.fan]) s r.cell r.tier r.subs
      have both := leave.trans (State.joinCounts_touches _ r.cell (s.tierOf r.binding r.cell) r.subs)
      have alike : State.Alike (((s.leaveCounts r.cell r.tier r.subs).joinCounts r.cell
          (s.tierOf r.binding r.cell) r.subs).putStation i { r with tier := s.tierOf r.binding r.cell }) a :=
        fun t => (h t).trans (congrArg Trunk.state (both.trunkAll t).symm)
      rw [State.recomputeTier_changed hr he, State.recomputeTier_changed hg he, State.leaveCounts_graft,
        State.joinCounts_graft]
      exact State.recomputeEach_graft alike r.subs

theorem State.rebind_graft {s a : State} (h : s.Alike a) (i : StationIx) (q : Station) :
    (s.graft a).rebind i q = (s.rebind i q).graft a :=
  State.recomputeTier_graft (s := s.putStation i q) h i

/-- A change of what no message looks at, made before or after a message. -/
theorem State.append_comm {f : State → State} {s : State} (t : TrunkId) (m : Ctl)
    (graft : ∀ a, s.Alike a → f (s.graft a) = (f s).graft a) (h : s.Beside (f s)) :
    f (s.append t m) = (f s).append t m := by
  have self : s.append t m = s.graft (s.append t m) := State.Beside.append ⟨rfl, rfl, rfl⟩ t m
  rw [h.append t m, ← graft _ (s.alike_append t m), ← self]

/-- A tier told before or after a change of what no message looks at. -/
theorem State.tierTold_comm {f : State → State} {s : State} (i : StationIx) (c : CellId) (x y : Level)
    (graft : ∀ a, s.Alike a → f (s.graft a) = (f s).graft a) (h : s.Beside (f s)) :
    f (s.tierTold i c x y) = (f s).tierTold i c x y := by
  unfold State.tierTold
  split
  · rfl
  · exact State.append_comm _ _ graft h

/-- A station rebound before or after a tier is told. -/
theorem State.rebind_tierTold {s : State} {j : StationIx} {r : Station} (hr : s.station? j = some r) (b : Binding)
    (g : Option Time) (i : StationIx) (c : CellId) (x y : Level) :
    (s.tierTold i c x y).rebind j { r with binding := b, grace := g }
      = (s.rebind j { r with binding := b, grace := g }).tierTold i c x y := by
  have touched := State.rebind_touches hr b g
  exact State.tierTold_comm (f := (State.rebind · j _)) i c x y (fun a h => State.rebind_graft h j _)
    ⟨touched.trunks, touched.portW, touched.now⟩

/-! ### Stations rebound one after another -/

/-- The tiers told of some stations, in order. -/
def State.tellTiers (w : State) (L : List (StationIx × Station)) (tier : Station → Level) : State :=
  L.foldl (fun w e => w.tierTold e.1 e.2.cell e.2.tier (tier e.2)) w

/-- Some stations rebound, in order, their TIER_UPDATEs left out. -/
def State.rebindAll (w : State) (L : List (StationIx × Station)) (b : Station → Binding)
    (g : Station → Option Time) : State :=
  L.foldl (fun w e => w.rebind e.1 { e.2 with binding := b e.2, grace := g e.2 }) w

theorem State.rebindAll_touches (b : Station → Binding) (g : Station → Option Time)
    (L : List (StationIx × Station)) (hL : (L.map Prod.fst).Nodup) (w : State)
    (hw : ∀ e ∈ L, w.station? e.1 = some e.2) :
    w.Touches (.station .binding :: .station .grace :: retierViews) (w.rebindAll L b g) := by
  induction L generalizing w with
  | nil => exact .refl _ _
  | cons e L ih =>
    obtain ⟨he, hL⟩ := List.nodup_cons.1 hL
    refine .trans (State.rebind_touches (hw e List.mem_cons_self) _ _) (ih hL _ fun d hd => ?_)
    rw [State.station?_rebind, if_neg, hw d (List.mem_cons_of_mem _ hd)]
    exact fun h => he (h ▸ List.mem_map_of_mem hd)

/-- The rebound records; the other stations stand as they were. -/
theorem State.station?_rebindAll (b : Station → Binding) (g : Station → Option Time)
    (L : List (StationIx × Station)) (hL : (L.map Prod.fst).Nodup) (w : State)
    (hw : ∀ e ∈ L, w.station? e.1 = some e.2) :
    (∀ e ∈ L, (w.rebindAll L b g).station? e.1 = some
        { e.2 with binding := b e.2, grace := g e.2, tier := w.tierOf (b e.2) e.2.cell })
      ∧ ∀ j, j ∉ L.map Prod.fst → (w.rebindAll L b g).station? j = w.station? j := by
  induction L generalizing w with
  | nil => exact ⟨nofun, fun _ _ => rfl⟩
  | cons e L ih =>
    obtain ⟨he, hL⟩ := List.nodup_cons.1 hL
    have step := w.station?_rebind e.1 { e.2 with binding := b e.2, grace := g e.2 }
    have touched := State.rebind_touches (hw e List.mem_cons_self) (b e.2) (g e.2)
    have tiers : ∀ x c, State.tierOf (w.rebind e.1 { e.2 with binding := b e.2, grace := g e.2 }) x c = w.tierOf x c :=
      fun x c => by unfold State.tierOf State.cell State.ticket?; rw [touched.cells, touched.tickets]
    obtain ⟨rebound, others⟩ := ih hL (w.rebind e.1 { e.2 with binding := b e.2, grace := g e.2 }) fun d hd => by
      rw [step, if_neg, hw d (List.mem_cons_of_mem _ hd)]
      exact fun h => he (h ▸ List.mem_map_of_mem hd)
    refine ⟨fun d hd => ?_, fun j hj => ?_⟩
    · obtain rfl | hd := List.mem_cons.1 hd
      · exact (others d.1 he).trans ((step d.1).trans (if_pos rfl))
      · exact (rebound d hd).trans (by rw [tiers])
    · obtain ⟨hne, hj⟩ := not_or.1 ((not_congr List.mem_cons).1 hj)
      exact (others j hj).trans ((step j).trans (if_neg hne))

/-- Rebinding stations before or after a tier is told. -/
theorem State.rebindAll_tierTold (b : Station → Binding) (g : Station → Option Time)
    (L : List (StationIx × Station)) (hL : (L.map Prod.fst).Nodup) (w : State)
    (hw : ∀ e ∈ L, w.station? e.1 = some e.2) (i : StationIx) (c : CellId) (x y : Level) :
    (w.tierTold i c x y).rebindAll L b g = (w.rebindAll L b g).tierTold i c x y := by
  induction L generalizing w with
  | nil => rfl
  | cons e L ih =>
    obtain ⟨he, hL⟩ := List.nodup_cons.1 hL
    have first := State.rebind_tierTold (hw e List.mem_cons_self) (b e.2) (g e.2) i c x y
    refine (congrArg (State.rebindAll · L b g) first).trans (ih hL _ fun d hd => ?_)
    rw [State.station?_rebind, if_neg, hw d (List.mem_cons_of_mem _ hd)]
    exact fun h => he (h ▸ List.mem_map_of_mem hd)

/-- **Stations rebound in turn, each with its TIER_UPDATE at once**: all rebound first, the tiers told behind. -/
theorem State.each_rebind {s : State} {f : State → StationIx → State} {b : Station → Binding}
    {g : Station → Option Time}
    (hf : ∀ (w : State) i r, w.now = s.now → w.cells = s.cells → w.station? i = some r →
      f w i = State.retier (w.putStation i { r with binding := b r, grace := g r }) i)
    (L : List (StationIx × Station)) (hL : (L.map Prod.fst).Nodup) (w : State) (hn : w.now = s.now)
    (hc : w.cells = s.cells) (ht : w.tickets = s.tickets) (hw : ∀ e ∈ L, w.station? e.1 = some e.2) :
    w.each (L.map Prod.fst) f
      = (w.rebindAll L b g).tellTiers L fun r => s.tierOf (b r) r.cell := by
  induction L generalizing w with
  | nil => rfl
  | cons e L ih =>
    have he := hw e List.mem_cons_self
    have nodup := List.nodup_cons.1 hL
    have first := (hf w e.1 e.2 hn hc he).trans (w.put_retier_eq e.1 _)
    have tier : w.tierOf (b e.2) e.2.cell = s.tierOf (b e.2) e.2.cell := by
      unfold State.tierOf State.cell State.ticket?; rw [hc, ht]
    have rebound := State.rebind_touches he (b e.2) (g e.2)
    have told := State.tierTold_touches (G := messageViews)
      (w.rebind e.1 { e.2 with binding := b e.2, grace := g e.2 }) e.1 e.2.cell e.2.tier (s.tierOf (b e.2) e.2.cell)
    have rest : ∀ d ∈ L, (w.rebind e.1 { e.2 with binding := b e.2, grace := g e.2 }).station? d.1 = some d.2 :=
      fun d hd => by
        rw [State.station?_rebind, if_neg, hw d (List.mem_cons_of_mem _ hd)]
        exact fun h => nodup.1 (h ▸ List.mem_map_of_mem hd)
    have later := ih nodup.2 _ (told.now.trans (rebound.now.trans hn)) (told.cells.trans (rebound.cells.trans hc))
      (told.tickets.trans (rebound.tickets.trans ht)) fun d hd => (told.station? d.1).trans (rest d hd)
    rw [List.map_cons, State.each_cons, first]
    change State.each (State.tierTold _ e.1 e.2.cell e.2.tier (w.tierOf (b e.2) e.2.cell)) _ _ = _
    rw [tier, later, State.rebindAll_tierTold b g L nodup.2 _ rest]
    rfl

end Sys2Proof.Machine
end


section
/-! PROOF. Events that rebind stations: TICKET_CLEAR (R129), the end of a seat grace and of a steer-hold (R97, R99),
and a cell whose kind or section has changed (R58). -/
namespace Sys2Proof.Machine

/-! ### Stations listed -/

theorem nodup_keys {α : Type} {l : List (Nat × α)} (h : risingFrom none l = true) (q : Nat × α → Bool) :
    ((l.filter q).map Prod.fst).Nodup := by
  have rising := (pairwise_of_rising l h).filter q
  exact (List.pairwise_map.2 rising).imp Nat.ne_of_lt

theorem State.station?_of_mem {s : State} (h : s.stations.wf = true) {e : StationIx × Station}
    (he : e ∈ s.stations.entries) : s.station? e.1 = some e.2 := (mem_entries_iff _ h e.1 e.2).1 he

theorem State.mem_of_station? {s : State} {i : StationIx} {r : Station} (hr : s.station? i = some r) :
    (i, r) ∈ s.stations.entries := mem_of_assocGet _ _ _ hr

/-- A station that is none of those chosen is not listed, or does not meet the choice. -/
theorem State.not_mem_chosen {s : State} (h : s.stations.wf = true) {q : StationIx × Station → Bool} {i : StationIx}
    (hq : ∀ r, s.station? i = some r → q (i, r) = false) : i ∉ (s.stations.entries.filter q).map Prod.fst := by
  intro hi
  obtain ⟨e, he, rfl⟩ := List.mem_map.1 hi
  obtain ⟨hm, ht⟩ := List.mem_filter.1 he
  have := hq e.2 (State.station?_of_mem h hm)
  rw [this] at ht
  cases ht

/-! ### TICKET_CLEAR (R129) -/

theorem State.tellTiers_tickets (L : List (StationIx × Station)) (tier : Station → Level) (w : State)
    (x : Table Ticket) :
    { w.tellTiers L tier with tickets := x } = State.tellTiers { w with tickets := x } L tier := by
  induction L generalizing w with
  | nil => rfl
  | cons e L ih =>
    have first := State.tierTold_comm (f := fun w : State => { w with tickets := x }) (s := w) e.1 e.2.cell e.2.tier
      (tier e.2) (fun _ _ => rfl) ⟨rfl, rfl, rfl⟩
    exact (ih _).trans (congrArg (State.tellTiers · L tier) first)

/-- The BOUND stations are unbound in ascending index, each with its TIER_UPDATE. -/
theorem State.each_unbindStation {s : State} (h : s.stations.wf = true) :
    s.each s.boundStations State.unbindStation =
      (s.rebindAll (s.stations.entries.filter fun e => e.2.isBound) (fun _ => .unbound) (fun r =>
        if (s.cell r.cell).kind = .seat then some s.now else none)).tellTiers
        (s.stations.entries.filter fun e => e.2.isBound) (fun r => s.tierUnbound r.cell) := by
  have turns := State.each_rebind (s := s) (f := State.unbindStation) (b := fun _ => .unbound)
    (g := fun r => if (s.cell r.cell).kind = .seat then some s.now else none)
    (fun w i r hn hc hr => ?_) (s.stations.entries.filter fun e => e.2.isBound) (nodup_keys h _) s rfl rfl rfl
    fun e he => State.station?_of_mem h (List.mem_filter.1 he).1
  · simp only [State.tierOf_unbound] at turns
    exact turns
  · have cell : w.cell r.cell = s.cell r.cell := by unfold State.cell; rw [hc]
    rw [State.unbindStation, hr]
    refine congrArg (fun q => State.retier (w.putStation i q) i) ?_
    rw [Station.unbind_eq, cell, hn]

/-- Settles O44: the stations BOUND at the command are unbound one after another, then every record is removed. -/
theorem ticketClearEmpties : Obligations.TicketClearEmpties := by
  intro p m s h hwf
  have listed : ∀ e ∈ s.stations.entries.filter fun e => e.2.isBound, s.station? e.1 = some e.2 :=
    fun e he => State.station?_of_mem hwf (List.mem_filter.1 he).1
  have turns := State.each_unbindStation hwf
  have touched := State.rebindAll_touches (fun _ => .unbound)
    (fun r => if (s.cell r.cell).kind = .seat then some s.now else none) _ (nodup_keys hwf _) s listed
  obtain ⟨rebound, others⟩ := State.station?_rebindAll (fun _ => .unbound)
    (fun r => if (s.cell r.cell).kind = .seat then some s.now else none) _ (nodup_keys hwf _) s listed
  generalize s.rebindAll _ _ _ = w at turns touched rebound others
  refine ⟨{ w with tickets := .empty }, ?_, rfl, fun i r hr => ?_, fun i hr => ?_, ?_⟩
  · refine exec_ok h ?_
    change ticketClearRule m.body s = _
    have size : s.boundStations.length = s.stationsWith fun r => r.isBound := List.length_map ..
    rw [ticketClearRule, turns, State.tellTiers_tickets, size]
    rfl
  · change w.station? i = _
    by_cases hb : r.isBound = true
    · rw [rebound (i, r) (List.mem_filter.2 ⟨State.mem_of_station? hr, hb⟩), if_pos hb, State.tierOf_unbound]
    · rw [others i (State.not_mem_chosen hwf fun r' hr' => ?_), if_neg hb, hr]
      cases hr.symm.trans hr'
      exact Bool.eq_false_iff.2 hb
  · exact (others i (State.not_mem_chosen hwf fun r' hr' => absurd (hr.symm.trans hr') nofun)).trans hr
  · exact congrArg (fun v : State => { v with tickets := .empty })
      (touched.fanFrame (View.subset_of (by decide +kernel)))

/-! ### Seat grace and steer-hold (R97, R99) -/

theorem State.admitting_iff (s : State) (c : CellId) : s.admitting c = true ↔ s.Admits c := by
  have serves : ∀ a : Condition, a.serves = true ↔ a = .run ∨ a = .degraded := by
    intro a; cases a <;> decide
  unfold State.admitting State.Admits
  rw [Bool.and_eq_true, Bool.and_eq_true, serves, beq_iff_eq, and_assoc]

/-- The best of the cells that meet a test is the lowest of them. -/
theorem State.lowestOf_best (s : State) (cells : List CellId) (q : CellId → Bool) (test : CellId → Prop)
    (h : ∀ c, q c = true ↔ test c) : s.LowestOf cells test (s.best (cells.filter q)) := by
  cases hb : s.best (cells.filter q) with
  | none =>
    have none_ := (s.best_eq_none _).1 hb
    exact fun b hm ht => (List.filter_eq_nil_iff.1 none_) b hm ((h b).2 ht)
  | some a =>
    obtain ⟨hm, hmin⟩ := s.best_spec _ a hb
    obtain ⟨ha, hq⟩ := List.mem_filter.1 hm
    exact ⟨ha, (h a).1 hq, fun b hb ht => hmin b (List.mem_filter.2 ⟨hb, (h b).2 ht⟩)⟩

theorem State.lowestOf_fenceTarget (s : State) (c : CellId) : s.LowestOf (s.cell c).neighbours
    (fun c => s.Admits c ∧ (s.cell c).kind = .concourse) (s.fenceTarget c) := by
  refine s.lowestOf_best _ _ _ fun n => ?_
  have concourse : (!(s.cell n).isSeat) = true ↔ (s.cell n).kind = .concourse := by
    unfold Cell.isSeat
    cases (s.cell n).kind <;> decide
  rw [Bool.and_eq_true, concourse, State.admitting_iff]

theorem timeReached_iff (now due : Time) : timeReached now due = true ↔ (now - due).toNat < 2 ^ 31 := by
  have := (now - due).isLt
  rw [timeReached, decide_eq_true_eq, BitVec.toInt_eq_toNat_cond]
  split <;> omega

theorem State.tierOf_fenced (s : State) (c : CellId) : s.tierOf .fenced c = .none := by
  unfold State.tierOf
  cases (s.cell c).kind <;> rfl

/-- The fence target is chosen among the cells. -/
theorem State.fenceSteer_eq {s w : State} (hc : w.cells = s.cells) (r : Station) : w.fenceSteer r =
    match r.roam, s.fenceTarget r.cell with
    | none, some n => w.tell r.cell (.steer r.address n)
    | none, none | some _, _ => w := by
  have same : ∀ (cs : List CellId), w.best cs = s.best cs := by
    intro cs
    induction cs with
    | nil => rfl
    | cons c cs ih =>
      simp only [State.best, ih, State.better, State.cell, hc] <;> rfl
  have target : w.fenceTarget r.cell = s.fenceTarget r.cell := by
    unfold State.fenceTarget
    simp only [same, State.admitting, State.cell, State.configured, hc]
  unfold State.fenceSteer
  rw [target] <;> cases r.roam <;> cases s.fenceTarget r.cell <;> rfl

theorem exec_seatGraceExpiry {i : StationIx} {s : State} (hs : s.held = false) :
    exec (.seatGraceExpiry i) s = .next (match s.station? i with
      | none => s
      | some r =>
        match r.grace with
        | none => s
        | some stamp =>
          if s.timers.seatGrace * unitsPerSecond ≤ elapsed s.now stamp then
            ((s.putStation i { r with binding := .fenced, grace := none }).retier i).fenceSteer r
          else s) := by
  simp only [exec, execSeatGraceExpiry, State.live_released s hs] <;> rfl

theorem exec_steerHoldExpiry {i : StationIx} {s : State} (hs : s.held = false) :
    exec (.steerHoldExpiry i) s = .next (match s.station? i with
      | none => s
      | some r =>
        match r.steerHold with
        | none => s
        | some due => if timeReached s.now due then s.putStation i { r with steerHold := none } else s) := by
  simp only [exec, execSteerHoldExpiry, State.live_released s hs] <;> rfl

/-- Settles O41: the two expiries by the station's record and the time; the fence is a rebinding. -/
theorem graceAndHoldExpire : Obligations.GraceAndHoldExpire := by
  intro s i hs
  have graced := exec_seatGraceExpiry (i := i) hs
  have hold := exec_steerHoldExpiry (i := i) hs
  refine ⟨fun hn => by rw [graced, hold, hn]; exact ⟨rfl, rfl⟩, fun r hr => ?_⟩
  rw [hr] at graced hold
  simp only at graced hold
  intro v
  refine ⟨fun hg => ?_, fun g hg hlt => ?_, fun g hg hle => ?_, fun hd => ?_, fun d hd hlt => ?_, fun d hd hge => ?_⟩
  · rw [graced, hg]
  · rw [graced, hg]
    exact congrArg _ (if_neg (Nat.not_le.2 hlt))
  · rw [hg] at graced
    have due := graced.trans (congrArg _ (if_pos hle))
    have told := s.put_retier_eq i { r with binding := .fenced, grace := none }
    have touched := State.rebind_touches hr .fenced none
    have read := s.station?_rebind i { r with binding := .fenced, grace := none }
    rw [State.tierOf_fenced] at told read
    have steer := State.fenceSteer_eq (s := s) (w := v.retier i)
      ((State.retier_touches (G := tierViews) v i).cells) r
    refine ⟨s.fenceTarget r.cell, s.rebind i { r with binding := .fenced, grace := none },
      s.lowestOf_fenceTarget r.cell, ?_, (read i).trans (if_pos rfl), fun j hj => (read j).trans (if_neg hj),
      fun hn => ?_, touched.fanFrame (View.subset_of (by decide +kernel))⟩
    · refine due.trans (congrArg _ (steer.trans ?_))
      rw [show v.retier i = _ from told] <;> rfl
    · have put : (s.putStation i { r with binding := .fenced, grace := none }).station? i
          = some { r with binding := .fenced, grace := none } := by rw [State.station?_putStation, if_pos rfl]
      have same := State.recomputeTier_same put (by rw [State.tierOf_fenced]; exact hn.symm)
      exact congrArg Prod.fst same
  · rw [hold, hd]
  · rw [hold, hd]
    exact congrArg _ (if_pos ((timeReached_iff ..).2 hlt))
  · rw [hold, hd]
    exact congrArg _ (if_neg fun h => absurd ((timeReached_iff ..).1 h) (Nat.not_lt.2 hge))

end Sys2Proof.Machine
end


section
/-! PROOF. CELL_SET: the cells it configures and removes (R56, R57, R59), and the stations a rewritten cell settles
anew (R58, R96, R98). -/
namespace Sys2Proof.Machine

/-! ### The body of CELL_SET -/

theorem mem_keepFirst (l seen : List CellId) (d : CellId) : d ∈ keepFirst seen l ↔ d ∉ seen ∧ d ∈ l := by
  induction l generalizing seen with
  | nil => simp [keepFirst]
  | cons c l ih =>
    rw [keepFirst]
    split
    · next hc =>
      rw [ih, List.mem_cons]
      refine and_congr_right fun hd => ⟨.inr, fun h => h.resolve_left ?_⟩
      rintro rfl
      exact hd hc
    · next hc =>
      rw [List.mem_cons, ih, List.mem_cons, List.mem_cons]
      constructor
      · rintro (rfl | ⟨hd, hm⟩)
        · exact ⟨hc, .inl rfl⟩
        · exact ⟨fun h => hd (.inr h), .inr hm⟩
      · rintro ⟨hd, rfl | hm⟩
        · exact .inl rfl
        · by_cases he : d = c
          · exact .inl he
          · exact .inr ⟨fun h => h.elim he hd, hm⟩

theorem nodup_keepFirst (l seen : List CellId) : (keepFirst seen l).Nodup := by
  induction l generalizing seen with
  | nil => exact List.nodup_nil
  | cons c l ih =>
    rw [keepFirst]
    split
    · exact ih _
    · exact List.nodup_cons.2 ⟨fun h => ((mem_keepFirst ..).1 h).1 List.mem_cons_self, ih _⟩

theorem idxOf_cons_of_ne {c d : CellId} {l : List CellId} (h : c ≠ d) : (c :: l).idxOf d = l.idxOf d + 1 := by
  rw [List.idxOf_cons, beq_false_of_ne h]
  rfl

/-- What is kept stands in the order of its first mention. -/
theorem keepFirst_order (l seen : List CellId) :
    (keepFirst seen l).Pairwise fun d e => l.idxOf d < l.idxOf e := by
  have behind : ∀ (l seen : List CellId) (c d : CellId), d ∈ keepFirst seen l → c ∈ seen →
      (c :: l).idxOf d = l.idxOf d + 1 := fun l seen c d hd hc =>
    idxOf_cons_of_ne fun h => ((mem_keepFirst ..).1 hd).1 (h ▸ hc)
  induction l generalizing seen with
  | nil => exact .nil
  | cons c l ih =>
    rw [keepFirst]
    split
    · next hc =>
      refine (ih seen).imp_of_mem fun hd he h => ?_
      rw [behind l seen c _ hd hc, behind l seen c _ he hc]
      exact Nat.succ_lt_succ h
    · refine .cons (fun d hd => ?_) ((ih (c :: seen)).imp_of_mem fun hd he h => ?_)
      · rw [behind l _ c d hd List.mem_cons_self, List.idxOf_cons_self]
        exact Nat.succ_pos _
      · rw [behind l _ c _ hd List.mem_cons_self, behind l _ c _ he List.mem_cons_self]
        exact Nat.succ_lt_succ h

theorem cellOn_iff (b : List Byte) : cellOn b = true ↔ byteAt b 1 % 2 = 1 := by
  rw [cellOn, beq_iff_eq]

theorem overrideOn_iff (b : List Byte) : overrideOn b = true ↔ byteAt b 1 / 2 % 2 = 1 := by
  rw [overrideOn, beq_iff_eq]

theorem cellSetBad_iff (b : List Byte) : cellSetBad b = true ↔
    1 < byteAt b 2 ∨ 63 < byteAt b 3 ∨ 6 < byteAt b 5 ∨ (byteAt b 1 / 2 % 2 = 1
      ∧ (4095 < numAt b 6 2 ∨ 4095 < numAt b 8 2 ∨ numAt b 6 2 ≤ numAt b 8 2)) := by
  rw [cellSetBad, decide_eq_true_eq, overrideOn_iff]

theorem kindField_of_le {n : Nat} (h : n ≤ 1) :
    (kindField n).getD .seat = (if n = 0 then .seat else .concourse) ∧ ((kindField n).getD .seat).code = n := by
  obtain rfl | rfl : n = 0 ∨ n = 1 := by omega
  · exact ⟨rfl, rfl⟩
  · exact ⟨rfl, rfl⟩

/-- The five fields that CELL_SET writes (R56). -/
theorem Cell.configure_eq (r : Cell) (c : CellId) {b : List Byte} (h : byteAt b 2 ≤ 1) : r.configure c b = { r with
    kind := if byteAt b 2 = 0 then .seat else .concourse
    section_ := byteAt b 3, cmax := max 1 (byteAt b 4), neighbours := keepFirst [c] (neighbourBytes b)
    override := if byteAt b 1 / 2 % 2 = 1 then some (numAt b 6 2, numAt b 8 2) else none } := by
  rw [Cell.configure, (kindField_of_le h).1]
  simp only [overrideOn_iff]

theorem configBody_configure (r : Cell) (c : CellId) {b : List Byte} (h : byteAt b 2 ≤ 1) :
    configBody c true (r.configure c b) =
      [.u8 c, .u8 (if byteAt b 1 / 2 % 2 = 1 then 3 else 1), .u8 (byteAt b 2), .u8 (byteAt b 3),
        .u8 (max 1 (byteAt b 4)), .u8 (keepFirst [c] (neighbourBytes b)).length,
        ⟨2, if byteAt b 1 / 2 % 2 = 1 then some (numAt b 6 2) else none⟩,
        ⟨2, if byteAt b 1 / 2 % 2 = 1 then some (numAt b 8 2) else none⟩]
      ++ (keepFirst [c] (neighbourBytes b)).map .u8 := by
  have kind : (r.configure c b).kind.code = byteAt b 2 := (kindField_of_le h).2
  rw [configBody, kind, Cell.configure_eq r c h]
  by_cases ho : byteAt b 1 / 2 % 2 = 1
  · simp only [ho, if_true]
    rfl
  · simp only [ho, if_false]
    rfl

/-- What the neighbours of a configured cell are: those carried, less the cell itself and repeats. -/
theorem neighbours_carried (b : List Byte) (c : CellId) :
    (keepFirst [c] (neighbourBytes b)).Nodup
      ∧ (∀ d, d ∈ keepFirst [c] (neighbourBytes b) ↔ d ≠ c ∧ d ∈ neighbourBytes b)
      ∧ (keepFirst [c] (neighbourBytes b)).Pairwise fun d e =>
          (neighbourBytes b).idxOf d < (neighbourBytes b).idxOf e :=
  ⟨nodup_keepFirst .., fun d => by rw [mem_keepFirst, List.mem_singleton], keepFirst_order ..⟩

/-! ### A cell configured or removed -/

theorem Report.without_eq (c : CellId) (r : Report) : r.without c = ⟨r.cell, r.body, r.orphan || r.cell == c⟩ := by
  rw [← Report.without_orphan, ← Report.without_cell c r, ← Report.without_body c r]

theorem Poll.without_eq (pos : Nat) (q : Poll) : q.without pos = ⟨q.position, q.orphan || q.position == pos⟩ := by
  rw [← Poll.without_orphan, ← Poll.without_position pos q]

theorem State.removeCell_eq (s : State) (c : CellId) : s.removeCell c =
    State.setTrunk { s with cells := s.cells.del c } (trunkOf c) { s.trunk (trunkOf c) with
      urgent := (s.trunk (trunkOf c)).urgent.filter (· ≠ c % 32)
      intake := (s.trunk (trunkOf c)).intake.map fun e => ⟨e.cell, e.body, e.orphan || e.cell == c⟩
      polled := (s.trunk (trunkOf c)).polled.map fun q => ⟨q.position, q.orphan || q.position == c % 32⟩ } := by
  have reports : Report.without c = fun e => ⟨e.cell, e.body, e.orphan || e.cell == c⟩ :=
    funext (Report.without_eq c)
  have polls : Poll.without (positionOf c) = fun q => ⟨q.position, q.orphan || q.position == c % 32⟩ :=
    funext (Poll.without_eq (c % 32))
  rw [State.removeCell, reports, polls]
  rfl

theorem cellSetRule_good {b : List Byte} (s : State) (h : cellSetBad b = false) : cellSetRule b s =
    match s.cells.get? (byteAt b 0), cellOn b with
    | none, true => ⟨{ s with cells := s.cells.put (byteAt b 0) (Cell.reset.configure (byteAt b 0) b) }, .ok,
        configBody (byteAt b 0) true (Cell.reset.configure (byteAt b 0) b)⟩
    | some old, true => ⟨s.rewriteCell (byteAt b 0) old (old.configure (byteAt b 0) b), .ok,
        configBody (byteAt b 0) true (old.configure (byteAt b 0) b)⟩
    | none, false => ⟨s, .ok, configBody (byteAt b 0) false .reset⟩
    | some old, false =>
      if 0 < old.attached + old.incoming then ⟨s, .wrongState, []⟩
      else ⟨s.removeCell (byteAt b 0), .ok, configBody (byteAt b 0) false .reset⟩ := by
  rw [cellSetRule, h] <;> rfl

/-- Settles O29: the rule of CELL_SET by the check, the cell's record and the switch. -/
theorem cellSetConfiguresRemoves : Obligations.CellSetConfiguresRemoves := by
  intro p m s h b c on ovr bad carried removed
  have sound (hb : ¬ bad) : cellSetBad b = false := Bool.eq_false_iff.2 fun hx => hb ((cellSetBad_iff b).1 hx)
  have kind (hb : ¬ bad) : byteAt b 2 ≤ 1 := Nat.le_of_not_lt fun hx => hb (.inl hx)
  have off (ho : ¬ on) : cellOn b = false := Bool.eq_false_iff.2 fun hx => ho ((cellOn_iff b).1 hx)
  refine ⟨fun hb => ?_, fun hb ho hn => ?_, fun hb ho hn => ?_, fun x hb ho hx => ⟨fun hs => ?_, fun hs => ?_⟩⟩
  · refine exec_bare h (show cellSetRule b s = _ from ?_)
    rw [cellSetRule, (cellSetBad_iff b).2 hb] <;> rfl
  · refine ⟨keepFirst [c] (neighbourBytes b), ?_, neighbours_carried b c⟩
    refine exec_ok h (show cellSetRule b s = _ from ?_)
    rw [cellSetRule_good s (sound hb), hn, (cellOn_iff b).2 ho]
    dsimp only
    rw [configBody_configure _ _ (kind hb), Cell.configure_eq _ _ (kind hb)] <;> rfl
  · refine exec_ok h (show cellSetRule b s = _ from ?_)
    rw [cellSetRule_good s (sound hb), hn, off ho] <;> rfl
  · refine exec_bare h (show cellSetRule b s = _ from ?_)
    rw [cellSetRule_good s (sound hb), hx, off ho]
    exact if_pos hs
  · refine exec_ok h (show cellSetRule b s = _ from ?_)
    rw [cellSetRule_good s (sound hb), hx, off ho, ← State.removeCell_eq]
    exact if_neg (Nat.not_lt.2 (Nat.le_of_eq hs))

/-! ### A cell rewritten -/

/-- A station settled anew is one with another binding and seat-grace start. -/
theorem Station.settle_eq (r : Station) (now : Time) (before after : CellKind) : r.settle now before after =
    { r with binding := (r.settle now before after).binding, grace := (r.settle now before after).grace } := by
  unfold Station.settle
  split <;> rfl

theorem Station.binding_settle (r : Station) (now : Time) (before after : CellKind) :
    (r.settle now before after).binding
      = if r.binding = .fenced ∧ after = .concourse then .unbound else r.binding := by
  unfold Station.settle
  split <;> simp_all

theorem settledFrom_settle {r r' : Station} (now : Time) (before after : CellKind)
    (hb : r'.binding = (r.settle now before after).binding) (hg : r'.grace = (r.settle now before after).grace) :
    settledFrom now before after r r' := by
  unfold settledFrom
  rw [hb, hg]
  unfold Station.settle
  split <;> simp_all

/-- A cell's record replaced, the kind or section changed: its stations are rebound, then their tiers are told. -/
theorem State.rewriteCell_changed {s : State} (h : s.stations.wf = true) (c : CellId) {old new : Cell}
    (hc : ¬ (old.kind = new.kind ∧ old.section_ = new.section_)) : s.rewriteCell c old new =
      (State.rebindAll { s with cells := s.cells.put c new } (s.stations.entries.filter fun e => e.2.cell == c)
        (fun r => (r.settle s.now old.kind new.kind).binding)
        (fun r => (r.settle s.now old.kind new.kind).grace)).tellTiers
        (s.stations.entries.filter fun e => e.2.cell == c)
        (fun r => State.tierOf { s with cells := s.cells.put c new } (r.settle s.now old.kind new.kind).binding
          r.cell) := by
  have turns := State.each_rebind (s := { s with cells := s.cells.put c new })
    (f := State.resettle old.kind new.kind) (b := fun r => (r.settle s.now old.kind new.kind).binding)
    (g := fun r => (r.settle s.now old.kind new.kind).grace) (fun w i r hn _ hr => ?_)
    (s.stations.entries.filter fun e => e.2.cell == c) (nodup_keys h _) _ rfl rfl rfl
    fun e he => State.station?_of_mem h (List.mem_filter.1 he).1
  · exact (if_neg hc).trans turns
  · rw [State.resettle, hr]
    change State.retier (w.putStation i (r.settle w.now _ _)) i = _
    rw [Station.settle_eq, show w.now = s.now from hn]

theorem State.tellTiers_touches {G : List View} (L : List (StationIx × Station)) (tier : Station → Level) (w : State)
    (hG : messageViews ⊆ G := by exact View.subset_of (by decide +kernel)) : w.Touches G (w.tellTiers L tier) := by
  induction L generalizing w with
  | nil => exact .refl _ _
  | cons e L ih => exact (State.tierTold_touches w e.1 e.2.cell e.2.tier (tier e.2) hG).trans (ih _)

theorem State.answered_touches {G : List View} (s : State) (p : PortId) (m : PortMessage) (r : Result)
    (b : List Field) (hG : portViews ⊆ G := by exact View.subset_of (by decide +kernel)) :
    s.Touches G (s.answered p m r b) := State.setPort_touches' s p _ (Nat.le_refl _) hG

/-- What a rewritten cell may change, the cell itself left out. -/
theorem State.Touches.rewriteFrame {F : List View} {s u : State} {x : Table Cell}
    (h : State.Touches F { s with cells := x } u)
    (hF : F ⊆ .station .binding :: .station .grace :: retierViews ++ messageViews ++ portViews) :
    u = { s with cells := u.cells, stations := u.stations, fan := u.fan, demand := u.demand, trunks := u.trunks
                 ports := u.ports } := by
  have cells : u.cells = x := (h.mono hF).cells
  exact (h.mono hF).eq_frame.trans (by rw [cells]; rfl)

/-- Settles O30: the record rewritten; where kind or section changes, every station of the cell rebound and its tier
told. -/
theorem cellRewriteSettlesStations : Obligations.CellRewriteSettlesStations := by
  intro p m s x h hwf b c ovr carried hx on good
  have sound : cellSetBad b = false := Bool.eq_false_iff.2 fun hb => good ((cellSetBad_iff b).1 hb)
  have kind : byteAt b 2 ≤ 1 := Nat.le_of_not_lt fun hb => good (.inl hb)
  have answer := exec_ok (i := .cellSet p) h (u := s.rewriteCell c x (x.configure c b))
    (b := configBody c true (x.configure c b)) (show cellSetRule b s = _ by
      rw [cellSetRule_good s sound, hx, (cellOn_iff b).2 on] <;> rfl)
  have body := configBody_configure x c kind
  have nbrs := neighbours_carried b c
  have record := Cell.configure_eq x c kind
  generalize x.configure c b = y at answer body record
  have same : y.neighbours = keepFirst [c] (neighbourBytes b) := by rw [record]
  rw [← same] at nbrs body
  by_cases hc : x.kind = y.kind ∧ x.section_ = y.section_
  · have kept : s.rewriteCell c x y = { s with cells := s.cells.put c y } := if_pos hc
    rw [kept] at answer
    have rest := State.answered_touches (G := portViews) { s with cells := s.cells.put c y } p m .ok
      (configBody c true y)
    refine ⟨y, _, (s.port p).ready, answer, rest.cells, ?_, nbrs.1, nbrs.2.1, nbrs.2.2, ?_, fun i hi => ?_,
      fun i r hr _ => ?_, fun _ _ => ?_, fun hn => absurd hc (Classical.not_and_iff_not_or_not.2 hn), fun hn => absurd hc (Classical.not_and_iff_not_or_not.2 hn),
      ?_⟩
    · rw [record]
    · rw [← body, State.answered, State.port_setPort_self]
      rfl
    · exact (rest.station? i).trans hi
    · exact (rest.station? i).trans hr
    · rw [rest.cells]
    · exact rest.rewriteFrame (View.subset_of (by decide +kernel))
  · have changed := State.rewriteCell_changed hwf c hc
    rw [changed] at answer
    have listed : ∀ e ∈ s.stations.entries.filter fun e => e.2.cell == c,
        State.station? { s with cells := s.cells.put c y } e.1 = some e.2 :=
      fun e he => State.station?_of_mem hwf (List.mem_filter.1 he).1
    have nodup := nodup_keys hwf fun e => e.2.cell == c
    have touched := State.rebindAll_touches (fun r => (r.settle s.now x.kind y.kind).binding)
      (fun r => (r.settle s.now x.kind y.kind).grace) _ nodup _ listed
    obtain ⟨rebound, others⟩ := State.station?_rebindAll (fun r => (r.settle s.now x.kind y.kind).binding)
      (fun r => (r.settle s.now x.kind y.kind).grace) _ nodup _ listed
    generalize State.rebindAll _ _ _ _ = v at answer touched rebound others
    have told := State.tellTiers_touches (G := messageViews) (s.stations.entries.filter fun e => e.2.cell == c)
      (fun r => State.tierOf { s with cells := s.cells.put c y } (r.settle s.now x.kind y.kind).binding r.cell) v
    have tellEq : v.tellTiers (s.stations.entries.filter fun e => e.2.cell == c)
        (fun r => State.tierOf { s with cells := s.cells.put c y } (r.settle s.now x.kind y.kind).binding r.cell)
        = (s.stations.entries.filter fun e => e.2.cell = c).foldl
          (fun w e => w.tierTold e.1 c e.2.tier (v.tierOf (if e.2.binding = .fenced ∧ y.kind = .concourse
            then .unbound else e.2.binding) c)) v := by
      refine foldl_congr_of_mem v fun w e he => ?_
      have hcell : e.2.cell = c := by simpa using (List.mem_filter.1 he).2
      have tier : ∀ a, v.tierOf a c = State.tierOf { s with cells := s.cells.put c y } a c := fun a => by
        unfold State.tierOf State.cell State.ticket?
        rw [touched.cells, touched.tickets]
      dsimp only
      rw [hcell, tier, Station.binding_settle]
    rw [tellEq] at answer told
    generalize hw : List.foldl _ v _ = w at answer told
    have rest := State.answered_touches (G := portViews) w p m .ok (configBody c true y)
    have stations : (w.answered p m .ok (configBody c true y)).stations = v.stations :=
      rest.stations.trans told.stations
    have station (i : StationIx) : (w.answered p m .ok (configBody c true y)).station? i = v.station? i :=
      (rest.station? i).trans (told.station? i)
    have all := (touched.mono (G := .station .binding :: .station .grace :: retierViews ++ messageViews ++ portViews)
      (View.subset_of (by decide +kernel))).trans ((told.mono (View.subset_of (by decide +kernel))).trans
        (rest.mono (View.subset_of (by decide +kernel))))
    have cells : (w.answered p m .ok (configBody c true y)).cells = s.cells.put c y := all.cells
    have tier (a : Binding) : State.tierOf (w.answered p m .ok (configBody c true y)) a c
        = State.tierOf { s with cells := s.cells.put c y } a c := by
      unfold State.tierOf State.cell State.ticket?
      rw [all.cells, all.tickets]
    have before := (touched.mono (G := .station .binding :: .station .grace :: retierViews ++ messageViews)
      (View.subset_of (by decide +kernel))).trans (told.mono (View.subset_of (by decide +kernel)))
    have responses : (w.port p).responses = (s.port p).responses := by
      have same := congrArg Port.responses (before.bare p)
      exact same
    refine ⟨y, _, (w.port p).ready, answer, cells, ?_, nbrs.1, nbrs.2.1, nbrs.2.2, ?_, fun i hi => ?_,
      fun i r hr hne => ?_, fun hk hsec => absurd ⟨hk, hsec⟩ hc, fun _ i r hr hcell => ?_, fun _ => ?_, ?_⟩
    · rw [record]
    · rw [← body, State.answered, State.port_setPort_self]
      exact congrArg (· ++ _) responses
    · exact ((station i).trans (others i (State.not_mem_chosen hwf fun r' hr' =>
        absurd (hi.symm.trans hr') nofun))).trans hi
    · refine ((station i).trans (others i (State.not_mem_chosen hwf fun r' hr' => ?_))).trans hr
      cases hr.symm.trans hr'
      exact beq_false_of_ne hne
    · have now := rebound (i, r) (List.mem_filter.2 ⟨State.mem_of_station? hr, beq_iff_eq.2 hcell⟩)
      refine ⟨_, (station i).trans now, ?_, rfl, settledFrom_settle _ _ _ rfl rfl⟩
      rw [tier]
      exact congrArg (State.tierOf _ _) hcell
    · refine ⟨v, stations.symm, ?_, by rw [hw]⟩
      rw [cells]
      exact touched.fanFrame (View.subset_of (by decide +kernel))
    · exact all.rewriteFrame (List.Subset.refl _)
end Sys2Proof.Machine
end


section
/-! PROOF. The trunks: the idle timer (R30), leaving a state (R22, R28, R29, R31), the trunk commands (R32 to R34) and
the events of STANDBY, WAKING and ALIGNING (R23 to R25). -/
namespace Sys2Proof.Machine

/-! ### The idle timer -/

theorem State.trunkEmpty_iff (s : State) (t : TrunkId) : s.trunkEmpty t = true ↔ s.Deserted t := by
  simp only [State.trunkEmpty, State.Deserted, List.all_eq_true, cellsOf, List.mem_map, List.mem_range,
    Bool.and_eq_true, beq_iff_eq, cellAt]
  constructor
  · intro h pos hp
    exact h _ ⟨pos, hp, rfl⟩
  · rintro h _ ⟨pos, hp, rfl⟩
    exact h pos hp

theorem State.idleHolds_iff (s : State) (t : TrunkId) : s.idleHolds t = true ↔
    (s.trunk t).state = .active ∧ (s.trunk t).idlePeriod ≠ 0 ∧ s.Deserted t := by
  rw [State.idleHolds, Bool.and_eq_true, Bool.and_eq_true, State.trunkEmpty_iff, beq_iff_eq, bne_iff_ne, and_assoc]

theorem State.idleUpdate_eq (s : State) (t : TrunkId) : s.idleUpdate t = s.setTrunk t { s.trunk t with
    idle := if s.idleHolds t then some ((s.trunk t).idle.getD s.now) else none } := by
  unfold State.idleUpdate
  by_cases hi : s.idleHolds t = true
  · rw [if_pos hi, if_pos hi]
    cases hr : (s.trunk t).idle with
    | none => rfl
    | some stamp =>
      refine ((s.setTrunk_trunk t).symm.trans (congrArg _ ?_))
      rw [Option.getD_some, ← hr]
  · rw [if_neg hi, if_neg hi]

/-! ### The replay queue of a trunk flushed -/

theorem State.trunk_unlink (s : State) (t : TrunkId) (d : DescIx) (t' : TrunkId) :
    (s.unlink t d).trunk t' = if t' = t then (s.trunk t).unlink d else s.trunk t' := by
  rw [State.unlink_frame]
  exact State.trunk_setTrunk s t _ t'

/-- Several descriptors taken out of one trunk's queue and plan. -/
theorem State.trunk_unlinks (s : State) (t : TrunkId) (ds : List DescIx) (t' : TrunkId) :
    (s.each ds fun s d => s.unlink t d).trunk t' =
      if t' = t then ds.foldl Trunk.unlink (s.trunk t) else s.trunk t' := by
  induction ds generalizing s with
  | nil =>
    by_cases h : t' = t
    · rw [if_pos h, h]; rfl
    · rw [if_neg h]; rfl
  | cons d ds ih =>
    rw [State.each_cons, ih, State.trunk_unlink, if_pos rfl]
    by_cases h : t' = t
    · rw [if_pos h, if_pos h]; rfl
    · rw [if_neg h, if_neg h, State.trunk_unlink, if_neg h]

theorem foldl_unlink (ds : List DescIx) (r : Trunk) : ds.foldl Trunk.unlink r = { r with
    replay := r.replay.filter (· ∉ ds), allocation := (ds.foldl Trunk.unlink r).allocation } := by
  induction ds generalizing r with
  | nil =>
    have all : r.replay.filter (· ∉ ([] : List DescIx)) = r.replay :=
      List.filter_eq_self.2 fun d _ => decide_eq_true (List.not_mem_nil)
    rw [all]; rfl
  | cons d ds ih =>
    have rest : (r.unlink d).replay.filter (· ∉ ds) = r.replay.filter (· ∉ d :: ds) := by
      rw [Trunk.unlink, List.filter_filter]
      refine List.filter_congr fun e _ => ?_
      simp only [List.mem_cons, not_or, Bool.decide_and, ← ne_eq, Bool.and_comm]
    rw [List.foldl_cons, ih, rest]
    rfl

theorem foldl_unlink_bare (ds : List DescIx) {r : Trunk} (h : r.allocation = none) :
    (ds.foldl Trunk.unlink r).allocation = none := by
  induction ds generalizing r with
  | nil => exact h
  | cons d ds ih => exact ih (by rw [Trunk.unlink, h]; rfl)

/-- A flushed trunk with no allocation has lost its replay queue and nothing else. -/
theorem State.trunk_flushReplay {s : State} {t : TrunkId} (h : (s.trunk t).allocation = none) (t' : TrunkId) :
    (s.flushReplay t).trunk t' = if t' = t then { s.trunk t with replay := [] } else s.trunk t' := by
  rw [State.flushReplay, State.trunk_unlinks]
  by_cases ht : t' = t
  · have none_ : (s.trunk t).replay.filter (· ∉ (s.trunk t).replay) = [] :=
      List.filter_eq_nil_iff.2 fun d hd => by simp [hd]
    rw [if_pos ht, if_pos ht, foldl_unlink, foldl_unlink_bare _ h, none_, ← h]
  · rw [if_neg ht, if_neg ht]

/-! ### Cells unheard (R67) -/

theorem State.cells_modCells (f : Cell → Cell) (cs : List CellId) (hcs : cs.Nodup) (s : State) (c : CellId) :
    (s.each cs fun s c => s.modCell c f).cells.get? c =
      if c ∈ cs then (s.cells.get? c).map f else s.cells.get? c := by
  induction cs generalizing s with
  | nil => exact (if_neg List.not_mem_nil).symm
  | cons d cs ih =>
    obtain ⟨hd, hcs⟩ := List.nodup_cons.1 hcs
    rw [State.each_cons, ih hcs, State.cells_modCell]
    by_cases hc : c = d
    · subst hc
      rw [if_neg hd, if_pos rfl, if_pos List.mem_cons_self]
    · rw [if_neg hc]
      simp only [List.mem_cons, hc, false_or]

theorem nodup_cellsOf (t : TrunkId) : (cellsOf t).Nodup :=
  List.pairwise_map.2 (List.nodup_range.imp fun h e => h (Nat.add_left_cancel e))

theorem State.cells_unhearCells (s : State) (t : TrunkId) (c : CellId) : (s.unhearCells t).cells.get? c =
    if c ∈ cellsOf t then (s.cells.get? c).map Cell.unhear else s.cells.get? c :=
  State.cells_modCells _ _ (nodup_cellsOf t) s c

theorem Cell.unhear_eq (r : Cell) : r.unhear.live = .unheard
    ∧ (r.live ≠ .unheard → r.unhear = { r with
        live := .unheard, miss := 0, accepted := .radioOff, candidate := none })
    ∧ (r.live = .unheard → r.unhear = r) := by
  unfold Cell.unhear
  cases h : r.live <;> simp [h]

/-! ### Leaving a state -/

theorem State.quitTrunk_idle {s : State} {t : TrunkId} (h : (s.trunk t).state.serving = false) (dest : TrunkState)
    (entry : Option Time) : s.quitTrunk t dest entry = s.setTrunk t ((s.trunk t).quit dest entry) := by
  unfold State.quitTrunk
  cases hs : (s.trunk t).state with
  | active | lost => rw [hs] at h; cases h
  | off | standby | waking | aligning => rfl

/-- The trunk's record after it has left its state. -/
def Trunk.left (r : Trunk) (dest : TrunkState) (entry : Option Time) : Trunk :=
  { r.quit dest entry with replay := if r.state = .active then [] else r.replay }

theorem State.trunk_quitTrunk (s : State) (t : TrunkId) (dest : TrunkState) (entry : Option Time) (t' : TrunkId) :
    (s.quitTrunk t dest entry).trunk t' = if t' = t then (s.trunk t).left dest entry else s.trunk t' := by
  have set := State.trunk_setTrunk s t ((s.trunk t).quit dest entry)
  have cells (v : State) (t' : TrunkId) : (v.unhearCells t).trunk t' = v.trunk t' :=
    (State.unhearCells_touches (G := unhearViews) v t).trunkAll t'
  unfold State.quitTrunk Trunk.left
  cases hs : (s.trunk t).state with
  | active =>
    have demand (v : State) (t' : TrunkId) : v.recomputeAll.trunk t' = v.trunk t' :=
      (State.recomputeAll_touches (G := [.demand, .portV]) v).trunkAll t'
    have bare : (State.trunk (State.unhearCells (s.setTrunk t ((s.trunk t).quit dest entry)) t) t).allocation = none := by
      rw [cells, set, if_pos rfl]; rfl
    refine (demand _ t').trans ((State.trunk_flushReplay bare t').trans ?_)
    rw [cells, cells, set, set, if_pos rfl]
    by_cases ht : t' = t
    · rw [if_pos ht, if_pos ht]; rfl
    · rw [if_neg ht, if_neg ht, if_neg ht]
  | lost => exact (cells _ t').trans (set t')
  | off | standby | waking | aligning => exact set t'

theorem State.cells_quitTrunk {s : State} {t : TrunkId} (h : (s.trunk t).state.serving = true) (dest : TrunkState)
    (entry : Option Time) (c : CellId) : (s.quitTrunk t dest entry).cells.get? c =
      if c ∈ cellsOf t then (s.cells.get? c).map Cell.unhear else s.cells.get? c := by
  unfold State.quitTrunk
  cases hs : (s.trunk t).state with
  | active =>
    have kept (v : State) : (State.recomputeAll (v.flushReplay t)).cells = v.cells :=
      ((State.flushReplay_touches (G := .demand :: unlinkViews) v t).trans (State.recomputeAll_touches _)).cells
    exact (congrArg (fun x : Table Cell => x.get? c) (kept _)).trans (State.cells_unhearCells _ t c)
  | lost => exact State.cells_unhearCells _ t c
  | off | standby | waking | aligning => rw [hs] at h; cases h

/-! ### TRUNK_SET (R33) -/

theorem onOff_of_lt {n : Nat} (h : n < 2) : onOff n = some (n == 1) := by
  obtain rfl | rfl : n = 0 ∨ n = 1 := by omega
  · rfl
  · rfl

theorem bit_of_lt {n : Nat} (h : n < 2) : bit (n == 1) = n := by
  obtain rfl | rfl : n = 0 ∨ n = 1 := by omega
  · rfl
  · rfl

/-- The trunk's record with the settings of a TRUNK_SET stored and its idle timer settled. -/
def State.stored (s : State) (t : TrunkId) (b : List Byte) : Trunk :=
  { s.trunk t with
    enable := byteAt b 1 == 1, autoWake := byteAt b 2 == 1, idlePeriod := min 3600 (numAt b 4 2)
    markCarriage := byteAt b 6 == 1, rmin := min 320 (numAt b 8 2)
    idle := if (s.trunk t).state = .active ∧ min 3600 (numAt b 4 2) ≠ 0 ∧ s.trunkEmpty t = true then
        some (match (s.trunk t).idle with
          | some stamp => if min 3600 (numAt b 4 2) = (s.trunk t).idlePeriod then stamp else s.now
          | none => s.now)
      else none }

theorem State.store_idleUpdate (s : State) (t : TrunkId) (b : List Byte) :
    (s.setTrunk t ((s.trunk t).store s.now (byteAt b 1 == 1) (byteAt b 2 == 1) (min 3600 (numAt b 4 2))
      (byteAt b 6 == 1) (min 320 (numAt b 8 2)))).idleUpdate t = s.setTrunk t (s.stored t b) := by
  rw [State.idleUpdate_eq, State.setTrunk_setTrunk]
  refine congrArg (s.setTrunk t) ?_
  have holds : State.idleHolds (s.setTrunk t ((s.trunk t).store s.now (byteAt b 1 == 1) (byteAt b 2 == 1)
      (min 3600 (numAt b 4 2)) (byteAt b 6 == 1) (min 320 (numAt b 8 2)))) t = true ↔
      (s.trunk t).state = .active ∧ min 3600 (numAt b 4 2) ≠ 0 ∧ s.trunkEmpty t = true := by
    rw [State.idleHolds_iff, State.trunk_setTrunk, if_pos rfl, ← State.trunkEmpty_iff]
    exact Iff.rfl
  rw [State.trunk_setTrunk, if_pos rfl]
  unfold Trunk.store State.stored
  dsimp only
  congr 1
  by_cases hr : (s.trunk t).state = .active ∧ min 3600 (numAt b 4 2) ≠ 0 ∧ s.trunkEmpty t = true
  · refine (if_pos (holds.2 hr)).trans (Eq.trans (congrArg some ?_) (if_pos hr).symm)
    by_cases hp : min 3600 (numAt b 4 2) = (s.trunk t).idlePeriod
    · cases (s.trunk t).idle <;> simp [hp]
    · cases (s.trunk t).idle <;> simp [hp]
  · exact (if_neg fun h => hr (holds.1 h)).trans (if_neg hr).symm

theorem trunkSetRule_bad {b : List Byte} {s : State} {t : TrunkId} (ht : byteAt b 0 = t.val)
    (h : 2 ≤ byteAt b 1 ∨ 2 ≤ byteAt b 2 ∨ 2 ≤ byteAt b 6) : trunkSetRule b s = ⟨s, .badValue, []⟩ := by
  rw [trunkSetRule, onTrunk_val _ t ht]
  obtain h | h | h := h
  · rw [onOff_none h]
  · rw [onOff_none h]; split <;> simp_all
  · rw [onOff_none h]; split <;> simp_all

/-- A TRUNK_SET with sound settings stores them, then enables or disables the trunk. -/
theorem trunkSetRule_good {b : List Byte} {s : State} {t : TrunkId} (ht : byteAt b 0 = t.val)
    (h1 : byteAt b 1 < 2) (h2 : byteAt b 2 < 2) (h6 : byteAt b 6 < 2) {v : State}
    (hv : v = if byteAt b 1 = 1 then State.enable (s.setTrunk t (s.stored t b)) t
      else State.disable (s.setTrunk t (s.stored t b)) t) :
    trunkSetRule b s = ⟨v, .ok, (v.trunk t).settings ++ [v.stateField t]⟩ := by
  rw [trunkSetRule, onTrunk_val _ t ht, onOff_of_lt h1, onOff_of_lt h2, onOff_of_lt h6]
  dsimp only
  rw [State.store_idleUpdate]
  simp only [beq_iff_eq, ← hv]

theorem State.enable_eq (s : State) (t : TrunkId) : s.enable t = s.setTrunk t { s.trunk t with
    state := if (s.trunk t).state = .off then .standby else (s.trunk t).state } := by
  unfold State.enable
  cases hs : (s.trunk t).state with
  | off => rfl
  | standby | waking | aligning | active | lost =>
    refine (s.setTrunk_trunk t).symm.trans (congrArg _ ?_)
    rw [if_neg nofun, ← hs]

/-- The record of a trunk that has been switched off. -/
def Trunk.disabled (r : Trunk) : Trunk := { r.left .off none with intake := [], urgent := [] }

theorem State.disable_quit {s : State} {t : TrunkId} (ho : (s.trunk t).state ≠ .off) :
    s.disable t = (s.quitTrunk t .off none).setTrunk t
      { (s.quitTrunk t .off none).trunk t with intake := [], urgent := [] } := by
  unfold State.disable
  cases hs : (s.trunk t).state with
  | off => exact absurd hs ho
  | standby | waking | aligning | active | lost => rfl

theorem State.trunk_disable (s : State) (t t' : TrunkId) : (s.disable t).trunk t' =
    if t' = t then (if (s.trunk t).state = .off then s.trunk t else (s.trunk t).disabled) else s.trunk t' := by
  by_cases ho : (s.trunk t).state = .off
  · have kept : s.disable t = s := by unfold State.disable; rw [ho]
    rw [kept, if_pos ho]
    by_cases ht : t' = t
    · rw [if_pos ht, ht]
    · rw [if_neg ht]
  · rw [State.disable_quit ho, State.trunk_setTrunk, State.trunk_quitTrunk, State.trunk_quitTrunk, if_pos rfl, if_neg ho]
    by_cases ht : t' = t
    · rw [if_pos ht, if_pos ht]; rfl
    · rw [if_neg ht, if_neg ht, if_neg ht]

theorem State.disable_idle {s : State} {t : TrunkId} (ho : (s.trunk t).state ≠ .off)
    (h : (s.trunk t).state.serving = false) : s.disable t = s.setTrunk t (s.trunk t).disabled := by
  have active : (s.trunk t).state ≠ .active := fun ha => by rw [ha] at h; cases h
  rw [State.disable_quit ho, State.quitTrunk_idle h, State.setTrunk_setTrunk, State.trunk_setTrunk, if_pos rfl]
  refine congrArg _ ?_
  rw [Trunk.disabled, Trunk.left, if_neg active]
  rfl

/-- What a trunk command or an expiry may change, as an equation on the state. -/
theorem State.Touches.exitFrame {F : List View} {s u : State} (h : s.Touches F u)
    (hF : F ⊆ portViews ++ (storeViews ++ .trunk .intake :: .trunk .urgent :: .trunk .regular :: .trunk .flags
      :: quitViews)) : u = { s with trunks := u.trunks, ports := u.ports, cells := u.cells, demand := u.demand,
                                    streams := u.streams, descs := u.descs, used := u.used } :=
  (h.mono hF).eq_frame.trans rfl

/-- The trunk's state after TRUNK_SET, its idle timer and the settings it is answered with. -/
theorem State.stored_idle (s : State) (t : TrunkId) (b : List Byte) (hs : (s.trunk t).state ≠ .active) :
    (s.stored t b).idle = none := if_neg fun h => hs h.1

theorem State.settings_stored (s : State) (t : TrunkId) {b : List Byte} (h1 : byteAt b 1 < 2) (h2 : byteAt b 2 < 2)
    (h6 : byteAt b 6 < 2) : (s.stored t b).settings =
      [.u8 (byteAt b 1), .u8 (byteAt b 2), .u16 (min 3600 (numAt b 4 2)), .u8 (byteAt b 6),
        .u16 (min 320 (numAt b 8 2))] := by
  rw [State.stored, Trunk.settings, bit_of_lt h1, bit_of_lt h2, bit_of_lt h6]

/-- The record of a trunk after TRUNK_SET. -/
theorem State.trunk_set (s : State) (t : TrunkId) (b : List Byte) (t' : TrunkId) :
    State.trunk (if byteAt b 1 = 1 then State.enable (s.setTrunk t (s.stored t b)) t
      else State.disable (s.setTrunk t (s.stored t b)) t) t' = if t' = t then
        (if byteAt b 1 = 1 then { s.stored t b with
            state := if (s.trunk t).state = .off then .standby else (s.trunk t).state }
          else if (s.trunk t).state = .off then s.stored t b else (s.stored t b).disabled)
        else s.trunk t' := by
  by_cases hb : byteAt b 1 = 1
  · rw [if_pos hb, if_pos hb, State.enable_eq, State.trunk_setTrunk, State.trunk_setTrunk, State.trunk_setTrunk,
      if_pos rfl]
    by_cases ht : t' = t
    · rw [if_pos ht, if_pos ht]; rfl
    · rw [if_neg ht, if_neg ht, if_neg ht]
  · rw [if_neg hb, if_neg hb, State.trunk_disable, State.trunk_setTrunk, State.trunk_setTrunk, if_pos rfl]
    by_cases ht : t' = t
    · rw [if_pos ht, if_pos ht]; rfl
    · rw [if_neg ht, if_neg ht, if_neg ht]

/-- Settles O17: the record of the trunk after TRUNK_SET by the enable setting and the trunk's state. -/
theorem trunkSetStores : Obligations.TrunkSetStores := by
  intro p m s t h ht period runs
  refine ⟨fun hb => exec_bare h (trunkSetRule_bad ht hb), fun h1 h2 h6 => ?_, ?_⟩
  · have answer := exec_ok h (trunkSetRule_good (s := s) ht h1 h2 h6 rfl) (i := .trunkSet p)
    have touched := (Command.rule_touches .trunkSet m.body s)
    rw [show Command.rule .trunkSet m.body s = _ from trunkSetRule_good (s := s) ht h1 h2 h6 rfl] at touched
    have record := s.trunk_set t m.body
    generalize (if byteAt m.body 1 = 1 then State.enable (s.setTrunk t (s.stored t m.body)) t
      else State.disable (s.setTrunk t (s.stored t m.body)) t) = v at answer touched record
    have here := (record t).trans (if_pos rfl)
    have rest := State.answered_touches (G := portViews) v p m .ok ((v.trunk t).settings ++ [v.stateField t])
    have after (t' : TrunkId) := rest.trunkAll t'
    have body : (v.trunk t).settings = (s.stored t m.body).settings := by
      rw [here]; split
      · rfl
      · split <;> rfl
    have state : (v.trunk t).state = if byteAt m.body 1 = 0 then .off
        else if (s.trunk t).state = .off then .standby else (s.trunk t).state := by
      rw [here]
      obtain hb | hb : byteAt m.body 1 = 1 ∨ byteAt m.body 1 = 0 := by omega
      · rw [if_pos hb, if_neg (show ¬ byteAt m.body 1 = 0 by omega)]
      · rw [if_neg (show ¬ byteAt m.body 1 = 1 by omega), if_pos hb]
        split
        · assumption
        · rfl
    have responses : (v.port p).responses = (s.port p).responses := by
      have same := congrArg Port.responses (touched.bare p)
      exact same
    refine ⟨_, (v.port p).ready, answer, ?_⟩
    rw [after t]
    refine ⟨?_, ?_, ?_, ?_, ?_, state, fun hr => ?_, fun hr => ?_, ?_, ?_, ?_, ?_, fun t' hne => ?_, ?_⟩
    iterate 5
      · rw [here]; split
        · rfl
        · split <;> rfl
    · rw [here]
      split
      · next hb =>
        exact if_neg fun hx => hr ⟨hb, hx.1, hx.2.1, (s.trunkEmpty_iff t).1 hx.2.2⟩
      · split
        · next ho => exact s.stored_idle t _ (by rw [ho]; nofun)
        · rfl
    · obtain ⟨hb, ha, hp, hd⟩ := hr
      rw [here, if_pos hb]
      exact if_pos ⟨ha, hp, (s.trunkEmpty_iff t).2 hd⟩
    · rw [State.answered, State.port_setPort_self, body, s.settings_stored t h1 h2 h6]
      exact congrArg (· ++ _) responses
    · rw [here]; split
      · rfl
      · split <;> rfl
    · rw [here]; split
      · rfl
      · split <;> rfl
    · rw [here]; split
      · rfl
      · split <;> rfl
    · rw [after t', record t', if_neg hne]
    · exact ((touched.mono (G := portViews ++ Command.footprint .trunkSet) (View.subset_of (by decide +kernel))).trans
        (rest.mono (View.subset_of (by decide +kernel)))).exitFrame (View.subset_of (by decide +kernel))
  · intro r stored leads h2 h6
    have answer {after : Trunk} (h1 : byteAt m.body 1 < 2)
        (hv : (if byteAt m.body 1 = 1 then State.enable (s.setTrunk t (s.stored t m.body)) t
          else State.disable (s.setTrunk t (s.stored t m.body)) t) = s.setTrunk t after)
        (hs : after.settings = (s.stored t m.body).settings) : leads after := by
      have at_ := exec_ok h (trunkSetRule_good (s := s) ht h1 h2 h6 hv.symm) (i := .trunkSet p)
      rw [State.stateField, State.trunk_setTrunk, if_pos rfl, hs, s.settings_stored t h1 h2 h6] at at_
      exact at_
    refine ⟨fun hb => ⟨(s.stored t m.body).idle, answer (by omega) ?_ rfl⟩, fun hb ho => answer (by omega) ?_ rfl,
      fun hb ho hs => answer (by omega) ?_ rfl⟩
    · rw [if_pos hb, State.enable_eq, State.setTrunk_setTrunk, State.trunk_setTrunk, if_pos rfl]
      rfl
    · rw [if_neg (show ¬ byteAt m.body 1 = 1 by omega)]
      have kept : State.disable (s.setTrunk t (s.stored t m.body)) t = s.setTrunk t (s.stored t m.body) := by
        unfold State.disable
        rw [State.trunk_setTrunk, if_pos rfl, show (s.stored t m.body).state = .off from ho]
      rw [kept]
      refine congrArg _ ?_
      rw [← s.stored_idle t m.body (by rw [show (s.trunk t).state = .off from ho]; nofun)]
      rfl
    · have here : State.trunk (s.setTrunk t (s.stored t m.body)) t = s.stored t m.body := by
        rw [State.trunk_setTrunk, if_pos rfl]
      rw [if_neg (show ¬ byteAt m.body 1 = 1 by omega), State.disable_idle (by rw [here]; exact ho) (by rw [here]; exact hs), here,
        State.setTrunk_setTrunk]
      refine congrArg _ ?_
      have active : (s.stored t m.body).state ≠ .active := fun ha => by
        have hr : r.state = .active := ha
        rw [hr] at hs
        cases hs
      rw [Trunk.disabled, Trunk.left, if_neg active]
      rfl

/-! ### TRUNK_START, TRUNK_STANDBY and TRUNK_RESET (R32, R34) -/

/-- A trunk that stands down: the quit of its state, nothing in STANDBY. -/
theorem State.standDown_quit {s : State} {t : TrunkId} (ho : (s.trunk t).state ≠ .off)
    (hs : (s.trunk t).state ≠ .standby) : s.standDown t = s.quitTrunk t .standby none := by
  unfold State.standDown
  split <;> simp_all

theorem State.standDown_standby {s : State} {t : TrunkId} (hs : (s.trunk t).state = .standby) :
    s.standDown t = s := by
  unfold State.standDown
  rw [hs]

theorem trunkStandbyRule_on {b : List Byte} {s : State} {t : TrunkId} (ht : byteAt b 0 = t.val)
    (ho : (s.trunk t).state ≠ .off) : trunkStandbyRule b s = ⟨s.standDown t, .ok, [(s.standDown t).stateField t]⟩ := by
  rw [trunkStandbyRule, onTrunk_val _ t ht]
  split <;> simp_all

theorem trunkResetRule_on {b : List Byte} {s : State} {t : TrunkId} (ht : byteAt b 0 = t.val)
    (ho : (s.trunk t).state ≠ .off) : trunkResetRule b s =
      ⟨(s.standDown t).setTrunk t ((s.standDown t).trunk t).clean, .ok, [(s.standDown t).stateField t]⟩ := by
  have field : State.stateField ((s.standDown t).setTrunk t ((s.standDown t).trunk t).clean) t
      = (s.standDown t).stateField t := by
    rw [State.stateField, State.trunk_setTrunk, if_pos rfl]
    rfl
  rw [trunkResetRule, onTrunk_val _ t ht]
  split
  · exact absurd ‹_› ho
  all_goals rw [← field] <;> rfl

/-- A trunk outside ACTIVE and LOST that quits has the state it goes to. -/
theorem State.stateField_setTrunk (s : State) (t : TrunkId) (r : Trunk) :
    (s.setTrunk t r).stateField t = .u8 r.state.code := by
  rw [State.stateField, State.trunk_setTrunk, if_pos rfl]

/-- Settles O18: the three rules by the trunk's state. -/
theorem trunkCommandsByState : Obligations.TrunkCommandsByState := by
  intro p m s t ht r
  have refused {b : Command} {rule} (h : s.Taking p b m) {i : Instr} (hi : portCommand i = some (p, b))
      (hr : b.rule = rule) (hw : rule m.body s = ⟨s, .wrongState, []⟩) :
      exec i s = .next (s.answered p m .wrongState []) := exec_bare h (hr ▸ hw) hi
  have quiet (hs : r.state = .waking ∨ r.state = .aligning) :
      s.standDown t = s.setTrunk t (r.quit .standby none) := by
    rw [State.standDown_quit, State.quitTrunk_idle]
    · obtain hs | hs := hs <;> exact congrArg TrunkState.serving hs
    · obtain hs | hs := hs <;> exact fun h => nomatch hs.symm.trans h
    · obtain hs | hs := hs <;> exact fun h => nomatch hs.symm.trans h
  have on (hs : r.state = .waking ∨ r.state = .aligning) : (s.trunk t).state ≠ .off := by
    obtain hs | hs := hs <;> exact fun h => nomatch hs.symm.trans h
  refine ⟨fun h => ⟨fun hs => ?_, fun hs => ?_, fun ho hs => ?_⟩, fun h => ⟨fun hs => ?_, fun hs => ?_, fun hs => ?_⟩,
    fun h => ⟨fun hs => ?_, fun hs => ?_, fun hs => ?_⟩⟩
  · refine refused h rfl rfl (?_ : trunkStartRule m.body s = _)
    rw [trunkStartRule, onTrunk_val _ t ht, show (s.trunk t).state = .off from hs]
  · refine exec_ok h (?_ : trunkStartRule m.body s = _)
    rw [trunkStartRule, onTrunk_val _ t ht, show (s.trunk t).state = .standby from hs] <;> rfl
  · refine exec_ok h (?_ : trunkStartRule m.body s = _)
    rw [trunkStartRule, onTrunk_val _ t ht]
    split
    · exact absurd ‹_› ho
    · exact absurd ‹_› hs
    all_goals rfl
  · refine refused h rfl rfl (?_ : trunkStandbyRule m.body s = _)
    rw [trunkStandbyRule, onTrunk_val _ t ht, show (s.trunk t).state = .off from hs]
  · refine exec_ok h (?_ : trunkStandbyRule m.body s = _)
    rw [trunkStandbyRule_on ht (by rw [show (s.trunk t).state = .standby from hs]; nofun),
      State.standDown_standby hs, State.stateField, show (s.trunk t).state = .standby from hs] <;> rfl
  · refine exec_ok h (?_ : trunkStandbyRule m.body s = _)
    rw [trunkStandbyRule_on ht (on hs), quiet hs, State.stateField_setTrunk] <;> rfl
  · refine refused h rfl rfl (?_ : trunkResetRule m.body s = _)
    rw [trunkResetRule, onTrunk_val _ t ht, show (s.trunk t).state = .off from hs]
  · refine exec_ok h (?_ : trunkResetRule m.body s = _)
    have field : s.stateField t = .u8 1 := congrArg (fun x : TrunkState => Field.u8 x.code) hs
    rw [trunkResetRule_on ht (by rw [show (s.trunk t).state = .standby from hs]; nofun),
      State.standDown_standby hs, field] <;> rfl
  · refine exec_ok h (?_ : trunkResetRule m.body s = _)
    rw [trunkResetRule_on ht (on hs), quiet hs, State.stateField_setTrunk, State.trunk_setTrunk, if_pos rfl,
      State.setTrunk_setTrunk] <;> rfl

/-! ### Out of ACTIVE and LOST (R28, R29) -/

theorem State.trunkTimeoutDue_iff (s : State) (t : TrunkId) :
    s.trunkTimeoutDue t = true ↔ ∃ stamp, (s.trunk t).entry = some stamp ∧ 250 ≤ elapsed s.now stamp := by
  unfold State.trunkTimeoutDue
  cases (s.trunk t).entry with
  | none => exact ⟨nofun, fun ⟨_, h, _⟩ => nomatch h⟩
  | some stamp =>
    rw [decide_eq_true_eq]
    exact ⟨fun h => ⟨stamp, rfl, h⟩, fun ⟨_, he, h⟩ => Option.some.inj he ▸ h⟩

/-- What a notice leaves on Port W is told by that port and the time. -/
theorem State.portW_notify {s v : State} (hw : v.ports.w = s.ports.w) (hn : v.now = s.now) (n : Notice) :
    (v.notify .W n).ports.w = (s.notify .W n).ports.w := by
  have port : v.port .W = s.port .W := hw
  have before : (s.notify .W n).ports.w = _ := State.port_notify s .W n .W
  have after : (v.notify .W n).ports.w = _ := State.port_notify v .W n .W
  rw [before, after, if_pos rfl, if_pos rfl, port, hn]

/-- What a response leaves on Port W is told by that port. -/
theorem State.portW_answered {s v : State} (hw : v.ports.w = s.ports.w) (m : PortMessage) (r : Result)
    (b : List Field) : (v.answered .W m r b).ports.w = (s.answered .W m r b).ports.w := by
  unfold State.answered State.setPort State.port
  dsimp only
  rw [hw]

/-- What leaving ACTIVE or LOST does beside the trunk and its notice or response. -/
theorem State.exit_effects {F : List View} {s u : State} {t : TrunkId} (touched : s.Touches F u)
    (cells : ∀ c, u.cells.get? c = if c ∈ cellsOf t then (s.cells.get? c).map Cell.unhear else s.cells.get? c)
    (others : ∀ t', t' ≠ t → u.trunk t' = s.trunk t')
    (hF : F ⊆ portViews ++ (storeViews ++ .trunk .intake :: .trunk .urgent :: .trunk .regular :: .trunk .flags
      :: quitViews)) :
    (∀ c x, c ∈ cellsOf t → s.cells.get? c = some x → ∃ y, u.cells.get? c = some y ∧ y.live = .unheard
        ∧ (x.live ≠ .unheard → y = { x with
            live := .unheard, miss := 0, accepted := .radioOff, candidate := none })
        ∧ (x.live = .unheard → y = x))
      ∧ (∀ c, c ∉ cellsOf t → u.cells.get? c = s.cells.get? c)
      ∧ (∀ t', t' ≠ t → u.trunk t' = s.trunk t')
      ∧ u = { s with trunks := u.trunks, ports := u.ports, cells := u.cells, demand := u.demand,
                     streams := u.streams, descs := u.descs, used := u.used } := by
  refine ⟨fun c x hc hx => ⟨x.unhear, ?_, x.unhear_eq⟩, fun c hc => ?_, others, touched.exitFrame hF⟩
  · rw [cells, if_pos hc, hx]; rfl
  · rw [cells, if_neg hc]

theorem exec_lostGiveUp {t : TrunkId} {s : State} (hs : s.held = false) : exec (.lostGiveUp t) s = .next
    (if (s.trunk t).state = .lost ∧ s.trunkTimeoutDue t = true then
      (s.quitTrunk t .waking (some s.now)).trunkNotice t .lost .waking .gaveUp else s) := by
  simp only [exec, execLostGiveUp, State.live_released s hs]
  cases h : (s.trunk t).state <;> simp

theorem exec_idleTimerExpiry {t : TrunkId} {s : State} (hs : s.held = false) : exec (.idleTimerExpiry t) s = .next
    (match (s.trunk t).state, (s.trunk t).idle with
      | .active, some stamp =>
        if (s.trunk t).idlePeriod * unitsPerSecond ≤ elapsed s.now stamp then
          (s.quitTrunk t .standby none).trunkNotice t .active .standby .idle
        else s
      | _, _ => s) := by
  simp only [exec, execIdleTimerExpiry, State.live_released s hs]
  cases h : (s.trunk t).state <;> cases (s.trunk t).idle <;> rfl

/-- Settles O19: each way out is the quit of the trunk's state, with its notice or its response. -/
theorem trunkExitEffects : Obligations.TrunkExitEffects := by
  refine ⟨fun s t i dest after w hs hserving => ?_, fun s t hs => ⟨fun h => ?_, fun h => ?_⟩⟩
  · intro r left told way
    have notOff : (s.trunk t).state ≠ .off := fun h => by rw [h] at hserving; cases hserving
    have notStandby : (s.trunk t).state ≠ .standby := fun h => by rw [h] at hserving; cases hserving
    have record (d : TrunkState) (e : Option Time) (t' : TrunkId) := s.trunk_quitTrunk t d e t'
    have quitCells (d : TrunkState) (e : Option Time) (c : CellId) := State.cells_quitTrunk hserving d e c
    have quits (d : TrunkState) (e : Option Time) := State.quitTrunk_touches (G := quitViews) s t d e
    obtain ⟨stamp, rfl, rfl, ha, hi, hd, rfl, rfl⟩ | ⟨stamp, rfl, rfl, hl, he, hd, rfl, rfl⟩
      | ⟨p, m, rfl, h, ht, rfl, rfl, rfl⟩ | ⟨p, m, rfl, h, ht, rfl, rfl, rfl⟩
      | ⟨p, m, rfl, h, ht, rfl, h1, h2, h6, rfl, rfl⟩ := way
    · have quit := quits .standby none
      have noted := State.trunkNotice_touches (G := [.portW]) (s.quitTrunk t .standby none) t .active .standby .idle
      refine ⟨_, (exec_idleTimerExpiry hs).trans ?_, ?_, ?_, ?_, State.exit_effects
        ((quit.mono (G := .portW :: quitViews) (View.subset_of (by decide +kernel))).trans
          (noted.mono (View.subset_of (by decide +kernel)))) (fun c => ?_) (fun t' hne => ?_)
        (View.subset_of (by decide +kernel))⟩
      · rw [show (s.trunk t).state = .active from ha, show (s.trunk t).idle = some stamp from hi]
        exact congrArg _ (if_pos hd)
      · rw [noted.trunkAll, record, if_pos rfl]; rfl
      · exact (State.portW_notify quit.portW quit.now _).trans (congrArg
          (fun x => (s.notify .W (.trunkState t x .standby .idle)).ports.w) ha.symm)
      · exact noted.portT.trans quit.portT
      · rw [noted.cells, quitCells]
      · rw [noted.trunkAll, record, if_neg hne]
    · have quit := quits .waking (some s.now)
      have noted := State.trunkNotice_touches (G := [.portW]) (s.quitTrunk t .waking (some s.now)) t .lost .waking
        .gaveUp
      refine ⟨_, (exec_lostGiveUp hs).trans ?_, ?_, ?_, ?_, State.exit_effects
        ((quit.mono (G := .portW :: quitViews) (View.subset_of (by decide +kernel))).trans
          (noted.mono (View.subset_of (by decide +kernel)))) (fun c => ?_) (fun t' hne => ?_)
        (View.subset_of (by decide +kernel))⟩
      · exact congrArg _ (if_pos ⟨hl, (s.trunkTimeoutDue_iff t).2 ⟨stamp, he, hd⟩⟩)
      · rw [noted.trunkAll, record, if_pos rfl]; rfl
      · exact (State.portW_notify quit.portW quit.now _).trans (congrArg
          (fun x => (s.notify .W (.trunkState t x .waking .gaveUp)).ports.w) hl.symm)
      · exact noted.portT.trans quit.portT
      · rw [noted.cells, quitCells]
      · rw [noted.trunkAll, record, if_neg hne]
    · obtain rfl : p = .W := beq_iff_eq.1 h.permitted
      have quit := quits .standby none
      have answer := exec_ok (i := .trunkStandby .W) h (show trunkStandbyRule m.body s = _ from
        trunkStandbyRule_on ht notOff)
      rw [State.standDown_quit notOff notStandby, State.stateField, record, if_pos rfl] at answer
      have rest := State.answered_touches (G := portViews) (s.quitTrunk t .standby none) .W m .ok [.u8 1]
      refine ⟨_, answer, ?_, State.portW_answered quit.portW _ _ _, quit.portT, State.exit_effects
        ((quit.mono (G := portViews ++ quitViews) (View.subset_of (by decide +kernel))).trans
          (rest.mono (View.subset_of (by decide +kernel)))) (fun c => ?_) (fun t' hne => ?_)
        (View.subset_of (by decide +kernel))⟩
      · exact (rest.trunkAll t).trans ((record _ _ t).trans (if_pos rfl))
      · exact (congrArg (fun x : Table Cell => x.get? c) rest.cells).trans (quitCells _ _ c)
      · exact (rest.trunkAll t').trans ((record _ _ t').trans (if_neg hne))
    · obtain rfl : p = .W := beq_iff_eq.1 h.permitted
      have quit := quits .standby none
      have answer := exec_ok (i := .trunkReset .W) h (show trunkResetRule m.body s = _ from
        trunkResetRule_on ht notOff)
      have touched := Command.rule_touches .trunkReset m.body s
      rw [show Command.rule .trunkReset m.body s = _ from trunkResetRule_on ht notOff] at touched
      rw [State.standDown_quit notOff notStandby] at answer touched
      rw [State.stateField, record, if_pos rfl] at answer touched
      have rest := State.answered_touches (G := portViews) ((s.quitTrunk t .standby none).setTrunk t
        ((s.trunk t).left .standby none).clean) .W m .ok [.u8 1]
      refine ⟨_, answer, ?_, State.portW_answered quit.portW _ _ _, quit.portT, State.exit_effects
        ((touched.mono (G := portViews ++ Command.footprint .trunkReset) (View.subset_of (by decide +kernel))).trans
          (rest.mono (View.subset_of (by decide +kernel)))) (fun c => ?_) (fun t' hne => ?_)
        (View.subset_of (by decide +kernel))⟩
      · refine (rest.trunkAll t).trans ?_
        rw [State.trunk_setTrunk, if_pos rfl]; rfl
      · exact (congrArg (fun x : Table Cell => x.get? c) rest.cells).trans (quitCells _ _ c)
      · refine (rest.trunkAll t').trans ?_
        rw [State.trunk_setTrunk, if_neg hne, record, if_neg hne]
    · obtain rfl : p = .W := beq_iff_eq.1 h.permitted
      have answer := exec_ok (i := .trunkSet .W) h (trunkSetRule_good (s := s) ht (by omega) h2 h6 rfl)
      have touched := Command.rule_touches .trunkSet m.body s
      rw [show Command.rule .trunkSet m.body s = _ from trunkSetRule_good (s := s) ht (by omega) h2 h6 rfl] at touched
      have settled := s.trunk_set t m.body
      have off : ¬ byteAt m.body 1 = 1 := by omega
      have stored : State.trunk (s.setTrunk t (s.stored t m.body)) t = s.stored t m.body := by
        rw [State.trunk_setTrunk, if_pos rfl]
      have gone (c : CellId) : (State.disable (s.setTrunk t (s.stored t m.body)) t).cells.get? c =
          if c ∈ cellsOf t then (s.cells.get? c).map Cell.unhear else s.cells.get? c := by
        rw [State.disable_quit (by rw [stored]; exact notOff)]
        exact State.cells_quitTrunk (by rw [stored]; exact hserving) .off none c
      rw [if_neg off] at answer touched settled
      generalize State.disable (s.setTrunk t (s.stored t m.body)) t = v at answer touched settled gone
      have here : v.trunk t = (s.stored t m.body).disabled := by
        rw [settled, if_pos rfl, if_neg off, if_neg notOff]
      have settings : (v.trunk t).settings ++ [v.stateField t] = [.u8 0, .u8 (byteAt m.body 2),
          .u16 (min 3600 (numAt m.body 4 2)), .u8 (byteAt m.body 6), .u16 (min 320 (numAt m.body 8 2)), .u8 0] := by
        have stored := s.settings_stored t (b := m.body) (by omega) h2 h6
        rw [h1] at stored
        rw [State.stateField, here]
        exact congrArg (· ++ [.u8 0]) stored
      rw [settings] at answer
      have rest := State.answered_touches (G := portViews) v .W m .ok [.u8 0, .u8 (byteAt m.body 2),
        .u16 (min 3600 (numAt m.body 4 2)), .u8 (byteAt m.body 6), .u16 (min 320 (numAt m.body 8 2)), .u8 0]
      refine ⟨_, answer, ?_, State.portW_answered touched.portW _ _ _, touched.portT, State.exit_effects
        ((touched.mono (G := portViews ++ Command.footprint .trunkSet) (View.subset_of (by decide +kernel))).trans
          (rest.mono (View.subset_of (by decide +kernel)))) (fun c => ?_) (fun t' hne => ?_)
        (View.subset_of (by decide +kernel))⟩
      · refine (rest.trunkAll t).trans (here.trans ?_)
        rw [Trunk.disabled, Trunk.left, State.stored, h1]
        rfl
      · exact (congrArg (fun x : Table Cell => x.get? c) rest.cells).trans (gone c)
      · exact (rest.trunkAll t').trans ((settled t').trans (if_neg hne))
  · refine (exec_lostGiveUp hs).trans (congrArg _ (if_neg fun ⟨hl, hd⟩ => ?_))
    obtain ⟨stamp, he, hx⟩ := (s.trunkTimeoutDue_iff t).1 hd
    exact h.elim (fun hn => hn hl) fun hn => absurd (hn stamp he) (Nat.not_lt.2 hx)
  · refine (exec_idleTimerExpiry hs).trans (congrArg _ ?_)
    split
    · next stamp ha hi => exact if_neg (h.elim (fun hn => absurd ha hn) fun hn => Nat.not_le.2 (hn stamp hi))
    · rfl

/-! ### The events of STANDBY, WAKING and ALIGNING -/

theorem exec_wakeSignal {t : TrunkId} {s : State} (hs : s.held = false) : exec (.wakeSignal t) s = .next
    (if (s.trunk t).state = .standby ∧ (s.trunk t).autoWake = true then
      (s.enterWaking t).trunkNotice t .standby .waking .wakeSignal else s) := by
  simp only [exec, execWakeSignal, State.live_released s hs]
  cases h : (s.trunk t).state <;> simp

theorem exec_upstreamSignalDetected {t : TrunkId} {s : State} (hs : s.held = false) :
    exec (.upstreamSignalDetected t) s = .next (if (s.trunk t).state = .waking then
      (s.enterAligning t).trunkNotice t .waking .aligning .answered else s) := by
  simp only [exec, execUpstreamSignalDetected, State.live_released s hs]
  cases h : (s.trunk t).state <;> simp

theorem exec_wakeTimeout {t : TrunkId} {s : State} (hs : s.held = false) : exec (.wakeTimeout t) s = .next
    (if (s.trunk t).state = .waking ∧ s.trunkTimeoutDue t = true then
      (s.quitTrunk t .standby none).trunkNotice t .waking .standby .noAnswer else s) := by
  simp only [exec, execWakeTimeout, State.live_released s hs]
  cases h : (s.trunk t).state <;> simp

theorem exec_alignTimeout {t : TrunkId} {s : State} (hs : s.held = false) : exec (.alignTimeout t) s = .next
    (if (s.trunk t).state = .aligning ∧ s.trunkTimeoutDue t = true then
      (s.quitTrunk t .waking (some s.now)).trunkNotice t .aligning .waking .alignTimeout else s) := by
  simp only [exec, execAlignTimeout, State.live_released s hs]
  cases h : (s.trunk t).state <;> simp

/-- Settles O20: the four events by the trunk's state and its entry time. -/
theorem trunkEventsByState : Obligations.TrunkEventsByState := by
  intro s t hs r due told
  have timed := s.trunkTimeoutDue_iff t
  have quit {st : TrunkState} (hst : r.state = st) (hq : st.serving = false) (d : TrunkState) (e : Option Time) :
      s.quitTrunk t d e = s.setTrunk t (r.quit d e) :=
    State.quitTrunk_idle (by rw [show (s.trunk t).state = st from hst]; exact hq) d e
  refine ⟨fun ha hw => ?_, fun hn => ?_, fun ha => ?_, fun hn => ?_, fun ha hd => ?_, fun hn => ?_, fun ha hd => ?_,
    fun hn => ?_⟩
  · exact (exec_wakeSignal hs).trans (congrArg _ (if_pos ⟨ha, hw⟩))
  · refine (exec_wakeSignal hs).trans (congrArg _ (if_neg fun ⟨ha, hw⟩ => ?_))
    exact hn.elim (fun h => h ha) fun h => Bool.false_ne_true (h.symm.trans hw)
  · exact (exec_upstreamSignalDetected hs).trans (congrArg _ (if_pos ha))
  · exact (exec_upstreamSignalDetected hs).trans (congrArg _ (if_neg hn))
  · refine (exec_wakeTimeout hs).trans (congrArg _ ((if_pos ⟨ha, timed.2 hd⟩).trans ?_))
    rw [quit ha rfl]; rfl
  · exact (exec_wakeTimeout hs).trans (congrArg _ (if_neg fun ⟨ha, hd⟩ => hn.elim (· ha) (· (timed.1 hd))))
  · refine (exec_alignTimeout hs).trans (congrArg _ ((if_pos ⟨ha, timed.2 hd⟩).trans ?_))
    rw [quit ha rfl]; rfl
  · exact (exec_alignTimeout hs).trans (congrArg _ (if_neg fun ⟨ha, hd⟩ => hn.elim (· ha) (· (timed.1 hd))))
end Sys2Proof.Machine
end


section
/-! PROOF. Frames: the multiframe start (R175), the frames of each state (R17, R47, R62, R176) and what an upstream
frame does to the trunk's record (R20, R38). -/
namespace Sys2Proof.Machine

/-! ### The multiframe start -/

/-- The chunks of a descriptor still to send on a trunk, by its state. -/
theorem State.remainingChunks_eq (s : State) (t : TrunkId) (d : DescIx) : s.remainingChunks t d =
    match s.desc? d with
    | none => []
    | some y => match y.state with
      | .released _ cs => (List.range cs[t.val].remaining).map fun j =>
          ⟨d, y.chunks cs[t.val].rendition - cs[t.val].remaining + j⟩
      | .uploading _ | .held => [] := by
  unfold State.remainingChunks
  cases s.desc? d with
  | none => rfl
  | some y =>
    dsimp only
    unfold Desc.carry
    cases y.state <;> rfl

theorem State.chunksLeft_sum (s : State) (t : TrunkId) :
    s.chunksLeft t = ((s.trunk t).replay.map fun d => (s.remainingChunks t d).length).sum := by
  refine congrArg List.sum (List.map_congr_left fun d _ => ?_)
  unfold State.remainingChunks
  cases s.desc? d with
  | none => rfl
  | some y => simp

theorem Trunk.multiframeDue_iff (r : Trunk) : r.multiframeDue = true ↔
    r.state.framing = true ∧ r.awaiting = false ∧ r.nextFrame = 0 ∧ r.mfTaken = false := by
  unfold Trunk.multiframeDue
  cases r.state.framing <;> cases r.awaiting <;> cases r.mfTaken <;> simp

theorem exec_multiframeStart {t : TrunkId} {s : State} (hs : s.held = false) : exec (.multiframeStart t) s = .next
    (if (s.trunk t).multiframeDue = true then s.startMultiframe t else s) := by
  simp only [exec, execMultiframeStart, State.live_released s hs]

/-- The bounds of R175. -/
theorem slots_bounds (q dr rmin : Nat) : controlSlots q dr rmin + replaySlots q dr rmin ≤ 368
    ∧ (rmin ≤ 320 → min dr rmin ≤ replaySlots q dr rmin ∧ min q 48 ≤ controlSlots q dr rmin) := by
  unfold replaySlots controlSlots replayFloor multiframeSlots
  omega

/-- Settles O21: the mark field, and on an ACTIVE trunk the allocation. -/
theorem multiframeStartAllocates : Obligations.MultiframeStartAllocates := by
  intro s t hs r left dr
  have chunks : left = s.remainingChunks t := by
    funext d
    rw [State.remainingChunks_eq]
    unfold left
    cases s.desc? d with
    | none => rfl
    | some y =>
      dsimp only
      cases y.state with
      | uploading _ | held => rfl
      | released refs cs =>
        dsimp only
        cases cs[t.val].rendition <;> rfl
  have total : dr = s.chunksLeft t := by
    rw [State.chunksLeft_sum, ← chunks]
  refine ⟨fun hf ha hn hm => ?_, fun h => ?_⟩
  · refine ⟨if r.state = .active then some (s.allocate t) else none, ?_, fun h => if_neg h, fun h =>
      ⟨s.allocate t, if_pos h, ?_⟩⟩
    · exact (exec_multiframeStart hs).trans (congrArg _ (if_pos ((Trunk.multiframeDue_iff _).2 ⟨hf, ha, hn, hm⟩)))
    · obtain ⟨whole, least⟩ := slots_bounds r.control.length dr r.rmin
      rw [chunks]
      rw [total] at whole least ⊢
      exact ⟨rfl, rfl, whole, least, rfl⟩
  · refine (exec_multiframeStart hs).trans (congrArg _ (if_neg fun hd => ?_))
    obtain ⟨hf, ha, hn, hm⟩ := (Trunk.multiframeDue_iff _).1 hd
    obtain h | h | h | h := h
    · exact Bool.false_ne_true (h.symm.trans hf)
    · exact Bool.false_ne_true (ha.symm.trans h)
    · exact h hn
    · exact Bool.false_ne_true (hm.symm.trans h)

/-! ### The frame of a trunk -/

/-- The part once the multiframe start that is due has been taken. -/
def State.started (s : State) (t : TrunkId) : State :=
  if (s.trunk t).multiframeDue = true then s.startMultiframe t else s

theorem State.started_eq {s : State} {t : TrunkId} (hf : (s.trunk t).state.framing = true)
    (ha : (s.trunk t).awaiting = false) : s.started t = s.setTrunk t { s.trunk t with
      mfTaken := if (s.trunk t).nextFrame = 0 ∧ (s.trunk t).mfTaken = false then true else (s.trunk t).mfTaken
      markField := if (s.trunk t).nextFrame = 0 ∧ (s.trunk t).mfTaken = false
        then (if (s.trunk t).markCarriage then some s.marks.count else none) else (s.trunk t).markField
      allocation := if (s.trunk t).nextFrame = 0 ∧ (s.trunk t).mfTaken = false
        then (if (s.trunk t).state = .active then some (s.allocate t) else none) else (s.trunk t).allocation } := by
  unfold State.started
  by_cases hd : (s.trunk t).nextFrame = 0 ∧ (s.trunk t).mfTaken = false
  · rw [if_pos ((Trunk.multiframeDue_iff _).2 ⟨hf, ha, hd⟩)]
    rw [if_pos hd, if_pos hd, if_pos hd]
    rfl
  · rw [if_neg fun h => hd ((Trunk.multiframeDue_iff _).1 h).2.2, if_neg hd, if_neg hd, if_neg hd]
    exact (s.setTrunk_trunk t).symm

theorem exec_frameStart {t : TrunkId} {s : State} (hs : s.held = false) (hf : (s.trunk t).state.framing = true) :
    exec (.frameStart t) s = .next (if (s.trunk t).awaiting = true then s else (s.started t).sendFrame t) := by
  simp only [exec, execFrameStart, State.live_released s hs, hf, State.started]
  cases (s.trunk t).awaiting <;> rfl

/-! ### The upstream frame -/

theorem exec_upstreamFrameReceived {t : TrunkId} {f : UpFrame} {s : State} (hs : s.held = false)
    (hf : (s.trunk t).state.framing = true) (ha : (s.trunk t).awaiting = true) :
    exec (.upstreamFrameReceived t f) s = .next (s.takeUpstream t f) := by
  simp only [exec, execUpstreamFrameReceived, State.live_released s hs, hf, ha]
  rfl

theorem bit_not (b : Bool) : bit (!b) = if b then 0 else 1 := by cases b <;> rfl

/-- The part after an upstream frame, its judgment left out. -/
def State.tallied (s w : State) (t : TrunkId) (f : UpFrame) : State := w.setTrunk t { w.trunk t with
  awaiting := false, polled := none
  marker := if (s.trunk t).nextFrame = 1 then f.marker else (s.trunk t).marker
  fails := (if (s.trunk t).nextFrame = 1 then 0 else (s.trunk t).fails) + if f.checkOk then 0 else 1 }

/-- Slot and poll settled, the frame is tallied, and frame 15 is judged. -/
theorem State.takeUpstream_eq (s : State) (t : TrunkId) (f : UpFrame) : s.takeUpstream t f =
    if (s.trunk t).nextFrame = 0 then (s.tallied (s.settleFrame t f) t f).judge t
    else s.tallied (s.settleFrame t f) t f := by
  have kept := State.settleFrame_touches (G := settleViews) s t f
  have frame : ((s.settleFrame t f).trunk t).nextFrame = (s.trunk t).nextFrame := kept.trunk .nextFrame t
  have marker : ((s.settleFrame t f).trunk t).marker = (s.trunk t).marker := kept.trunk .marker t
  have fails : ((s.settleFrame t f).trunk t).fails = (s.trunk t).fails := kept.trunk .fails t
  have tally : (s.settleFrame t f).setTrunk t (((s.settleFrame t f).trunk t).tally f)
      = s.tallied (s.settleFrame t f) t f := by
    refine congrArg (State.setTrunk _ t) ?_
    unfold Trunk.tally
    rw [← frame, ← marker, ← fails, bit_not]
  have next : ((s.tallied (s.settleFrame t f) t f).trunk t).nextFrame = (s.trunk t).nextFrame := by
    rw [State.tallied, State.trunk_setTrunk, if_pos rfl]
    exact frame
  unfold State.takeUpstream
  dsimp only
  rw [tally, next]

theorem State.settleFrame_aligning {s : State} {t : TrunkId} (h : (s.trunk t).state = .aligning) (f : UpFrame) :
    s.settleFrame t f = s.setTrunk t { s.trunk t with echo := .idle, ack := 0 } := by
  rw [State.settleFrame, h]
  dsimp only
  rw [State.setAck, State.setEcho, State.setTrunk_setTrunk, State.trunk_setTrunk, if_pos rfl]

theorem State.sendFrame_aligning {s : State} {t : TrunkId} (h : (s.trunk t).state = .aligning) :
    s.sendFrame t = s.sendAligning t := by rw [State.sendFrame, h]

theorem State.sendAligning_setTrunk (s : State) (t : TrunkId) (r : Trunk) : (s.setTrunk t r).sendAligning t =
    s.setTrunk t (r.sent ⟨r.nextFrame, true, .idle, none, 0, frameMark r, List.replicate frameSlots .empty⟩) := by
  rw [State.sendAligning, State.trunk_setTrunk, if_pos rfl, State.setTrunk_setTrunk]

/-- Settles O22: the frame sent, and the upstream frame, of an ALIGNING trunk. -/
theorem aligningFrames : Obligations.AligningFrames := by
  intro s t hs hst r due mark
  have framing : (s.trunk t).state.framing = true := by rw [hst]; rfl
  refine ⟨fun ha => ?_, fun ha => ?_, fun f ha hn => ?_⟩
  · refine (exec_frameStart hs framing).trans (congrArg _ ?_)
    have idle : ¬ (s.trunk t).state = .active := fun h => nomatch hst.symm.trans h
    have start := State.started_eq framing ha
    rw [if_neg idle] at start
    rw [if_neg fun h => Bool.false_ne_true (ha.symm.trans h), start]
    exact (State.sendFrame_aligning (by rw [State.trunk_setTrunk, if_pos rfl]; exact hst)).trans
      (State.sendAligning_setTrunk ..)
  · exact (exec_frameStart hs framing).trans (congrArg _ (if_pos ha))
  · refine (exec_upstreamFrameReceived hs framing ha).trans (congrArg _ ?_)
    rw [State.takeUpstream_eq, if_neg hn, State.settleFrame_aligning hst, State.tallied, State.setTrunk_setTrunk,
      State.trunk_setTrunk, if_pos rfl]

/-! ### The frames of an ACTIVE or LOST trunk -/

/-- The part after the first n slots of a frame that begins with slot k. -/
def State.slotRun (s : State) (t : TrunkId) (k : Nat) : Nat → State
  | 0 => s
  | n + 1 => ((s.slotRun t k n).fillSlot t (k + n)).1

theorem State.slotRun_succ (s : State) (t : TrunkId) (k n : Nat) :
    s.slotRun t k (n + 1) = (s.fillSlot t k).1.slotRun t (k + 1) n := by
  induction n with
  | zero => rfl
  | succ n ih =>
    rw [State.slotRun, ih, State.slotRun, Nat.add_right_comm]
    rfl

theorem State.fillSlots_eq (t : TrunkId) (n : Nat) (s : State) (k : Nat) : s.fillSlots t k n =
    (s.slotRun t k n, (List.range n).map fun i => ((s.slotRun t k i).fillSlot t (k + i)).2) := by
  induction n generalizing s k with
  | zero => rfl
  | succ n ih =>
    rw [State.fillSlots, ih, List.range_succ_eq_map, List.map_cons, List.map_map, State.slotRun_succ]
    refine congrArg (Prod.mk _) (congrArg (List.cons _) (List.map_congr_left fun i _ => ?_))
    rw [Function.comp, State.slotRun_succ, Nat.add_right_comm]
    rfl

theorem State.fillSlots_bare {s : State} {t : TrunkId} (h : (s.trunk t).allocation = none) (k n : Nat) :
    s.fillSlots t k n = (s, List.replicate n .empty) := by
  have slot (k : Nat) : s.fillSlot t k = (s, .empty) := by rw [State.fillSlot, h]
  induction n generalizing k with
  | zero => rfl
  | succ n ih =>
    rw [State.fillSlots, slot, ih] <;> rfl

/-- Filling a slot leaves the other trunks alone. -/
theorem State.fillSlot_other (s : State) (t : TrunkId) (n : Nat) {t' : TrunkId} (h : t' ≠ t) :
    (s.fillSlot t n).1.trunk t' = s.trunk t' := by
  have control : (s.fillControl t).1.trunk t' = s.trunk t' := by
    unfold State.fillControl
    dsimp only
    split
    · rfl
    · exact (State.trunk_setTrunk ..).trans (if_neg h)
  have chunk (e : PlanEntry) : (s.sendChunk t e).1.trunk t' = s.trunk t' := by
    unfold State.sendChunk
    split
    · rfl
    · dsimp only
      split
      · rfl
      · rfl
      · split
        · exact (State.trunk_unlink ..).trans (if_neg h)
        · rfl
  unfold State.fillSlot
  split
  · rfl
  · split
    · exact control
    · split
      · split
        · exact chunk _
        · rfl
        · rfl
      · rfl

/-- The choice of the next poll takes from the urgent set first, then from the list (R62). -/
theorem State.choosePoll_record (s : State) (t : TrunkId) : (s.choosePoll t).1 = { s.trunk t with
    urgent := (s.choosePoll t).1.urgent, regular := (s.choosePoll t).1.regular } := by
  unfold State.choosePoll
  dsimp only
  cases (s.trunk t).urgent with
  | cons pos rest => rfl
  | nil =>
    cases (s.trunk t).pollList[(s.trunk t).regular]? with
    | none => rfl
    | some pos => rfl

theorem State.choosePoll_cases (s : State) (t : TrunkId) :
    (∀ pos rest, (s.trunk t).urgent = pos :: rest → (s.choosePoll t).2 = some pos
        ∧ (s.choosePoll t).1.urgent = rest ∧ (s.choosePoll t).1.regular = (s.trunk t).regular)
      ∧ ((s.trunk t).urgent = [] → (s.choosePoll t).1.urgent = []
        ∧ ∀ pos, (s.trunk t).pollList[(s.trunk t).regular]? = some pos →
          (s.choosePoll t).2 = (if s.configured (cellAt t pos) then some pos else none)
          ∧ (s.choosePoll t).1.regular = if (s.trunk t).regular + 1 < (s.trunk t).pollList.length
              then (s.trunk t).regular + 1 else 0)
      ∧ ((s.trunk t).urgent = [] → (s.trunk t).pollList = [] →
        (s.choosePoll t).2 = none ∧ (s.choosePoll t).1.regular = (s.trunk t).regular) := by
  unfold State.choosePoll
  dsimp only
  refine ⟨fun pos rest hu => ?_, fun hu => ⟨?_, fun pos hp => ?_⟩, fun hu hl => ?_⟩
  · rw [hu]; exact ⟨rfl, rfl, rfl⟩
  · rw [hu]
    cases (s.trunk t).pollList[(s.trunk t).regular]? with
    | none => exact hu
    | some pos => exact hu
  · rw [hu, hp]; exact ⟨rfl, rfl⟩
  · rw [hu, hl]; exact ⟨rfl, rfl⟩

/-- The frame of an ACTIVE or LOST trunk. -/
def State.servingFrame (s : State) (t : TrunkId) : DownFrame :=
  ⟨(s.trunk t).nextFrame, (s.trunk t).hold, (s.trunk t).echo, (s.choosePoll t).2, (s.trunk t).ack,
    frameMark (s.trunk t), ((s.setTrunk t (s.choosePoll t).1).fillSlots t (23 * (s.trunk t).nextFrame) 23).2⟩

/-- A frame of an ACTIVE or LOST trunk, with the part as it stands before each of its slots is filled. -/
structure State.Serves (s : State) (t : TrunkId) (f : DownFrame) (run : Nat → State) : Prop where
  sends : s.sendFrame t = (run 23).setTrunk t (((run 23).trunk t).sent f)
  first : run 0 = s.setTrunk t (s.choosePoll t).1
  next : ∀ n, run (n + 1) = ((run n).fillSlot t (23 * (s.trunk t).nextFrame + n)).1
  slots : f.slots = (List.range 23).map fun n => ((run n).fillSlot t (23 * (s.trunk t).nextFrame + n)).2
  number : f.number = (s.trunk t).nextFrame
  hold : f.hold = (s.trunk t).hold
  echo : f.echo = (s.trunk t).echo
  poll : f.poll = (s.choosePoll t).2
  ack : f.ack = (s.trunk t).ack
  mark : f.mark = frameMark (s.trunk t)
  bare : (s.trunk t).allocation = none → f.slots = List.replicate 23 .empty ∧ run 23 = run 0

theorem State.exists_serves {s : State} {t : TrunkId} (h : (s.trunk t).state.serving = true) :
    ∃ f run, s.Serves t f run := by
  have fill := State.fillSlots_eq t 23 (s.setTrunk t (s.choosePoll t).1) (23 * (s.trunk t).nextFrame)
  have send : s.sendServing t =
      ((s.setTrunk t (s.choosePoll t).1).fillSlots t (23 * (s.trunk t).nextFrame) 23).1.setTrunk t
        ((((s.setTrunk t (s.choosePoll t).1).fillSlots t (23 * (s.trunk t).nextFrame) 23).1.trunk t).sent
          (s.servingFrame t)) := rfl
  have ran := congrArg Prod.fst fill
  dsimp only at ran
  refine ⟨s.servingFrame t, (s.setTrunk t (s.choosePoll t).1).slotRun t (23 * (s.trunk t).nextFrame), ?_, rfl,
    fun _ => rfl, congrArg Prod.snd fill, rfl, rfl, rfl, rfl, rfl, rfl, fun hn => ?_⟩
  · rw [State.sendFrame, ← ran]
    cases hs : (s.trunk t).state with
    | active | lost => exact send
    | off | standby | waking | aligning => rw [hs] at h; cases h
  · have free : (State.trunk (s.setTrunk t (s.choosePoll t).1) t).allocation = none := by
      rw [State.trunk_setTrunk, if_pos rfl, State.choosePoll_record]
      exact hn
    have empty := State.fillSlots_bare free (23 * (s.trunk t).nextFrame) 23
    exact ⟨congrArg Prod.snd empty, ran.symm.trans (congrArg Prod.fst empty)⟩

namespace State.Serves
variable {s : State} {t : TrunkId} {f : DownFrame} {run : Nat → State}

theorem touches (h : s.Serves t f run) (n : Nat) : State.Touches fillViews (run 0) (run n) := by
  induction n with
  | zero => exact .refl _ _
  | succ n ih => rw [h.next]; exact ih.trans (State.fillSlot_touches ..)

theorem first_record (h : s.Serves t f run) : (run 0).trunk t = (s.choosePoll t).1 := by
  rw [h.first, State.trunk_setTrunk, if_pos rfl]

/-- Filling the slots keeps what the choice of the poll has left. -/
theorem kept (h : s.Serves t f run) (n : Nat) (x : TrunkView) (hx : View.trunk x ∉ fillViews) :
    ((run n).trunk t).view x = (s.choosePoll t).1.view x :=
  ((h.touches n).trunk x t hx).trans (congrArg (Trunk.view · x) h.first_record)

theorem others (h : s.Serves t f run) (n : Nat) {t' : TrunkId} (ht : t' ≠ t) : (run n).trunk t' = s.trunk t' := by
  induction n with
  | zero => rw [h.first, State.trunk_setTrunk, if_neg ht]
  | succ n ih => rw [h.next, State.fillSlot_other _ _ _ ht, ih]

theorem urgent (h : s.Serves t f run) (n : Nat) : ((run n).trunk t).urgent = (s.choosePoll t).1.urgent :=
  h.kept n .urgent (View.not_mem_of (by decide +kernel))

theorem regular (h : s.Serves t f run) (n : Nat) : ((run n).trunk t).regular = (s.choosePoll t).1.regular :=
  h.kept n .regular (View.not_mem_of (by decide +kernel))

theorem nextFrame (h : s.Serves t f run) (n : Nat) : ((run n).trunk t).nextFrame = (s.trunk t).nextFrame :=
  (h.kept n .nextFrame (View.not_mem_of (by decide +kernel))).trans (by rw [s.choosePoll_record t]; rfl)

theorem intake (h : s.Serves t f run) (n : Nat) : ((run n).trunk t).intake = (s.trunk t).intake :=
  (h.kept n .intake (View.not_mem_of (by decide +kernel))).trans (by rw [s.choosePoll_record t]; rfl)

/-- The record of the trunk whose frame has been sent. -/
theorem sent (h : s.Serves t f run) : (s.sendFrame t).trunk t = ((run 23).trunk t).sent f := by
  rw [h.sends, State.trunk_setTrunk, if_pos rfl]

end State.Serves

theorem Trunk.hold_iff (r : Trunk) : r.hold = true ↔ 30 ≤ r.intake.length ∨ 497 ≤ r.control.length := by
  rw [Trunk.hold, Bool.or_eq_true, decide_eq_true_eq, decide_eq_true_eq]

/-- What a frame may change, as an equation on the state. -/
theorem State.Touches.frameFrame {F : List View} {s u : State} (h : s.Touches F u)
    (hF : F ⊆ portViews ++ .trunk .allocation :: frameViews) :
    u = { s with trunks := u.trunks, ports := u.ports, streams := u.streams, descs := u.descs, used := u.used } :=
  (h.mono hF).eq_frame.trans rfl

/-- Settles O23: the slots of the frame are filled one after another; the line by the trunk's state. -/
theorem servingFrames : Obligations.ServingFrames := by
  refine ⟨fun s t hs hserving => ?_, fun s t => ?_⟩
  · intro r due mark
    have framing : (s.trunk t).state.framing = true := by
      cases h : (s.trunk t).state <;> rw [h] at hserving <;> first | rfl | cases hserving
    have start := exec_frameStart hs framing
    refine ⟨fun ha => start.trans (congrArg _ (if_pos ha)), fun ha => ?_⟩
    have sent := start.trans (congrArg _ (if_neg fun h => Bool.false_ne_true (ha.symm.trans h)))
    have begun : exec (.multiframeStart t) s = .next (s.started t) := exec_multiframeStart hs
    have record : (s.started t).trunk t = _ :=
      (congrArg (State.trunk · t) (State.started_eq framing ha)).trans ((State.trunk_setTrunk ..).trans (if_pos rfl))
    have others (t' : TrunkId) (h : t' ≠ t) : (s.started t).trunk t' = s.trunk t' :=
      (congrArg (State.trunk · t') (State.started_eq framing ha)).trans ((State.trunk_setTrunk ..).trans (if_neg h))
    have touched : s.Touches (.trunk .allocation :: frameViews) _ :=
      exec_touches (i := .frameStart t) nofun nofun sent
    have kinds : (s.started t).configured = s.configured := by
      rw [State.started_eq framing ha]; rfl
    generalize s.started t = v at sent begun record others touched kinds
    have number : (v.trunk t).nextFrame = r.nextFrame := by rw [record]
    have echo : (v.trunk t).echo = r.echo := by rw [record]
    have ack : (v.trunk t).ack = r.ack := by rw [record]
    have hold : (v.trunk t).hold = r.hold := by rw [record]; rfl
    have control : (v.trunk t).control = r.control := by rw [record]
    have intake : (v.trunk t).intake = r.intake := by rw [record]
    have urgent : (v.trunk t).urgent = r.urgent := by rw [record]
    have regular : (v.trunk t).regular = r.regular := by rw [record]
    have list : (v.trunk t).pollList = r.pollList := by rw [record]
    obtain ⟨f, run, h⟩ := State.exists_serves (s := v) (t := t) (by rw [record]; exact hserving)
    obtain ⟨urgentCase, listCase, noneCase⟩ := v.choosePoll_cases t
    refine ⟨_, f, sent, ?_, h.number.trans number, h.echo.trans echo, h.ack.trans ack, ?_, ?_, ?_, fun hl => ?_, ?_,
      fun pos rest hu => ?_, fun hu => ?_, fun hu hl => ?_, ?_, ?_, ?_, ?_, ?_, fun t' hne => ?_,
      touched.frameFrame (View.subset_of (by decide +kernel))⟩
    · rw [h.sent]; rfl
    · rw [h.hold, hold, Trunk.hold_iff]
    · rw [h.mark, record]; rfl
    · rw [h.slots, List.length_map, List.length_range]
    · have bare : (v.trunk t).allocation = none := by
        rw [record]
        have idle : ¬ (s.trunk t).state = .active := fun h => nomatch hl.1.symm.trans h
        dsimp only
        rw [if_neg idle]
        split
        · rfl
        · next hd => exact hl.2.resolve_left hd
      obtain ⟨empty, still⟩ := h.bare bare
      refine ⟨empty, ?_⟩
      rw [h.sent, still, h.first_record, v.choosePoll_record t]
      exact control
    · refine ⟨v, run, begun, ?_, fun n hn => ?_, ?_⟩
      · rw [h.first, h.sent]
        refine congrArg (v.setTrunk t) ((v.choosePoll_record t).trans ?_)
        rw [← h.urgent 23, ← h.regular 23]
        rfl
      · rw [← number]
        refine ⟨h.next n, ?_⟩
        rw [h.slots, List.getElem?_map, List.getElem?_range hn]
        rfl
      · rw [h.sends, ← number, ← h.nextFrame 23]
        rfl
    · obtain ⟨poll, rest, same⟩ := urgentCase pos rest (urgent.trans hu)
      rw [h.sent]
      exact ⟨h.poll.trans poll, (h.urgent 23).trans rest, (h.regular 23).trans (same.trans regular)⟩
    · obtain ⟨left, next⟩ := listCase (urgent.trans hu)
      rw [h.sent]
      refine ⟨(h.urgent 23).trans left, fun pos hp => ?_⟩
      rw [list, regular, kinds] at next
      obtain ⟨poll, moved⟩ := next pos hp
      exact ⟨h.poll.trans poll, (h.regular 23).trans moved⟩
    · obtain ⟨poll, same⟩ := noneCase (urgent.trans hu) (list.trans hl)
      rw [h.sent]
      exact ⟨h.poll.trans poll, (h.regular 23).trans (same.trans regular)⟩
    · rw [h.sent, ← number, ← h.nextFrame 23]; rfl
    · rw [h.sent]; rfl
    · rw [h.sent]; rfl
    · rw [h.sent]; rfl
    · rw [h.sent]
      exact (h.intake 23).trans intake
    · rw [h.sends, State.trunk_setTrunk, if_neg hne, h.others 23 hne, others t' hne]
  · refine ⟨fun h => ?_, fun h => ?_, fun h => ?_⟩
    · unfold State.trunkLine
      obtain h | h := h <;> rw [h]
    · unfold State.trunkLine
      rw [h]
    · unfold State.trunkLine
      cases hs : (s.trunk t).state with
      | off | standby | waking => rw [hs] at h; cases h
      | aligning | active | lost => cases (s.trunk t).frame <;> rfl

end Sys2Proof.Machine
end


section
/-! PROOF. The slots of a multiframe (R176 to R178) and the bytes of a downstream frame (Chapter 12.3). -/
namespace Sys2Proof.Machine

/-! ### One slot filled -/

theorem State.fillSlot_control {s : State} {t : TrunkId} {n : Nat} {a : Allocation}
    (ha : (s.trunk t).allocation = some a) (hn : n < a.control) : s.fillSlot t n = s.fillControl t := by
  rw [State.fillSlot, ha]
  exact if_pos hn

theorem State.fillSlot_replay {s : State} {t : TrunkId} {n : Nat} {a : Allocation}
    (ha : (s.trunk t).allocation = some a) (h1 : a.control ≤ n) (h2 : n < a.control + a.replay) :
    s.fillSlot t n = match a.plan[n - a.control]? with
      | some (some e) => s.sendChunk t e
      | some none => (s, .empty)
      | none => (s, .empty) := by
  rw [State.fillSlot, ha]
  exact (if_neg (Nat.not_lt.2 h1)).trans (if_pos h2)

theorem State.fillSlot_above {s : State} {t : TrunkId} {n : Nat} {a : Allocation}
    (ha : (s.trunk t).allocation = some a) (h : a.control + a.replay ≤ n) : s.fillSlot t n = (s, .empty) := by
  rw [State.fillSlot, ha]
  exact (if_neg (by omega)).trans (if_neg (by omega))

/-- The descriptor after one of its chunks has been sent on a trunk. -/
def State.chunkSent (s : State) (t : TrunkId) (d : DescIx) (r : Desc) (refs : Nat) (cs : Vector Carry 8) : State :=
  s.putDesc d { r with state := .released refs (cs.set t.val { cs[t.val] with remaining := cs[t.val].remaining - 1 }) }

theorem State.sendChunk_released {s : State} {e : PlanEntry} {r : Desc} {refs : Nat} {cs : Vector Carry 8}
    (hd : s.desc? e.desc = some r) (hr : r.state = .released refs cs) (t : TrunkId) : s.sendChunk t e =
      (if cs[t.val].remaining ≤ 1 then (s.chunkSent t e.desc r refs cs).unlink t e.desc
        else s.chunkSent t e.desc r refs cs,
        .replay r.stream cs[t.val].rendition r.sequence e.chunk r.mark (r.chunks cs[t.val].rendition)
          (Memory.readAll s.segMem (256 * r.blocks.getD e.chunk 0) 256)) := by
  unfold State.sendChunk
  simp only [hd, hr]
  rfl

/-! ### Bytes laid one after another -/

theorem drop_add_left {α : Type} (l r : List α) (n : Nat) : (l ++ r).drop (l.length + n) = r.drop n := by
  rw [← List.drop_drop, List.drop_left]

/-- A part of parts of one length, found by its place. -/
theorem take_drop_flatMap {α β : Type} (g : α → List β) (w : Nat) (l : List α) (tail : List β)
    (hl : ∀ x ∈ l, (g x).length = w) (i : Nat) (x : α) (hx : l[i]? = some x) :
    ((l.flatMap g ++ tail).drop (w * i)).take w = g x := by
  induction l generalizing i with
  | nil => cases hx
  | cons y l ih =>
    have hy := hl y List.mem_cons_self
    rw [List.flatMap_cons, List.append_assoc]
    cases i with
    | zero =>
      cases hx
      rw [Nat.mul_zero, List.drop_zero, ← hy, List.take_left]
    | succ i =>
      rw [Nat.mul_succ, Nat.add_comm, ← hy, drop_add_left, hy]
      exact ih (fun x hx => hl x (List.mem_cons_of_mem _ hx)) i hx

theorem length_flatMap_of {α β : Type} (g : α → List β) (w : Nat) (l : List α)
    (hl : ∀ x ∈ l, (g x).length = w) : (l.flatMap g).length = w * l.length := by
  induction l with
  | nil => rfl
  | cons y l ih =>
    rw [List.flatMap_cons, List.length_append, hl y List.mem_cons_self,
      ih fun x hx => hl x (List.mem_cons_of_mem _ hx), List.length_cons, Nat.mul_succ, Nat.add_comm]

theorem Slot.length_mapEntry (x : Slot) : x.mapEntry.length = 6 := by
  cases x with
  | empty | control => rfl
  | replay => simp only [Slot.mapEntry, List.length_append, length_beBytes]; rfl

theorem Slot.length_header (x : Slot) : x.header.length = 10 := by
  cases x with
  | empty | control => rfl
  | replay => simp only [Slot.header, List.length_append, length_beBytes]; rfl

theorem CtlBody.length_payload (b : CtlBody) : b.payload.length ≤ 256 := by
  cases b <;> simp only [CtlBody.payload, List.length_append, length_beBytes] <;> decide

/-- A slot takes 266 bytes where its replay data, if it has any, is one chunk. -/
theorem Slot.length_payload (n : Nat) (x : Slot)
    (h : ∀ k l q c m n data, x = .replay k l q c m n data → data.length = 256) : (x.payload n).length = 256 := by
  cases x with
  | empty => exact (List.length_map ..).trans List.length_range
  | control m =>
    have := m.body.length_payload
    rw [Slot.payload, List.length_append, List.length_replicate]
    omega
  | replay k l q c m n data => exact h _ _ _ _ _ _ _ rfl

/-- The slots of a frame, each with its place. -/
theorem slotBytes_eq (l : List Slot) (n : Nat) :
    slotBytes n l = (l.zipIdx n).flatMap fun e => e.1.header ++ e.1.payload e.2 := by
  induction l generalizing n with
  | nil => rfl
  | cons x l ih => rw [slotBytes, ih, List.zipIdx_cons, List.flatMap_cons]

theorem length_markField (o : Option (Option Mark)) : 5 + (markField o).length = if o = none then 5 else 8 := by
  match o with
  | none => rfl
  | some none => rfl
  | some (some c) =>
    rw [markField, List.length_cons, length_beBytes, if_neg nofun]

/-- The five bytes that every header begins with. -/
def DownFrame.opening (f : DownFrame) : List Byte :=
  [BitVec.ofNat 8 f.number, BitVec.ofNat 8 (bit f.hold), BitVec.ofNat 8 f.echo.code,
    BitVec.ofNat 8 (f.poll.getD 0x20), BitVec.ofNat 8 f.ack]

theorem DownFrame.opening_eq (f : DownFrame) : f.opening = [BitVec.ofNat 8 f.number, if f.hold then 1 else 0,
        (match f.echo with
          | .position pos => BitVec.ofNat 8 pos
          | .idle => 0x20
          | .garbled => 0x21),
        BitVec.ofNat 8 (f.poll.getD 0x20), BitVec.ofNat 8 f.ack] := by
  have hold : BitVec.ofNat 8 (bit f.hold) = if f.hold then 1 else 0 := by cases f.hold <;> rfl
  have echo : BitVec.ofNat 8 f.echo.code = (match f.echo with
      | .position pos => BitVec.ofNat 8 pos
      | .idle => 0x20
      | .garbled => 0x21) := by cases f.echo <;> rfl
  rw [DownFrame.opening, hold, echo]

/-- Settles O24: the slot filled by its number; the bytes of a frame laid one after another. -/
theorem slotsFilledInOrder : Obligations.SlotsFilledInOrder := by
  refine ⟨fun s t n a ha => ⟨fun m rest hn hc => ?_, fun e d refs cs h1 h2 hp hd hr => ?_, fun h1 h2 hp => ?_,
    fun h => State.fillSlot_above ha h⟩, fun f whole => ?_, fun w n => ⟨length_beBytes w n, numAt_beBytes w n⟩,
    fun i c a l n k => ?_⟩
  · rw [State.fillSlot_control ha hn, State.fillControl, hc]
  · have sent := State.fillSlot_replay ha h1 h2
    rw [hp] at sent
    replace sent := sent.trans (State.sendChunk_released hd hr t)
    refine ⟨congrArg Prod.snd sent, fun h => ?_, fun h => ?_⟩
    · exact (congrArg Prod.fst sent).trans (if_neg (Nat.not_le.2 h))
    · have gone := (congrArg Prod.fst sent).trans (if_pos h)
      refine ⟨gone, ?_⟩
      rw [gone, State.trunk_unlink, if_pos rfl, Trunk.unlink]
      simp
  · rw [State.fillSlot_replay ha h1 h2, hp]
  · intro b map body
    have bytes : b = f.opening ++ (markField f.mark
        ++ (f.slots.flatMap Slot.mapEntry ++ slotBytes 0 f.slots)) := by
      simp only [b, DownFrame.wire, DownFrame.header, DownFrame.opening, List.append_assoc]
    have mapPlace : map = 5 + (markField f.mark).length := (length_markField f.mark).symm
    have entries := length_flatMap_of Slot.mapEntry 6 f.slots fun x _ => x.length_mapEntry
    have each : ∀ e ∈ f.slots.zipIdx 0, (e.1.header ++ e.1.payload e.2).length = 266 := fun e he => by
      have hm : e.1 ∈ f.slots := List.mem_of_getElem? (List.mk_mem_zipIdx_iff_getElem?.1 he)
      rw [List.length_append, Slot.length_header, Slot.length_payload]
      intro k l q c m n data hx
      exact whole k l q c m n data (hx ▸ hm)
    have slots := length_flatMap_of (fun e : Slot × Nat => e.1.header ++ e.1.payload e.2) 266 _ each
    rw [← slotBytes_eq, List.length_zipIdx] at slots
    have fromMap (n : Nat) : b.drop (map + n) = (f.slots.flatMap Slot.mapEntry ++ slotBytes 0 f.slots).drop n := by
      have start : map = (f.opening ++ markField f.mark).length := by rw [mapPlace, List.length_append]; rfl
      rw [bytes, start, ← List.append_assoc, drop_add_left]
    refine ⟨?_, ?_, fun hm => ?_, fun c hm => ?_, fun i x hx => ?_⟩
    · rw [bytes, List.length_append, List.length_append, List.length_append, entries, slots]
      change 5 + _ = _
      omega
    · rw [bytes]
      exact f.opening_eq
    · rw [bytes, hm]
      rfl
    · rw [bytes, hm]
      refine ⟨rfl, numAt_at (l := f.opening ++ [1])
        (r := f.slots.flatMap Slot.mapEntry ++ slotBytes 0 f.slots) rfl rfl c.isLt⟩
    · have entry : ((b.drop (map + 6 * i)).take 6) = x.mapEntry := by
        rw [fromMap]
        exact take_drop_flatMap _ 6 _ _ (fun x _ => x.length_mapEntry) i x hx
      have slot : ((b.drop (body + 266 * i)).take 266) = x.header ++ x.payload i := by
        have place : body + 266 * i = map + ((f.slots.flatMap Slot.mapEntry).length + 266 * i) := by
          rw [entries]; omega
        rw [place, fromMap, drop_add_left, slotBytes_eq, ← List.append_nil (List.flatMap _ _)]
        refine take_drop_flatMap _ 266 _ _ each i (x, i) ?_
        rw [List.getElem?_zipIdx, hx]
        simp
      refine ⟨fun hs => ?_, fun m hs => ?_, fun k l q c m n data hs => ?_⟩
      · subst hs; exact ⟨entry, slot⟩
      · subst hs
        refine ⟨entry, slot.trans ?_⟩
        simp only [Slot.header, Slot.payload, List.append_assoc]
      · subst hs; exact ⟨entry, slot⟩
  · exact ⟨⟨rfl, rfl⟩, fun _ => ⟨rfl, rfl⟩, ⟨rfl, rfl⟩, ⟨rfl, rfl⟩, fun _ => ⟨⟨rfl, rfl⟩, rfl, rfl⟩, ⟨rfl, rfl⟩,
      fun _ => ⟨rfl, rfl⟩, fun _ => ⟨rfl, rfl⟩, ⟨rfl, rfl⟩, rfl, rfl, rfl, rfl⟩

end Sys2Proof.Machine
end


section
/-! PROOF. What an upstream frame brings: the report slot (R38 to R46, R49), the answer of a poll that does not come
(R65), and how the bytes of reports and answers are read (R182, Chapter 12.4). -/
namespace Sys2Proof.Machine

/-! ### The report slot -/

theorem Trunk.addUrgent_eq (r : Trunk) (pos : Nat) : r.addUrgent pos = { r with urgent :=
    if pos ∈ r.urgent then r.urgent else if r.urgent.length < 4 then r.urgent ++ [pos] else r.urgent } := by
  unfold Trunk.addUrgent urgentCapacity
  split
  · rfl
  · split <;> rfl

theorem ReportBody.isUrgent_iff (b : ReportBody) : b.isUrgent = true ↔ b = .urgent := by
  cases b <;> simp [ReportBody.isUrgent]

theorem State.intakeFree_iff (s : State) (t : TrunkId) : s.intakeFree t = true ↔ (s.trunk t).intake.length < 32 :=
  decide_eq_true_iff

/-- What becomes of the report slot, by what it brings: beside the echo it places a report, joins the urgent set or
raises a flag. -/
theorem State.settleSlot_cases (s : State) (t : TrunkId) (slot : SlotInput) : let r := s.trunk t
    let leads := fun (v : State) (e : Echo) => s.settleSlot t slot = v.setTrunk t { v.trunk t with echo := e }
    (slot = .silent → leads s .idle)
    ∧ ((slot = .damaged ∨ ∃ b, slot = .report b ∧ parseReport t b = none) →
        leads (s.raiseFlag t .garbledReport) .garbled)
    ∧ ∀ b rep, slot = .report b → parseReport t b = some rep →
      let pos := rep.cell % 32
      (s.configured rep.cell = false → leads (s.raiseFlag t .unknownCell) (.position pos))
      ∧ (s.configured rep.cell = true → rep.body = .urgent → leads (s.setTrunk t { r with urgent :=
          if pos ∈ r.urgent then r.urgent
          else if r.urgent.length < 4 then r.urgent ++ [pos] else r.urgent }) (.position pos))
      ∧ (s.configured rep.cell = true → rep.body ≠ .urgent → r.intake.length < 32 →
          leads (s.setTrunk t { r with intake := r.intake ++ [rep] }) (.position pos))
      ∧ (s.configured rep.cell = true → rep.body ≠ .urgent → 32 ≤ r.intake.length → leads s .idle) := by
  intro r leads
  refine ⟨fun h => ?_, fun h => ?_, fun b rep h hp => ?_⟩
  · subst h; rfl
  · obtain rfl | ⟨b, rfl, hp⟩ := h
    · rfl
    · change s.settleSlot t (.report b) = _
      rw [State.settleSlot, hp] <;> rfl
  · subst h
    have reads : s.settleSlot t (.report b) = s.settleReport t rep := by rw [State.settleSlot, hp]
    refine ⟨fun hc => ?_, fun hc hb => ?_, fun hc hb hr => ?_, fun hc hb hr => ?_⟩ <;>
      refine reads.trans ?_ <;> unfold State.settleReport
    · rw [hc]; rfl
    · rw [hc, if_neg nofun, if_pos ((ReportBody.isUrgent_iff _).2 hb), State.routeUrgent, Trunk.addUrgent_eq]
      rfl
    · rw [hc, if_neg nofun, if_neg fun h => hb ((ReportBody.isUrgent_iff _).1 h), if_pos ((s.intakeFree_iff t).2 hr)]
      rfl
    · rw [hc, if_neg nofun, if_neg fun h => hb ((ReportBody.isUrgent_iff _).1 h),
        if_neg fun h => Nat.not_lt.2 hr ((s.intakeFree_iff t).1 h)]
      rfl

theorem State.settleFrame_serving {s : State} {t : TrunkId} (h : (s.trunk t).state.serving = true) (f : UpFrame) :
    s.settleFrame t f = (s.settleSlot t f.slot).settlePolled t f := by
  rw [State.settleFrame]
  cases hs : (s.trunk t).state with
  | active | lost => rfl
  | off | standby | waking | aligning => rw [hs] at h; cases h

theorem TrunkState.framing_of_serving {x : TrunkState} (h : x.serving = true) : x.framing = true := by
  cases x with
  | active | lost => rfl
  | off | standby | waking | aligning => cases h

/-- Settling the report slot leaves the poll that is out. -/
theorem State.settlePolled_eq (s : State) (t : TrunkId) (f : UpFrame) :
    (s.settleSlot t f.slot).settlePolled t f = match (s.trunk t).polled with
      | some q => (s.settleSlot t f.slot).settlePoll t q f
      | none => (s.settleSlot t f.slot).setAck t 0 := by
  have polled : ((s.settleSlot t f.slot).trunk t).polled = (s.trunk t).polled :=
    (State.settleSlot_touches (G := placeViews) s t f.slot).trunk .polled t
  rw [State.settlePolled, polled] <;> rfl

/-- A frame that polled no cell and is not frame 15. -/
theorem exec_unpolled {s : State} {t : TrunkId} {f : UpFrame} (hs : s.held = false)
    (hserving : (s.trunk t).state.serving = true) (ha : (s.trunk t).awaiting = true)
    (hp : (s.trunk t).polled = none) (hn : (s.trunk t).nextFrame ≠ 0) {v : State} {e : Echo}
    (hv : s.settleSlot t f.slot = v.setTrunk t { v.trunk t with echo := e }) :
    exec (.upstreamFrameReceived t f) s = .next (v.setTrunk t { v.trunk t with
      echo := e, ack := 0, awaiting := false, polled := none
      marker := if (s.trunk t).nextFrame = 1 then f.marker else (s.trunk t).marker
      fails := (if (s.trunk t).nextFrame = 1 then 0 else (s.trunk t).fails) + if f.checkOk then 0 else 1 }) := by
  have polled := s.settlePolled_eq t f
  rw [hp] at polled
  rw [exec_upstreamFrameReceived hs (TrunkState.framing_of_serving hserving) ha, State.takeUpstream_eq, if_neg hn,
    State.settleFrame_serving hserving, polled, hv]
  dsimp only
  rw [State.tallied, State.setAck, State.setTrunk_setTrunk, State.setTrunk_setTrunk, State.trunk_setTrunk, if_pos rfl,
    State.trunk_setTrunk, if_pos rfl]

/-! ### How a report is read -/

theorem parseReport_of_length {t : TrunkId} {b : List Byte} {n : Nat} {body : ReportBody}
    (hl : reportLength (byteAt b 0 % 8) b = some n) (hb : reportBody (byteAt b 0 % 8) b = body) :
    (byteAt b 1 = n ∧ n ≤ b.length → parseReport t b = some ⟨32 * t.val + byteAt b 0 / 8, body, false⟩)
      ∧ (¬ (byteAt b 1 = n ∧ n ≤ b.length) → parseReport t b = none) := by
  subst hb
  rw [parseReport, hl]
  exact ⟨fun h => if_pos h, fun h => if_neg h⟩

/-- Settles O25: the slot by what it brings; whole, where no poll and no judgment follows; the bytes of a report. -/
theorem reportSlotSettled : Obligations.ReportSlotSettled := by
  refine ⟨fun s t f hs hserving ha hp hn => ?_, State.settleSlot_cases, fun t b => ?_⟩
  · intro r ended
    obtain ⟨silent, garbled, report⟩ := s.settleSlot_cases t f.slot
    refine ⟨fun h => ?_, fun h => ?_, fun b rep h hr => ?_⟩
    · exact exec_unpolled hs hserving ha hp hn (silent h)
    · exact exec_unpolled hs hserving ha hp hn (garbled h)
    · obtain ⟨unknown, urgent, placed, full⟩ := report b rep h hr
      refine ⟨fun hc => ?_, fun hc hb => ?_, fun hc hb hl => ?_, fun hc hb hl => ?_⟩
      · exact exec_unpolled hs hserving ha hp hn (unknown hc)
      · exact exec_unpolled hs hserving ha hp hn (urgent hc hb)
      · exact exec_unpolled hs hserving ha hp hn (placed hc hb hl)
      · exact exec_unpolled hs hserving ha hp hn (full hc hb hl)
  · intro kind whole reads
    have read {k n : Nat} {body : ReportBody} (hk : kind = k) (hl : reportLength k b = some n)
        (hb : reportBody k b = body) : reads n body := by
      subst hk
      exact parseReport_of_length hl hb
    refine ⟨fun h => ?_, fun h h2 => ?_, fun h h2 => ?_, fun h => read h rfl rfl, fun h => read h rfl rfl,
      fun h => read h rfl rfl, fun h => read h rfl rfl, fun h => read h rfl rfl⟩
    · have none_ : reportLength (byteAt b 0 % 8) b = none := by
        obtain h | h := h <;> rw [show byteAt b 0 % 8 = _ from h] <;> rfl
      rw [parseReport, none_]
    · refine read h (congrArg some (if_pos h2)) ?_
      rw [reportBody, if_pos (.inl h2)]
    · refine read h (congrArg some (if_neg h2)) ?_
      rw [reportBody]
      simp only [h2, false_or]

/-! ### A poll with no answer -/

theorem received_none {pos : Nat} {f : UpFrame}
    (h : f.checkOk = false ∨ ∀ a, parseAnswer f.answer = some a → a.position ≠ pos) : received pos f = none := by
  unfold received
  split
  · next hc =>
    split
    · next a ha => exact if_neg (h.resolve_left (by rw [hc]; nofun) a ha)
    · rfl
  · rfl

theorem State.settlePoll_unanswered {s : State} {t : TrunkId} {q : Poll} {f : UpFrame}
    (h : received q.position f = none) : s.settlePoll t q f =
      (if s.configured (cellAt t q.position) = true ∧ q.orphan = false then s.pollMissed (cellAt t q.position)
        else s).setAck t 0 := by
  rw [State.settlePoll, h]
  simp only [Bool.and_eq_true, Bool.not_eq_true']

theorem State.pollMissed_eq {s : State} {c : CellId} {x : Cell} (hx : s.cells.get? c = some x) : s.pollMissed c =
    if x.live ≠ .silent ∧ s.timers.silence ≤ min 15 (x.miss + 1) then
      State.notify { s with cells := s.cells.put c { x with miss := min 15 (x.miss + 1), live := .silent } } .W
        (.cellSilent c x.live (min 15 (x.miss + 1)))
    else { s with cells := s.cells.put c { x with miss := min 15 (x.miss + 1) } } := by
  have cell : s.cell c = x := by rw [State.cell, hx]; rfl
  have missed : s.modCell c Cell.missPoll = { s with cells := s.cells.put c x.missPoll } := by
    rw [State.modCell, hx]
  have silenced : State.modCell { s with cells := s.cells.put c x.missPoll } c (fun r => { r with live := .silent })
      = { s with cells := s.cells.put c { x.missPoll with live := .silent } } := by
    have now : (s.cells.put c x.missPoll).get? c = some x.missPoll := by rw [Table.get?_put, if_pos rfl]
    unfold State.modCell
    dsimp only
    rw [now]
    dsimp only
    rw [Table.put_put]
  have open_ {u v w : State} (hl : x.live ≠ .silent) (hu : u = v) :
      (if s.timers.silence ≤ min 15 (x.miss + 1) then u else w) =
        if x.live ≠ .silent ∧ s.timers.silence ≤ min 15 (x.miss + 1) then v else w := by
    by_cases hn : s.timers.silence ≤ min 15 (x.miss + 1)
    · rw [if_pos hn, if_pos ⟨hl, hn⟩, hu]
    · rw [if_neg hn, if_neg fun h => hn h.2]
  unfold State.pollMissed
  dsimp only
  rw [cell, missed, silenced]
  split
  · next hl => exact (if_neg fun h => h.1 hl).symm
  · next hl => exact open_ (fun h => nomatch h.symm.trans hl) rfl
  · next hl => exact open_ (fun h => nomatch h.symm.trans hl) rfl

/-- What a notice leaves on the ports is told by them and the time. -/
theorem State.ports_notify {s v : State} (hp : v.ports = s.ports) (hn : v.now = s.now) (p : PortId) (n : Notice) :
    (v.notify p n).ports = (s.notify p n).ports := by
  have port : v.port p = s.port p := by unfold State.port; rw [hp]
  have set (q : Port) : (v.setPort p q).ports = (s.setPort p q).ports := by
    unfold State.setPort
    cases p <;> rw [hp]
  unfold State.notify
  dsimp only
  rw [port, hn]
  split
  · exact set _
  · exact set _

/-- Where a poll with no answer leads, by the cell it polled. -/
theorem State.settlePoll_missed (s : State) (t : TrunkId) (f : UpFrame) (pos : Nat) (removed : Bool) :
    let c := 32 * t.val + pos
    (f.checkOk = false ∨ ∀ a, parseAnswer f.answer = some a → a.position ≠ pos) →
    let unanswered := fun (v : State) =>
      s.settlePoll t ⟨pos, removed⟩ f = v.setTrunk t { v.trunk t with ack := 0 }
    (removed = true ∨ s.cells.get? c = none → unanswered s)
    ∧ ∀ x, removed = false → s.cells.get? c = some x → let n := min 15 (x.miss + 1)
      (x.live = .silent ∨ n < s.timers.silence →
        unanswered { s with cells := s.cells.put c { x with miss := n } })
      ∧ (x.live ≠ .silent → s.timers.silence ≤ n → ∃ v, unanswered v
        ∧ v.cells.get? c = some { x with miss := n, live := .silent }
        ∧ (∀ c', c' ≠ c → v.cells.get? c' = s.cells.get? c')
        ∧ v = { s.notify .W (.cellSilent c x.live n) with cells := v.cells }) := by
  intro c h unanswered
  have poll := State.settlePoll_unanswered (s := s) (t := t) (q := ⟨pos, removed⟩) (received_none h)
  refine ⟨fun hr => ?_, fun x hr hx => ?_⟩
  · refine poll.trans ?_
    rw [if_neg]
    · rfl
    · rintro ⟨hc, ho⟩
      obtain hr | hn := hr
      · exact Bool.false_ne_true (ho.symm.trans hr)
      · rw [State.configured, show s.cells.get? (cellAt t pos) = none from hn] at hc
        cases hc
  · have known : s.configured (cellAt t pos) = true := by
      rw [State.configured, show s.cells.get? (cellAt t pos) = some x from hx]; rfl
    have missed := poll.trans (congrArg (State.setAck · t 0)
      ((if_pos ⟨known, hr⟩).trans (State.pollMissed_eq (c := c) hx)))
    refine ⟨fun hn => ?_, fun hl hn => ?_⟩
    · rw [if_neg (Classical.not_and_iff_not_or_not.2 (hn.imp (fun h hx => hx h) Nat.not_le.2))] at missed
      exact missed
    · rw [if_pos ⟨hl, hn⟩] at missed
      refine ⟨_, missed, ?_, fun c' hc => ?_, ?_⟩
      · rw [State.notify_frame]
        exact (Table.get?_put ..).trans (if_pos rfl)
      · rw [State.notify_frame]
        exact (Table.get?_put ..).trans (if_neg hc)
      · unfold State.notify
        dsimp only [State.port]
        split <;> rfl

/-! ### How an answer is read -/

/-- Where the reports of an answer begin, each at the end of the one before. -/
def ReportsAt (b : List Byte) (o n : Nat) (start : Nat → Nat) : Prop :=
  start 0 = o ∧ start 0 ≤ b.length ∧ ∀ i, i < n →
    start i + 2 ≤ b.length ∧ start (i + 1) = start i + byteAt b (start i + 1) ∧ start (i + 1) ≤ b.length

theorem byteAt_drop (b : List Byte) (o i : Nat) : byteAt (b.drop o) i = byteAt b (o + i) := by
  simp only [byteAt, List.getD_eq_getElem?_getD, List.getElem?_drop]

theorem splitReports_succ (b : List Byte) (o n : Nat) : splitReports (n + 1) (b.drop o) =
    if 2 ≤ b.length - o ∧ byteAt b (o + 1) ≤ b.length - o then
      (splitReports n (b.drop (o + byteAt b (o + 1)))).map fun rest =>
        (b.drop o).take (byteAt b (o + 1)) :: rest
    else none := by
  rw [splitReports, List.length_drop, byteAt_drop, List.drop_drop]

theorem splitReports_of_reportsAt {b : List Byte} {o n : Nat} {start : Nat → Nat} (h : ReportsAt b o n start) :
    splitReports n (b.drop o)
      = some ((List.range n).map fun i => (b.drop (start i)).take (byteAt b (start i + 1))) := by
  induction n generalizing o start with
  | zero => rfl
  | succ n ih =>
    obtain ⟨rfl, ho, hs⟩ := h
    obtain ⟨h2, hnext, hend⟩ := hs 0 (Nat.succ_pos n)
    have rest := ih (o := start 1) (start := fun i => start (i + 1)) ⟨rfl, hend, fun i hi => hs (i + 1) (by omega)⟩
    rw [splitReports_succ, if_pos (by omega), ← hnext, rest, List.range_succ_eq_map, List.map_cons, List.map_map]
    rfl

theorem reportsAt_of_splitReports {b : List Byte} {o n : Nat} {rs : List (List Byte)} (ho : o ≤ b.length)
    (h : splitReports n (b.drop o) = some rs) : ∃ start, ReportsAt b o n start := by
  induction n generalizing o rs with
  | zero => exact ⟨fun _ => o, rfl, ho, nofun⟩
  | succ n ih =>
    rw [splitReports_succ] at h
    split at h
    · next hc =>
      obtain ⟨rest, hr, -⟩ := Option.map_eq_some_iff.1 h
      obtain ⟨start, h0, hle, hs⟩ := ih (by omega) hr
      refine ⟨fun i => if i = 0 then o else start (i - 1), rfl, ho, fun i hi => ?_⟩
      cases i with
      | zero => exact ⟨(show o + 2 ≤ b.length by omega), h0, hle⟩
      | succ i => exact hs i (by omega)
    · cases h

theorem heardList_eq (b : List Byte) (n o : Nat) :
    heardList b o n = (List.range n).map fun i => numAt b (o + 2 * i) 2 := by
  induction n generalizing o with
  | zero => rfl
  | succ n ih =>
    rw [heardList, ih, List.range_succ_eq_map, List.map_cons, List.map_map]
    refine congrArg (List.cons _) (List.map_congr_left fun i _ => ?_)
    rw [Function.comp, Nat.mul_succ, Nat.add_assoc, Nat.add_comm 2]

/-- An answer of sound lengths is read by its reports alone. -/
theorem parseAnswer_sound {b : List Byte} (h5 : ¬ b.length < 5)
    (hs : ¬ (31 < byteAt b 0 ∨ 16 < byteAt b 3 ∨ 4 < byteAt b 4)) (hh : ¬ b.length < 5 + 2 * byteAt b 3) :
    parseAnswer b = (splitReports (byteAt b 4) (b.drop (5 + 2 * byteAt b 3))).map fun reports =>
      ⟨byteAt b 0, byteAt b 1, byteAt b 2, heardList b 5 (byteAt b 3), reports⟩ := by
  rw [parseAnswer, if_neg h5, if_neg hs, if_neg hh]
  cases splitReports (byteAt b 4) (b.drop (5 + 2 * byteAt b 3)) <;> rfl

theorem parseAnswer_none_iff (b : List Byte) : parseAnswer b = none ↔ b.length < 5 ∨ 31 < byteAt b 0
    ∨ 16 < byteAt b 3 ∨ 4 < byteAt b 4 ∨ ∀ start, ¬ ReportsAt b (5 + 2 * byteAt b 3) (byteAt b 4) start := by
  by_cases h5 : b.length < 5
  · exact ⟨fun _ => .inl h5, fun _ => if_pos h5⟩
  by_cases hs : 31 < byteAt b 0 ∨ 16 < byteAt b 3 ∨ 4 < byteAt b 4
  · exact ⟨fun _ => .inr (hs.imp id (Or.imp id .inl)), fun _ => (if_neg h5).trans (if_pos hs)⟩
  by_cases hh : b.length < 5 + 2 * byteAt b 3
  · refine ⟨fun _ => .inr (.inr (.inr (.inr fun start hf => ?_))), fun _ => (if_neg h5).trans
      ((if_neg hs).trans (if_pos hh))⟩
    obtain ⟨h0, hle, -⟩ := hf
    omega
  · rw [parseAnswer_sound h5 hs hh, Option.map_eq_none_iff]
    have none_ : splitReports (byteAt b 4) (b.drop (5 + 2 * byteAt b 3)) = none ↔
        ∀ start, ¬ ReportsAt b (5 + 2 * byteAt b 3) (byteAt b 4) start := by
      refine ⟨fun h start hf => ?_, fun h => Option.eq_none_iff_forall_ne_some.2 fun rs hr => ?_⟩
      · rw [splitReports_of_reportsAt hf] at h
        cases h
      · obtain ⟨start, hf⟩ := reportsAt_of_splitReports (Nat.not_lt.1 hh) hr
        exact h start hf
    rw [none_]
    exact ⟨fun h => .inr (.inr (.inr (.inr h))), fun h => by
      obtain h | h | h | h | h := h
      · exact absurd h h5
      · exact absurd (.inl h) hs
      · exact absurd (.inr (.inl h)) hs
      · exact absurd (.inr (.inr h)) hs
      · exact h⟩

theorem parseAnswer_some {b : List Byte} {a : PollAnswer} {start : Nat → Nat} (h : parseAnswer b = some a)
    (hf : ReportsAt b (5 + 2 * byteAt b 3) (byteAt b 4) start) : a = ⟨byteAt b 0, byteAt b 1, byteAt b 2,
      (List.range (byteAt b 3)).map fun i => numAt b (5 + 2 * i) 2,
      (List.range (byteAt b 4)).map fun i => (b.drop (start i)).take (byteAt b (start i + 1))⟩ := by
  have sound := (not_congr (parseAnswer_none_iff b)).1 (by rw [h]; nofun)
  simp only [not_or] at sound
  obtain ⟨h5, h31, h16, h4, -⟩ := sound
  have hh : ¬ b.length < 5 + 2 * byteAt b 3 := by
    obtain ⟨h0, hle, -⟩ := hf
    omega
  rw [parseAnswer_sound h5 (by omega) hh, splitReports_of_reportsAt hf, heardList_eq] at h
  exact (Option.some.inj h).symm

/-- A frame with a silent slot, whole: the outcome of its poll, tallied. -/
theorem exec_polled {s : State} {t : TrunkId} {f : UpFrame} {q : Poll} (hs : s.held = false)
    (hserving : (s.trunk t).state.serving = true) (ha : (s.trunk t).awaiting = true)
    (hp : (s.trunk t).polled = some q) (hn : (s.trunk t).nextFrame ≠ 0) (hf : f.slot = .silent) :
    exec (.upstreamFrameReceived t f) s = .next (s.tallied
      (State.settlePoll (s.setTrunk t { s.trunk t with echo := .idle }) t q f) t f) := by
  have polled := s.settlePolled_eq t f
  rw [hp] at polled
  have silent : s.settleSlot t f.slot = s.setTrunk t { s.trunk t with echo := .idle } :=
    (s.settleSlot_cases t f.slot).1 hf
  rw [exec_upstreamFrameReceived hs (TrunkState.framing_of_serving hserving) ha, State.takeUpstream_eq, if_neg hn,
    State.settleFrame_serving hserving, polled, silent]

/-- Settles O26: the miss of a poll, whole and by itself, and the bytes of an answer. -/
theorem pollWithoutAnswer : Obligations.PollWithoutAnswer := by
  refine ⟨fun s t f pos removed hs hserving ha hp hn hf hu => ?_, State.settlePoll_missed, fun b =>
    ⟨parseAnswer_none_iff b, fun a start h hf => parseAnswer_some h hf⟩⟩
  intro c r ended
  have whole := exec_polled hs hserving ha hp hn hf
  obtain ⟨gone, present⟩ := State.settlePoll_missed (s.setTrunk t { s.trunk t with echo := .idle }) t f pos removed hu
  have tallied {v : State} {cells : Table Cell} {ports : Ports}
      (hv : v = { s.setTrunk t { s.trunk t with echo := .idle } with cells := cells, ports := ports }) :
      s.tallied (v.setTrunk t { v.trunk t with ack := 0 }) t f = { ended with cells := cells, ports := ports } := by
    have record : v.trunk t = { s.trunk t with echo := .idle } := by
      subst hv
      exact (State.trunk_setTrunk s t _ t).trans (if_pos rfl)
    have bare : ∀ y : Trunk, v.setTrunk t y = { s.setTrunk t y with cells := cells, ports := ports } := fun y => by
      subst hv
      exact congrArg (fun z : State => { z with cells := cells, ports := ports })
        (State.setTrunk_setTrunk s t { s.trunk t with echo := .idle } y)
    rw [State.tallied, State.setTrunk_setTrunk, State.trunk_setTrunk, if_pos rfl, record, bare]
  refine ⟨fun h => ?_, fun x hr hx => ⟨fun h => ?_, fun hl hm => ?_⟩⟩
  · rw [whole, gone h]
    exact congrArg _ (tallied (cells := s.cells) (ports := s.ports) rfl)
  · rw [whole, (present x hr hx).1 h]
    exact congrArg _ (tallied rfl)
  · obtain ⟨v, hv, silent, others, frame⟩ := (present x hr hx).2 hl hm
    have shape : v = { s.setTrunk t { s.trunk t with echo := .idle } with
        cells := v.cells, ports := (s.notify .W (.cellSilent c x.live (min 15 (x.miss + 1)))).ports } := by
      refine frame.trans ?_
      rw [State.notify_frame]
      exact congrArg (fun x : Ports => { s.setTrunk t { s.trunk t with echo := .idle } with
        cells := v.cells, ports := x }) (State.ports_notify (s := s)
          (v := s.setTrunk t { s.trunk t with echo := .idle }) rfl rfl .W (.cellSilent c x.live (min 15 (x.miss + 1))))
    refine ⟨{ ended with cells := v.cells, ports := v.ports }, ?_, silent, others, ?_, rfl⟩
    · rw [whole, hv]
      exact congrArg _ (tallied (shape.trans (by rw [shape])))
    · have told : v.ports = _ := congrArg State.ports shape
      exact told

end Sys2Proof.Machine
end


section
/-! PROOF. The judgment of a multiframe (R20, R25 to R28), and the status part and the reports of a poll answer (R48,
R66, R68, R69, R73 to R79, R93). -/
namespace Sys2Proof.Machine

/-! ### Into ACTIVE and into LOST -/

theorem State.trunk_enterActive (s : State) (t : TrunkId) (why : TrunkReason) (t' : TrunkId) :
    (s.enterActive t why).trunk t' = if t' = t then { s.trunk t with
      state := .active, entry := none, bad := 0, idle := ((s.enterActive t why).trunk t).idle } else s.trunk t' := by
  have noted (v : State) (t' : TrunkId) : (v.trunkNotice t (s.trunk t).state .active why).trunk t' = v.trunk t' :=
    (State.trunkNotice_touches (G := [.portW]) ..).trunkAll t'
  have told (v : State) (t' : TrunkId) : v.recomputeAll.trunk t' = v.trunk t' :=
    (State.recomputeAll_touches (G := [.demand, .portV]) v).trunkAll t'
  unfold State.enterActive
  dsimp only
  by_cases ht : t' = t
  · rw [if_pos ht, ht, State.trunk_idleUpdate, if_pos rfl, told, noted, State.trunk_setTrunk, if_pos rfl]
  · rw [if_neg ht, State.trunk_idleUpdate, if_neg ht, told, noted, State.trunk_setTrunk, if_neg ht]

theorem State.trunk_enterLost (s : State) (t t' : TrunkId) : (s.enterLost t).trunk t' =
    if t' = t then { s.trunk t with
      state := .lost, entry := some s.now, good := 0, bad := 2, allocation := none, idle := none, replay := []
      flags := (s.trunk t).flags.set .alignLoss } else s.trunk t' := by
  have set := State.trunk_setTrunk s t { s.trunk t with
    state := .lost, entry := some s.now, good := 0, bad := 2, allocation := none, idle := none }
  have bare : (State.trunk (s.setTrunk t { s.trunk t with
      state := .lost, entry := some s.now, good := 0, bad := 2, allocation := none, idle := none }) t).allocation
      = none := by rw [set, if_pos rfl]
  have flushed := State.trunk_flushReplay bare
  have noted (v : State) (t' : TrunkId) : (v.trunkNotice t .active .lost .alignLoss).trunk t' = v.trunk t' :=
    (State.trunkNotice_touches (G := [.portW]) ..).trunkAll t'
  have told (v : State) (t' : TrunkId) : v.recomputeAll.trunk t' = v.trunk t' :=
    (State.recomputeAll_touches (G := [.demand, .portV]) v).trunkAll t'
  unfold State.enterLost
  dsimp only
  rw [told, State.trunk_raiseFlag, noted, noted, flushed, flushed, set, set, if_pos rfl]
  by_cases ht : t' = t
  · rw [if_pos ht, if_pos ht, if_pos rfl]
  · rw [if_neg ht, if_neg ht, if_neg ht, if_neg ht]

/-- What a flag leaves on Port W is told by that port, the time and the trunk's flags. -/
theorem State.portW_raiseFlag {s v : State} {t : TrunkId} (hw : v.ports.w = s.ports.w) (hn : v.now = s.now)
    (hf : (v.trunk t).flags = (s.trunk t).flags) (f : ErrorFlag) :
    (v.raiseFlag t f).ports.w = (s.raiseFlag t f).ports.w := by
  cases h : (s.trunk t).flags.get f with
  | true => rw [State.raiseFlag_of_set s t f h, State.raiseFlag_of_set v t f (by rw [hf]; exact h), hw]
  | false =>
    rw [State.raiseFlag_of_clear s t f h, State.raiseFlag_of_clear v t f (by rw [hf]; exact h), hf]
    generalize { v.trunk t with flags := (s.trunk t).flags.set f } = y
    generalize { s.trunk t with flags := (s.trunk t).flags.set f } = z
    exact State.portW_notify (s := s.setTrunk t z) (v := v.setTrunk t y) hw hn _

/-- The same of a notice followed by a flag. -/
theorem State.portW_notify_raiseFlag {s v : State} {t : TrunkId} (hw : v.ports.w = s.ports.w) (hn : v.now = s.now)
    (hf : (v.trunk t).flags = (s.trunk t).flags) (n : Notice) (f : ErrorFlag) :
    ((v.notify .W n).raiseFlag t f).ports.w = ((s.notify .W n).raiseFlag t f).ports.w := by
  have noted (u : State) := State.notify_touches (G := [.portW]) u .W n (View.mem_of (by decide +kernel))
  have flags (u : State) : ((u.notify .W n).trunk t).flags = (u.trunk t).flags := (noted u).trunk .flags t
  refine State.portW_raiseFlag (State.portW_notify hw hn n) ?_ ?_ f
  · rw [(noted v).now, (noted s).now, hn]
  · rw [flags, flags, hf]

theorem State.portW_enterActive (s : State) (t : TrunkId) (why : TrunkReason) : (s.enterActive t why).ports.w =
    (s.notify .W (.trunkState t (s.trunk t).state .active why)).ports.w := by
  have settled (v : State) : (v.idleUpdate t).ports.w = v.ports.w :=
    (State.idleUpdate_touches (G := [.trunks, .trunk .idle]) v t).portW
  have told (v : State) : v.recomputeAll.ports.w = v.ports.w :=
    (State.recomputeAll_touches (G := [.demand, .portV]) v).portW
  unfold State.enterActive
  dsimp only
  rw [settled, told, State.trunkNotice]
  generalize { s.trunk t with state := .active, entry := none, bad := 0 } = y
  exact State.portW_notify (s := s) (v := s.setTrunk t y) rfl rfl _

theorem State.portW_enterLost (s : State) (t : TrunkId) : (s.enterLost t).ports.w =
    (State.raiseFlag (s.notify .W (.trunkState t .active .lost .alignLoss)) t .alignLoss).ports.w := by
  have told (v : State) : v.recomputeAll.ports.w = v.ports.w :=
    (State.recomputeAll_touches (G := [.demand, .portV]) v).portW
  unfold State.enterLost
  dsimp only
  rw [told, State.trunkNotice]
  have flags : (State.trunk (s.setTrunk t { s.trunk t with
      state := .lost, entry := some s.now, good := 0, bad := 2, allocation := none, idle := none }) t).flags
      = (s.trunk t).flags := by rw [State.trunk_setTrunk, if_pos rfl]
  generalize { s.trunk t with
    state := .lost, entry := some s.now, good := 0, bad := 2, allocation := none, idle := none } = y at flags ⊢
  have flushed := State.flushReplay_touches (G := unlinkViews) (s.setTrunk t y) t
  exact State.portW_notify_raiseFlag (s := s) flushed.portW flushed.now ((flushed.trunk .flags t).trans flags) _ _

/-! ### The judgment -/

/-- What the judgment of a multiframe does to trunk t between `s` and `u`. -/
def State.Judged (s u : State) (t : TrunkId) (good : Prop) : Prop := let r := s.trunk t
  (u.trunk t).control = r.control ∧ (u.trunk t).intake = r.intake
    ∧ (r.state ≠ .active → good → r.good = 0 → (u.trunk t).state = r.state ∧ (u.trunk t).good = 1)
    ∧ (r.state ≠ .active → good → r.good ≠ 0 → (u.trunk t).state = .active ∧ (u.trunk t).bad = 0
        ∧ (u.trunk t).entry = none
        ∧ u.ports.w = (s.notify .W (.trunkState t r.state .active
            (if r.state = .aligning then .aligned else .regained))).ports.w)
    ∧ (r.state ≠ .active → ¬ good → (u.trunk t).state = r.state ∧ (u.trunk t).good = 0)
    ∧ (r.state = .active → good → (u.trunk t).state = .active ∧ (u.trunk t).bad = 0)
    ∧ (r.state = .active → ¬ good → r.bad = 0 → (u.trunk t).state = .active ∧ (u.trunk t).bad = 1)
    ∧ (r.state = .active → ¬ good → r.bad ≠ 0 → (u.trunk t).state = .lost ∧ (u.trunk t).good = 0
        ∧ (u.trunk t).entry = some s.now ∧ (u.trunk t).replay = [] ∧ (u.trunk t).idle = none
        ∧ (u.trunk t).flags.alignLoss = true
        ∧ u.ports.w = (State.raiseFlag (s.notify .W (.trunkState t .active .lost .alignLoss)) t
            .alignLoss).ports.w)
    ∧ (∀ t', t' ≠ t → u.trunk t' = s.trunk t')
    ∧ u = { s with trunks := u.trunks, ports := u.ports, demand := u.demand, streams := u.streams,
                   descs := u.descs, used := u.used }

theorem Trunk.multiframeGood_iff (r : Trunk) : r.multiframeGood = true ↔ r.marker = true ∧ r.fails ≤ 1 := by
  rw [Trunk.multiframeGood, Bool.and_eq_true, decide_eq_true_iff]

/-- The judgment of a trunk in ALIGNING or LOST. -/
theorem State.judge_away {s : State} {t : TrunkId} (hf : (s.trunk t).state.framing = true)
    (ha : (s.trunk t).state ≠ .active) : s.judge t =
      if (s.trunk t).multiframeGood = true then
        if (s.trunk t).good = 0 then s.setTrunk t { s.trunk t with good := 1 }
        else (s.setTrunk t { s.trunk t with good := 2 }).enterActive t
          (if (s.trunk t).state = .aligning then .aligned else .regained)
      else s.setTrunk t { s.trunk t with good := 0 } := by
  unfold State.judge State.judgedGood State.judgedBad
  dsimp only
  cases h : (s.trunk t).state with
  | aligning => rfl
  | lost => rfl
  | active => exact absurd h ha
  | off | standby | waking => rw [h] at hf; cases hf

theorem State.judge_active {s : State} {t : TrunkId} (ha : (s.trunk t).state = .active) : s.judge t =
    if (s.trunk t).multiframeGood = true then s.setTrunk t { s.trunk t with bad := 0 }
    else if (s.trunk t).bad = 0 then s.setTrunk t { s.trunk t with bad := 1 } else s.enterLost t := by
  unfold State.judge State.judgedGood State.judgedBad
  dsimp only
  rw [ha]

/-- The judgment by the trunk's state and its counts; `x` differs from `s` at most in what a frame's end has settled. -/
theorem State.judged_judge {s x : State} {t : TrunkId} {y : Trunk} (hx : x = s.setTrunk t y)
    (hs : y.state = (s.trunk t).state) (hg : y.good = (s.trunk t).good) (hb : y.bad = (s.trunk t).bad)
    (hf : y.flags = (s.trunk t).flags) (hc : y.control = (s.trunk t).control) (hi : y.intake = (s.trunk t).intake)
    (framing : (s.trunk t).state.framing = true) :
    s.Judged (x.judge t) t (y.marker = true ∧ y.fails ≤ 1) := by
  have here : x.trunk t = y := by rw [hx, State.trunk_setTrunk, if_pos rfl]
  have there {t' : TrunkId} (h : t' ≠ t) : x.trunk t' = s.trunk t' := by rw [hx, State.trunk_setTrunk, if_neg h]
  have touched := State.judge_touches (G := portViews ++ judgeViews) x t
  have frame : x.judge t = { s with trunks := (x.judge t).trunks, ports := (x.judge t).ports
                                    demand := (x.judge t).demand, streams := (x.judge t).streams
                                    descs := (x.judge t).descs, used := (x.judge t).used } :=
    touched.eq_frame.trans (by rw [hx] <;> rfl)
  have portW : x.ports.w = s.ports.w := by rw [hx]; rfl
  have now : x.now = s.now := by rw [hx]; rfl
  have set (z : Trunk) (t' : TrunkId) : (x.setTrunk t z).trunk t' = if t' = t then z else s.trunk t' := by
    rw [State.trunk_setTrunk]
    by_cases h : t' = t
    · rw [if_pos h, if_pos h]
    · rw [if_neg h, if_neg h, there h]
  have away (ha : (s.trunk t).state ≠ .active) := State.judge_away (s := x) (t := t) (by rw [here, hs]; exact framing)
    (by rw [here, hs]; exact ha)
  have active (ha : (s.trunk t).state = .active) := State.judge_active (s := x) (t := t) (by rw [here, hs]; exact ha)
  rw [here] at away active
  simp only [y.multiframeGood_iff, hs, hg] at away
  simp only [y.multiframeGood_iff, hb] at active
  refine ⟨(touched.trunk .control t).trans (by rw [here]; exact hc), (touched.trunk .intake t).trans (by rw [here]; exact hi),
    fun ha good h0 => ?_, fun ha good h0 => ?_, fun ha bad => ?_, fun ha good => ?_, fun ha bad h0 => ?_,
    fun ha bad h0 => ?_, fun t' ht => ?_, frame⟩
  · rw [away ha, if_pos good, if_pos h0, set, if_pos rfl]
    exact ⟨rfl, rfl⟩
  · rw [away ha, if_pos good, if_neg h0, State.trunk_enterActive, if_pos rfl]
    refine ⟨rfl, rfl, rfl, ?_⟩
    rw [State.portW_enterActive, set, if_pos rfl]
    exact State.portW_notify (s := s) (v := x.setTrunk t _) portW now _
  · rw [away ha, if_neg bad, set, if_pos rfl]
    exact ⟨rfl, rfl⟩
  · rw [active ha, if_pos good, set, if_pos rfl]
    exact ⟨hs.trans ha, rfl⟩
  · rw [active ha, if_neg bad, if_pos h0, set, if_pos rfl]
    exact ⟨hs.trans ha, rfl⟩
  · rw [active ha, if_neg bad, if_neg h0, State.trunk_enterLost, if_pos rfl, State.portW_enterLost, now]
    exact ⟨rfl, rfl, rfl, rfl, rfl, rfl, State.portW_notify_raiseFlag portW now (by rw [here]; exact hf) _ _⟩
  · by_cases ha : (s.trunk t).state = .active
    · rw [active ha]
      split
      · rw [set, if_neg ht]
      · split
        · rw [set, if_neg ht]
        · rw [State.trunk_enterLost, if_neg ht, there ht]
    · rw [away ha]
      split
      · split
        · rw [set, if_neg ht]
        · rw [State.trunk_enterActive, if_neg ht, set, if_neg ht]
      · rw [set, if_neg ht]

/-- Slot and poll of an upstream frame, in ALIGNING and where the trunk serves. -/
theorem State.settleFrame_eq {s : State} {t : TrunkId} (h : (s.trunk t).state.framing = true) (f : UpFrame) :
    s.settleFrame t f = if (s.trunk t).state = .aligning then s.setTrunk t { s.trunk t with echo := .idle, ack := 0 }
      else match (s.trunk t).polled with
        | some q => (s.settleSlot t f.slot).settlePoll t q f
        | none => (s.settleSlot t f.slot).setAck t 0 := by
  by_cases ha : (s.trunk t).state = .aligning
  · rw [if_pos ha, State.settleFrame_aligning ha]
  · have serving : (s.trunk t).state.serving = true := by
      cases hs : (s.trunk t).state with
      | active | lost => rfl
      | aligning => exact absurd hs ha
      | off | standby | waking => rw [hs] at h; cases h
    rw [if_neg ha, State.settleFrame_serving serving, State.settlePolled_eq] <;> rfl

/-- Settles O28: the order of slot, poll and judgment; the judgment by itself; and whole, where no poll is out. -/
theorem multiframeJudged : Obligations.MultiframeJudged := by
  refine ⟨fun s t f hs hf ha => ?_, fun s t hf => ?_, fun s t f hs hf ha hn hp hslot => ?_⟩
  · rw [exec_upstreamFrameReceived hs hf ha, State.takeUpstream_eq, State.settleFrame_eq hf] <;> rfl
  · exact State.judged_judge (s.setTrunk_trunk t).symm rfl rfl rfl rfl rfl rfl hf
  · have settled : s.settleFrame t f = s.setTrunk t { s.trunk t with echo := .idle, ack := 0 } := by
      rw [State.settleFrame_eq hf, hp]
      split
      · rfl
      · rw [(s.settleSlot_cases t f.slot).1 hslot, State.setAck, State.setTrunk_setTrunk, State.trunk_setTrunk, if_pos rfl]
    have whole := exec_upstreamFrameReceived hs hf ha (f := f)
    rw [State.takeUpstream_eq, if_pos hn, settled, State.tallied, State.setTrunk_setTrunk, State.trunk_setTrunk,
      if_pos rfl, hn] at whole
    refine ⟨_, whole, ?_, State.judged_judge rfl rfl rfl rfl rfl rfl rfl hf⟩
    refine ((State.judge_touches (G := judgeViews) _ t).trunk .awaiting t).trans ?_
    rw [State.trunk_setTrunk, if_pos rfl] <;> rfl

/-! ### The status part of a poll answer -/

/-- How far the status part of an answer of cell c has come between `s` and `v`: the cell's record is `y` and the
notices of Port W are those of `base`. -/
structure State.Scoring (s v base : State) (c : CellId) (y : Cell) : Prop where
  cells : v.cells = s.cells.put c y
  portW : v.ports.w = base.ports.w
  stations : v.stations = s.stations
  touched : s.Touches statusViews v
  noted : base = { s with ports := { s.ports with w := base.ports.w } }

namespace State.Scoring
variable {s v base : State} {c : CellId} {y : Cell}

theorem get? (h : s.Scoring v base c y) : v.cells.get? c = some y := by rw [h.cells, Table.get?_put, if_pos rfl]

theorem cell (h : s.Scoring v base c y) : v.cell c = y := by rw [State.cell, h.get?]; rfl

theorem now (h : s.Scoring v base c y) : v.now = base.now := by rw [h.touched.now, h.noted]

/-- A rewrite of the cell's record. -/
theorem modCell (h : s.Scoring v base c y) {f : Cell → Cell} (hf : s.Touches statusViews (v.modCell c f)) :
    s.Scoring (v.modCell c f) base c (f y) where
  cells := by rw [State.modCell, h.get?, h.cells]; exact Table.put_put ..
  portW := by rw [State.modCell_frame]; exact h.portW
  stations := by rw [State.modCell_frame]; exact h.stations
  touched := hf
  noted := h.noted

/-- A notice on Port W. -/
theorem notify (h : s.Scoring v base c y) (n : Notice) : s.Scoring (v.notify .W n) (base.notify .W n) c y where
  cells := by rw [State.notify_frame]; exact h.cells
  portW := State.portW_notify h.portW h.now n
  stations := by rw [State.notify_frame]; exact h.stations
  touched := h.touched.trans (State.notify_touches v .W n (View.mem_of (by decide +kernel)))
  noted := by
    have noticed := (State.notify_touches (G := [.portW, .bare]) base .W n (View.mem_of (by decide +kernel))).eq_frame
    have frame : base.notify .W n = { base with ports := { base.ports with w := (base.notify .W n).ports.w } } :=
      noticed.trans rfl
    refine frame.trans ?_
    rw [h.noted]

/-- A recompute of sector demands. -/
theorem recomputeEach (h : s.Scoring v base c y) (ks : List StreamId) : s.Scoring (v.recomputeEach ks) base c y := by
  have told := State.recomputeEach_touches (G := [.demand, .portV]) v ks
  exact ⟨told.cells.trans h.cells, told.portW.trans h.portW, told.stations.trans h.stations,
    h.touched.trans (told.mono (View.subset_of (by decide +kernel))), h.noted⟩

end State.Scoring

theorem State.heardCell_scoring {s : State} {c : CellId} {x : Cell} (hx : s.cells.get? c = some x) :
    s.Scoring (s.heardCell c) (if x.live = .silent then s.notify .W (.cellHeard c) else s) c
      { x with live := .live, miss := 0 } := by
  have cell : s.cell c = x := by rw [State.cell, hx]; rfl
  have start : s.Scoring (s.modCell c fun r => { r with miss := 0, live := .live }) s c
      { x with live := .live, miss := 0 } := by
    refine ⟨?_, ?_, ?_, State.modCell_touches _ _ _ (fun x r _ hx => by cases x <;> simp at hx <;> rfl)
      (View.mem_of (by decide +kernel)), rfl⟩
    · rw [State.modCell, hx]
    · rw [State.modCell_frame]
    · rw [State.modCell_frame]
  unfold State.heardCell
  dsimp only
  rw [cell]
  cases hl : x.live with
  | silent => exact start.notify _
  | unheard | live => exact start

/-- The accepted code after a double look (R68). -/
def Cell.acceptedAfter (y : Cell) (code : Option Condition) : Condition :=
  match code with
  | none => y.accepted
  | some k => if y.candidate = some k then k else y.accepted

theorem State.Scoring.doubleLook {s v base : State} {c : CellId} {y : Cell} (h : s.Scoring v base c y) (n : Nat) :
    let code := Condition.ofCode n
    let k := y.acceptedAfter code
    s.Scoring (v.doubleLook c n) (if k = y.accepted then base
        else base.notify .W (.cellCondition c y.accepted k (Cell.ceff { y with accepted := k }))) c
      { y with candidate := code, accepted := k } := by
  intro code k
  have cell := h.cell
  have candidate (o : Option Condition) : s.Scoring (v.modCell c fun r => { r with candidate := o }) base c
      { y with candidate := o } := h.modCell (h.touched.trans (State.modCell_touches _ _ _
    (fun x r _ hx => by cases x <;> simp at hx <;> rfl) (View.mem_of (by decide +kernel))))
  have kept (ha : k = y.accepted) : s.Scoring (v.modCell c fun r => { r with candidate := code })
      (if k = y.accepted then base
        else base.notify .W (.cellCondition c y.accepted k (Cell.ceff { y with accepted := k }))) c
      { y with candidate := code, accepted := k } := by
    rw [if_pos ha, ha]
    exact candidate code
  unfold State.doubleLook
  rw [cell]
  split
  · next hn =>
    have none_ : code = none := hn
    have := kept (by simp only [k, none_]; rfl)
    rwa [none_] at this ⊢
  · next z hz =>
    have some_ : code = some z := hz
    rw [some_] at kept
    by_cases ha : y.accepted = z
    · rw [if_pos ha, some_]
      refine kept ?_
      simp only [k, some_, Cell.acceptedAfter]
      split
      · exact ha.symm
      · rfl
    · by_cases hc : y.candidate = some z
      · have taken : k = z := by simp only [k, some_, Cell.acceptedAfter]; exact if_pos hc
        rw [if_neg ha, if_pos hc, some_, taken, if_neg (Ne.symm ha)]
        unfold State.acceptCode
        dsimp only
        have first := h.modCell (f := fun r => { r with accepted := z, candidate := some z }) (h.touched.trans
          (State.modCell_touches _ _ _ (fun x r _ hx => by cases x <;> simp at hx <;> rfl)
            (View.mem_of (by decide +kernel))))
        rw [first.cell, cell]
        split
        · exact (first.notify _).recomputeEach _
        · exact first.notify _
      · rw [if_neg ha, if_neg hc, some_]
        exact kept (by simp only [k, some_, Cell.acceptedAfter]; exact if_neg hc)

/-! ### The load update (R73 to R79) -/

theorem smooth_eq (k old new : Nat) : smooth k old new =
    if old ≤ new then old + (new - old) / 2 ^ k else old - (old - new) / 2 ^ k := by
  unfold smooth
  split
  · next h =>
    have up : ((new : Int) - old) = ((new - old : Nat) : Int) := by omega
    rw [up, ← Int.ofNat_tdiv]
    generalize (new - old) / 2 ^ k = step
    omega
  · next h =>
    have down : ((new : Int) - old) = -((old - new : Nat) : Int) := by omega
    rw [down, Int.neg_tdiv, ← Int.ofNat_tdiv]
    generalize (old - new) / 2 ^ k = step
    omega

/-- The smoothed score after the load update. -/
def State.scoreAfter (s : State) (c : CellId) (y : Cell) (airtime : Nat) : Nat :=
  let target := min 4095 (s.load.wa * airtime + s.load.ws * y.occupancy + 16 * s.load.wr * s.streamsWatched c)
  if y.score ≤ target then y.score + (target - y.score) / 2 ^ s.load.k
  else y.score - (y.score - target) / 2 ^ s.load.k

/-- The load state after the load update. -/
def State.loadAfter (s : State) (c : CellId) (y : Cell) (airtime : Nat) : LoadState :=
  nextLoad (thresholds s.load y) y.load (s.scoreAfter c y airtime)

theorem Cell.loadUpdate_eq (s : State) (c : CellId) (y : Cell) (airtime : Nat) :
    y.loadUpdate s.load airtime (s.streamsWatched c) = { y with
      lastA := airtime, score := s.scoreAfter c y airtime, load := s.loadAfter c y airtime } := by
  have score : smooth s.load.k y.score (instantScore s.load airtime y.occupancy (s.streamsWatched c))
      = s.scoreAfter c y airtime := smooth_eq ..
  unfold Cell.loadUpdate State.loadAfter
  dsimp only
  rw [score]

theorem State.Scoring.scoreCell {s v base : State} {c : CellId} {y : Cell} (h : s.Scoring v base c y) (n : Nat) :
    s.Scoring (v.scoreCell c n) (if s.loadAfter c y n = y.load then base
        else base.notify .W (.cellLoad c (s.loadAfter c y n) (s.scoreAfter c y n))) c
      { y with lastA := n, score := s.scoreAfter c y n, load := s.loadAfter c y n } := by
  have watched : v.streamsWatched c = s.streamsWatched c := by
    unfold State.streamsWatched State.watched
    simp only [h.touched.counts]
  have updated := Cell.loadUpdate_eq s c y n
  have first := h.modCell (f := fun _ => (v.cell c).loadUpdate v.load n (v.streamsWatched c)) (h.touched.trans (by
    refine State.modCell_touches _ _ _ (fun x r hr hx => ?_) (View.mem_of (by decide +kernel))
    rw [Cell.loadUpdate_view _ _ _ _ x hx, State.cell, hr]
    rfl))
  unfold State.scoreCell
  dsimp only
  rw [h.cell, watched, h.touched.load, updated] at first ⊢
  split
  · exact first
  · exact (first.notify _).recomputeEach _

/-! ### The heard list (R93) -/

theorem State.station?_hearStation (c : CellId) (s : State) (i j : StationIx) :
    (State.hearStation c s i).station? j = (s.station? j).map fun q => { q with
      lastHeard := if j = i ∧ (q.cell = c ∨ q.pendingAt c = true) then s.now else q.lastHeard } := by
  unfold State.hearStation
  by_cases hj : j = i
  · subst hj
    cases hq : s.station? j with
    | none => exact hq
    | some q =>
      dsimp only
      split
      · next h => rw [State.station?_putStation, if_pos rfl, Option.map_some, if_pos ⟨rfl, h⟩]
      · next h => rw [hq, Option.map_some, if_neg fun g => h g.2]
  · have same : ∀ o : Option Station, o.map (fun q => { q with
        lastHeard := if j = i ∧ (q.cell = c ∨ q.pendingAt c = true) then s.now else q.lastHeard }) = o := by
      intro o
      cases o with
      | none => rfl
      | some q => rw [Option.map_some, if_neg fun g => hj g.1]
    rw [same]
    split
    · split
      · rw [State.station?_putStation, if_neg hj]
      · rfl
    · rfl

theorem State.station?_hearEach (c : CellId) (is : List StationIx) (s : State) (j : StationIx) :
    (s.each is (State.hearStation c)).station? j = (s.station? j).map fun q => { q with
      lastHeard := if j ∈ is ∧ (q.cell = c ∨ q.pendingAt c = true) then s.now else q.lastHeard } := by
  induction is generalizing s with
  | nil =>
    cases hq : s.station? j with
    | none => exact hq
    | some q => rw [Option.map_some, if_neg fun g => List.not_mem_nil g.1]; exact hq
  | cons i is ih =>
    rw [State.each_cons, ih, State.station?_hearStation, (State.hearStation_touches c s i).now, Option.map_map]
    refine congrArg (Option.map · (s.station? j)) (funext fun q => ?_)
    dsimp only [Function.comp]
    congr 1
    by_cases hp : q.cell = c ∨ q.pendingAt c = true
    · by_cases hm : j ∈ is
      · rw [if_pos ⟨hm, hp⟩, if_pos ⟨List.mem_cons_of_mem _ hm, hp⟩]
      · rw [if_neg fun g => hm g.1]
        simp only [hp, List.mem_cons, hm, or_false]
    · rw [if_neg fun g => hp g.2, if_neg fun g => hp g.2, if_neg fun g => hp g.2]

theorem State.hearEach_frame (c : CellId) (is : List StationIx) (s : State) : s.each is (State.hearStation c) =
    { s with stations := (s.each is (State.hearStation c)).stations } := by
  have one (s : State) (i : StationIx) : State.hearStation c s i = { s with
      stations := (State.hearStation c s i).stations } := by
    unfold State.hearStation
    split
    · split
      · rfl
      · rfl
    · rfl
  exact State.each_keeps (fun u => u = { s with stations := u.stations }) (State.hearStation c) is s
    (fun u i _ hu => (one u i).trans (by rw [hu])) rfl

/-! ### The status part, whole -/

/-- What the status part of answer `a` of cell c, whose record was `x`, does between `s` and `v`. -/
def State.Updated (s v : State) (c : CellId) (x : Cell) (a : PollAnswer) : Prop :=
  let code := Condition.ofCode a.code
  let accepted := match code with
    | none => x.accepted
    | some k => if x.candidate = some k then k else x.accepted
  let ceff := if accepted = .degraded then max 1 (x.cmax / 2) else x.cmax
  let occ := min 255 (256 * x.attached / ceff)
  let streams := (allStreams.filter fun k => 0 < (s.counts c k).full + (s.counts c k).lean).length
  let target := min 4095 (s.load.wa * a.airtime + s.load.ws * occ + 16 * s.load.wr * streams)
  let score := if x.score ≤ target then x.score + (target - x.score) / 2 ^ s.load.k
    else x.score - (x.score - target) / 2 ^ s.load.k
  let pair : Nat × Nat := match x.override with
    | some h => h
    | none => if x.kind = CellKind.seat then (s.load.seatH, s.load.seatLo) else (s.load.concH, s.load.concLo)
  let crowding := if x.load = .normal then (if pair.1 < score then LoadState.crowded else .normal)
    else (if score < pair.2 then .normal else .crowded)
  let heard := if x.live = .silent then s.notify .W (.cellHeard c) else s
  let looked := if accepted = x.accepted then heard
    else heard.notify .W (.cellCondition c x.accepted accepted ceff)
  let loaded := if crowding = x.load then looked else looked.notify .W (.cellLoad c crowding score)
  v.cells.get? c = some { x with
        live := .live, miss := 0, lastA := a.airtime, candidate := code, accepted := accepted
        score := score, load := crowding }
    ∧ (∀ c', c' ≠ c → v.cells.get? c' = s.cells.get? c')
    ∧ (∀ i q, s.station? i = some q → v.station? i = some { q with
        lastHeard := if i ∈ a.heard ∧ (q.cell = c ∨ q.pendingAt c = true) then s.now else q.lastHeard })
    ∧ (∀ i, s.station? i = none → v.station? i = none)
    ∧ v = { s with cells := v.cells, stations := v.stations, demand := v.demand
                   ports := { loaded.ports with v := v.ports.v } }

/-- Liveness, double look, load update and heard list, one after another. -/
theorem State.updated_takeStatus {s : State} {c : CellId} {x : Cell} (hx : s.cells.get? c = some x) (a : PollAnswer) :
    s.Updated (s.takeStatus c a) c x a := by
  unfold State.Updated
  intro code accepted ceff occ streams target score pair crowding heard looked loaded
  have second : s.Scoring ((s.heardCell c).doubleLook c a.code) looked c { x with
      live := .live, miss := 0, candidate := code, accepted := accepted } :=
    (State.heardCell_scoring hx).doubleLook a.code
  have scored := second.scoreCell a.airtime
  have same : s.scoreAfter c { x with
      live := .live, miss := 0, candidate := code, accepted := accepted } a.airtime = score := rfl
  have load : s.loadAfter c { x with
      live := .live, miss := 0, candidate := code, accepted := accepted } a.airtime = crowding := by
    have thresholds_ : thresholds s.load { x with
        live := .live, miss := 0, candidate := code, accepted := accepted } = pair := by
      unfold thresholds
      cases ho : x.override with
      | some h => simp only [pair, ho]
      | none => cases hk : x.kind <;> simp [pair, ho, hk]
    unfold State.loadAfter nextLoad
    rw [same, thresholds_]
    cases hl : x.load <;> simp [crowding, hl]
  generalize hv : State.scoreCell _ c a.airtime = v at scored
  have done : s.takeStatus c a = v.each a.heard (State.hearStation c) := by rw [← hv]; rfl
  have frame := State.hearEach_frame c a.heard v
  rw [load, same] at scored
  have base : s.Scoring v loaded c { x with
      live := .live, miss := 0, lastA := a.airtime, candidate := code, accepted := accepted
      score := score, load := crowding } := scored
  rw [done, frame]
  refine ⟨base.get?, fun c' hc => ?_, fun i q hq => ?_, fun i hi => ?_, ?_⟩
  · exact (congrArg (fun t : Table Cell => t.get? c') base.cells).trans ((Table.get?_put ..).trans (if_neg hc))
  · have known : v.station? i = some q := (congrArg (fun t : Table Station => t.get? i) base.stations).trans hq
    have heard_ := State.station?_hearEach c a.heard v i
    rw [known, base.touched.now] at heard_
    exact heard_
  · have known : v.station? i = none := (congrArg (fun t : Table Station => t.get? i) base.stations).trans hi
    have heard_ := State.station?_hearEach c a.heard v i
    rw [known] at heard_
    exact heard_
  · have whole : v = { s with cells := v.cells, stations := v.stations, demand := v.demand
                              ports := { s.ports with w := v.ports.w, v := v.ports.v } } :=
      base.touched.eq_frame.trans rfl
    have ports : v.ports = { loaded.ports with v := v.ports.v } := by
      have noted := congrArg State.ports base.noted
      have mine := congrArg State.ports whole
      rw [noted, ← base.portW]
      exact mine
    have kept : v = { s with cells := v.cells, stations := v.stations, demand := v.demand, ports := v.ports } :=
      whole.trans (congrArg (fun p : Ports => { s with
        cells := v.cells, stations := v.stations, demand := v.demand, ports := p }) (congrArg State.ports whole).symm)
    generalize (v.each a.heard (State.hearStation c)).stations = heardStations
    dsimp only
    rw [← ports]
    exact congrArg (fun u : State => { u with stations := heardStations }) kept

/-! ### The reports of an answer -/

/-- The reports after one that is accepted. -/
def State.Accepts (s v : State) (t : TrunkId) (known : Bool) (b : List Byte) (bs : List (List Byte))
    (ok : List Bool) : Prop :=
  s.considerReports t known (b :: bs) ok
    = ((v.considerReports t known bs ok.tail).1, (v.considerReports t known bs ok.tail).2 + 1)

/-- One report of an answer, by what is read and by the cell it names. -/
theorem State.considerReports_cases (s : State) (t : TrunkId) (known : Bool) (b : List Byte) (bs : List (List Byte))
    (ok : List Bool) : let r := s.trunk t
    ((ok.headD false = false ∨ parseReport t b = none) →
        s.considerReports t known (b :: bs) ok = (s.raiseFlag t .garbledReport, 0))
    ∧ ∀ rep, ok.headD false = true → parseReport t b = some rep →
      ((known = false ∨ s.configured rep.cell = false) → s.Accepts (s.raiseFlag t .unknownCell) t known b bs ok)
      ∧ (known = true → s.configured rep.cell = true → rep.body = .urgent →
          s.Accepts (s.setTrunk t { r with urgent :=
            if rep.cell % 32 ∈ r.urgent then r.urgent
            else if r.urgent.length < 4 then r.urgent ++ [rep.cell % 32] else r.urgent }) t known b bs ok)
      ∧ (known = true → s.configured rep.cell = true → rep.body ≠ .urgent →
          r.intake.length < 32 → s.Accepts (s.setTrunk t { r with intake := r.intake ++ [rep] }) t known b bs ok)
      ∧ (known = true → s.configured rep.cell = true → rep.body ≠ .urgent →
          32 ≤ r.intake.length → s.considerReports t known (b :: bs) ok = (s, 0)) := by
  intro r
  unfold State.Accepts
  refine ⟨fun h => ?_, fun rep hok hp => ?_⟩
  · have unread : (if ok.headD false then parseReport t b else none) = none := by
      obtain h | h := h
      · exact if_neg (by rw [h]; exact Bool.false_ne_true)
      · rw [h, ite_self]
    rw [State.considerReports, unread]
  · have read : (if ok.headD false then parseReport t b else none) = some rep := (if_pos hok).trans hp
    have urgent := rep.body.isUrgent_iff
    rw [State.considerReports, read]
    dsimp only
    refine ⟨fun h => ?_, fun hk hc hb => ?_, fun hk hc hb hl => ?_, fun hk hc hb hl => ?_⟩
    · exact if_pos (by obtain h | h := h <;> simp [h])
    · rw [if_neg (by simp [hk, hc]), if_pos (urgent.2 hb), State.routeUrgent, Trunk.addUrgent_eq]
      rfl
    · rw [if_neg (by simp [hk, hc]), if_neg fun h => hb (urgent.1 h), if_pos ((s.intakeFree_iff t).2 hl)]
      rfl
    · rw [if_neg (by simp [hk, hc]), if_neg fun h => hb (urgent.1 h),
        if_neg fun h => Nat.not_lt.2 hl ((s.intakeFree_iff t).1 h)]

/-- A report is refused, which ends the answer, or accepted. -/
theorem State.considerReports_step (s : State) (t : TrunkId) (known : Bool) (b : List Byte) (bs : List (List Byte))
    (ok : List Bool) : ∃ v : State, (∀ t', t' ≠ t → v.trunk t' = s.trunk t')
      ∧ (s.considerReports t known (b :: bs) ok = (v, 0) ∨ s.Accepts v t known b bs ok) := by
  have flagged (f : ErrorFlag) (t' : TrunkId) (ht : t' ≠ t) : (s.raiseFlag t f).trunk t' = s.trunk t' := by
    rw [State.trunk_raiseFlag, if_neg ht]
  have set (y : Trunk) (t' : TrunkId) (ht : t' ≠ t) : (s.setTrunk t y).trunk t' = s.trunk t' := by
    rw [State.trunk_setTrunk, if_neg ht]
  obtain ⟨garbled, report⟩ := s.considerReports_cases t known b bs ok
  by_cases hg : ok.headD false = false ∨ parseReport t b = none
  · exact ⟨_, flagged _, .inl (garbled hg)⟩
  obtain ⟨hok, hp⟩ := not_or.1 hg
  obtain ⟨rep, hp⟩ := Option.ne_none_iff_exists'.1 hp
  obtain ⟨unknown, urgent, placed, full⟩ := report rep (Bool.not_eq_false _ ▸ hok) hp
  by_cases hu : known = false ∨ s.configured rep.cell = false
  · exact ⟨_, flagged _, .inr (unknown hu)⟩
  obtain ⟨hk, hc⟩ := not_or.1 hu
  rw [Bool.not_eq_false] at hk hc
  by_cases hb : rep.body = .urgent
  · exact ⟨_, set _, .inr (urgent hk hc hb)⟩
  by_cases hl : (s.trunk t).intake.length < 32
  · exact ⟨_, set _, .inr (placed hk hc hb hl)⟩
  · exact ⟨s, fun _ _ => rfl, .inl (full hk hc hb (Nat.not_lt.1 hl))⟩

/-- The frame and the count of the reports accepted. -/
theorem State.considerReports_frame (s : State) (t : TrunkId) (known : Bool) (bs : List (List Byte)) (ok : List Bool) :
    let w := s.considerReports t known bs ok
    w.2 ≤ bs.length ∧ (∀ t', t' ≠ t → w.1.trunk t' = s.trunk t')
      ∧ w.1 = { s with trunks := w.1.trunks, ports := { s.ports with w := w.1.ports.w } } := by
  have frame := (State.considerReports_touches (G := .bare :: placeViews) t known bs
    (View.subset_of (by decide +kernel)) s ok).eq_frame
  refine and_assoc.1 ⟨?_, frame.trans rfl⟩
  clear frame
  induction bs generalizing s ok with
  | nil => exact ⟨Nat.le_refl 0, fun _ _ => rfl⟩
  | cons b bs ih =>
    obtain ⟨v, others, refused | accepted⟩ := s.considerReports_step t known b bs ok
    · rw [refused]
      exact ⟨Nat.zero_le _, others⟩
    · rw [State.Accepts] at accepted
      obtain ⟨count, rest⟩ := ih v ok.tail
      rw [accepted]
      exact ⟨Nat.succ_le_succ count, fun t' ht => (rest t' ht).trans (others t' ht)⟩

/-- The poll of a cell that has answered: the status part where the cell is still configured, then the reports. -/
theorem State.settlePoll_answered {s : State} {t : TrunkId} {f : UpFrame} {a : PollAnswer} (hok : f.checkOk = true)
    (hp : parseAnswer f.answer = some a) (removed : Bool) {v : State} {known : Bool}
    (hk : (s.configured (cellAt t a.position) && !removed) = known)
    (hv : v = if known then s.takeStatus (cellAt t a.position) a else s) :
    s.settlePoll t ⟨a.position, removed⟩ f =
      (v.considerReports t known a.reports f.reportOk).1.setTrunk t
        { (v.considerReports t known a.reports f.reportOk).1.trunk t with
          ack := (v.considerReports t known a.reports f.reportOk).2 } := by
  have heard : received a.position f = some a := by
    rw [received, if_pos hok, hp]
    exact if_pos rfl
  rw [State.settlePoll, heard, hv, ← hk] <;> rfl

/-- Settles O27: the status part, then the reports one at a time. -/
theorem pollAnswerStatus : Obligations.PollAnswerStatus := by
  have known {s : State} {c : CellId} {x : Cell} (hx : s.cells.get? c = some x) {removed : Bool}
      (hr : removed = false) : (s.configured c && !removed) = true := by rw [State.configured, hx, hr]; rfl
  have gone {s : State} {c : CellId} {removed : Bool} (h : removed = true ∨ s.cells.get? c = none) :
      (s.configured c && !removed) = false := by
    obtain h | h := h
    · rw [h]; exact Bool.and_false _
    · rw [State.configured, h]; rfl
  refine ⟨fun s t f a removed hok hp => ⟨fun x hr hx _ => ?_, fun h => ?_⟩,
    fun s t f a removed hs hserving ha hpo hn hslot hok hp => ?_, fun s t known bs ok => s.considerReports_frame t known bs ok,
    fun s t known b bs ok => ⟨rfl, s.considerReports_cases t known b bs ok⟩⟩
  · exact ⟨_, State.updated_takeStatus hx a, State.settlePoll_answered hok hp removed (known hx hr) rfl⟩
  · exact State.settlePoll_answered hok hp removed (gone h) rfl
  · intro r c idle
    have whole := exec_polled hs hserving ha hpo hn hslot
    refine ⟨fun x hr hx _ => ⟨_, State.updated_takeStatus (s := idle) hx a, ?_⟩, fun h => ?_⟩
    · have poll := State.settlePoll_answered (s := idle) hok hp removed (known (s := idle) hx hr) rfl
      rw [whole, poll, State.tallied, hok]
      rfl
    · have poll := State.settlePoll_answered (s := idle) hok hp removed (gone (s := idle) h) rfl
      rw [whole, poll, State.tallied, hok]
      rfl

end Sys2Proof.Machine
end


section
/-! PROOF. The Report Processor (R50, R51), the admission check (R103 to R107) and association (R86 to R89). -/
namespace Sys2Proof.Machine

/-! ### The take of a report (R50) -/

theorem nextTrunk_eq (t : TrunkId) : nextTrunk t = t + 1 := by decide +revert

theorem ofNat_sub (p t : TrunkId) : (Fin.ofNat 8 (p.val + (t - p).val) : TrunkId) = t := by decide +revert

theorem val_ofNat_sub (p : TrunkId) : ∀ j < 8, ((Fin.ofNat 8 (p.val + j) : TrunkId) - p).val = j := by decide +revert

theorem State.Takes.nextServed {s : State} {t : TrunkId} {rep : Report} (h : s.Takes t rep) :
    s.nextServed = some t := by
  have filled : (s.trunk t).intake ≠ [] := fun he => by have := h.head; rw [he] at this; cases this
  have index := (t - s.pointer).isLt
  refine List.find?_eq_some_iff_getElem.2 ⟨?_, (t - s.pointer).val, ?_, ?_, fun j hj => ?_⟩
  · simp [filled]
  · simp [trunksFrom]
  · simpa [trunksFrom] using ofNat_sub s.pointer t
  · have first := h.first (Fin.ofNat 8 (s.pointer.val + j)) (by rw [val_ofNat_sub _ j (by omega)]; exact hj)
    simpa [trunksFrom] using first

theorem exec_reportTake {s : State} (hs : s.held = false) : exec .reportTake s = .next (match s.nextServed with
    | none => s
    | some t => match (s.trunk t).intake with
      | [] => s.afterTake t
      | r :: _ => (s.afterTake t).takeReport r) := by
  simp only [exec, execReportTake, State.live_released s hs, nextTrunk_eq, State.afterTake] <;> rfl

theorem exec_reportTake_takes {s : State} {t : TrunkId} {rep : Report} (h : s.Takes t rep) :
    exec .reportTake s = .next ((s.afterTake t).takeReport rep) := by
  obtain ⟨rest, hr⟩ : ∃ rest, (s.trunk t).intake = rep :: rest := by
    have := h.head
    cases hi : (s.trunk t).intake with
    | nil => rw [hi] at this; cases this
    | cons r rest => rw [hi] at this; cases this; exact ⟨rest, rfl⟩
  rw [exec_reportTake h.released, h.nextServed]
  dsimp only
  rw [hr]

/-- A report of a configured sender is handed on. -/
theorem exec_reportTake_handed {s : State} {t : TrunkId} {x : CellId} {b : ReportBody}
    (h : s.Takes t ⟨x, b, false⟩) (hc : s.configured x = true) :
    exec .reportTake s = .next ((s.afterTake t).handReport x b) := by
  have known : (s.afterTake t).configured x = true := hc
  rw [exec_reportTake_takes h, State.takeReport, known] <;> rfl

/-- A station stands at a cell: it is its current or its pending cell. -/
theorem Station.standsAt_iff (r : Station) (x : CellId) :
    r.standsAt x = true ↔ r.cell = x ∨ ∃ m, r.roam = some m ∧ m.pending = x := by
  unfold Station.standsAt Station.pendingAt
  cases r.roam <;> simp

theorem State.named_none {s : State} {x : CellId} {i : StationIx}
    (h : ∀ r, s.station? i = some r → r.cell ≠ x ∧ ∀ m, r.roam = some m → m.pending ≠ x) : s.named x i = none := by
  unfold State.named
  cases hr : s.station? i with
  | none => rfl
  | some r =>
    refine if_neg fun hs => ?_
    obtain ⟨hc, hp⟩ := h r hr
    obtain hs | ⟨m, hm, hs⟩ := (r.standsAt_iff x).1 hs
    · exact hc hs
    · exact hp m hm hs

theorem State.named_some {s : State} {x : CellId} {i : StationIx} {r : Station} (hr : s.station? i = some r)
    (hs : r.cell = x ∨ ∃ m, r.roam = some m ∧ m.pending = x) : s.named x i = some r := by
  unfold State.named
  rw [hr]
  exact if_pos ((r.standsAt_iff x).2 hs)

/-- A report that names a station standing at its sender: the record refreshed, the report handled. -/
theorem State.onStation_standing {s : State} {x : CellId} {i : StationIx} {r : Station} (hr : s.station? i = some r)
    (hs : r.cell = x ∨ ∃ m, r.roam = some m ∧ m.pending = x) (f : State → Station → State) :
    s.onStation x i f = f (s.putStation i { r with lastHeard := s.now }) { r with lastHeard := s.now } := by
  rw [State.onStation, State.named_some hr hs] <;> rfl

theorem State.handReport_missing {s : State} {x : CellId} {b : ReportBody} {i : StationIx} (hi : b.index? = some i)
    (hn : s.named x i = none) : s.handReport x b = s := by
  have none_ (f : State → Station → State) : s.onStation x i f = s := by rw [State.onStation, hn]
  cases b with
  | assoc a o => cases hi
  | urgent => cases hi
  | depart j => cases hi; rw [State.handReport, none_]
  | presentTicket j k => cases hi; rw [State.handReport, none_]
  | subscribe j n => cases hi; rw [State.handReport, none_]
  | unsubscribe j n => cases hi; rw [State.handReport, none_]

/-- Settles O34: the queue served, the checks of sender and station, and what a take leaves of the queues. -/
theorem reportsTakenInTurn : Obligations.ReportsTakenInTurn := by
  refine fun s => ⟨fun t x b removed h => ⟨fun hu => ?_, fun i hi hn => ?_, ?_⟩, fun he => ?_⟩
  · rw [exec_reportTake_takes h, State.takeReport, if_neg]
    have same : (s.afterTake t).configured x = s.configured x := rfl
    obtain hu | hu := hu
    · simp [hu]
    · simp [same, hu]
  · rw [exec_reportTake_takes h, State.takeReport]
    split
    · exact congrArg _ (State.handReport_missing hi (State.named_none hn))
    · rfl
  · have touched := (s.afterTake t).takeReport_touches (G := handViews) ⟨x, b, removed⟩
    refine ⟨_, exec_reportTake_takes h, touched.pointer, (touched.trunk .intake t).trans ?_, fun t' ht =>
      (touched.trunk .intake t').trans ?_⟩
    · exact congrArg Trunk.intake ((State.trunk_setTrunk ..).trans (if_pos rfl))
    · exact congrArg Trunk.intake ((State.trunk_setTrunk ..).trans (if_neg ht))
  · cases hs : s.held with
    | true => simp only [exec, execReportTake, State.live_held s hs]
    | false =>
      have none_ : s.nextServed = none := List.find?_eq_none.2 fun t _ => by simp [he t]
      rw [exec_reportTake hs, none_]

/-! ### The admission check (R103 to R107) -/

theorem State.fenceOk_iff (s : State) (fenced : Bool) (c : CellId) :
    s.fenceOk fenced c = true ↔ ¬ (fenced = true ∧ (s.cell c).kind = .seat) := by
  unfold State.fenceOk Cell.isSeat
  cases fenced <;> cases (s.cell c).kind <;> decide

theorem State.hasRoom_iff (s : State) (c : CellId) : (s.cell c).hasRoom = true ↔ s.HasRoom c :=
  decide_eq_true_iff

theorem State.crowded_iff (s : State) (c : CellId) : (s.cell c).crowded = true ↔ s.IsCrowded c := by
  rw [Cell.crowded, Bool.or_eq_true, beq_iff_eq, beq_iff_eq]
  exact Iff.rfl

theorem State.qualifies_iff (s : State) (fenced : Bool) (c : CellId) : s.qualifies fenced c = true ↔
    s.Admits c ∧ ¬ (fenced = true ∧ (s.cell c).kind = .seat) ∧ s.HasRoom c ∧ ¬ s.IsCrowded c := by
  rw [State.qualifies, Bool.and_eq_true, Bool.and_eq_true, Bool.and_eq_true, Bool.not_eq_true', ← Bool.not_eq_true,
    State.admitting_iff, State.fenceOk_iff, State.hasRoom_iff, State.crowded_iff, and_assoc, and_assoc]

/-- Settles O36: the four steps as the code takes them; the alternative is the best of the neighbours that qualify. -/
theorem admissionDecides : Obligations.AdmissionDecides := by
  intro s fenced held x fenceOk outcome
  have admits := s.admitting_iff x
  have fence := s.fenceOk_iff fenced x
  have room := s.hasRoom_iff x
  have crowded := s.crowded_iff x
  have decided : outcome = if s.admitting x = true then if s.fenceOk fenced x = true then
      if (s.cell x).hasRoom = true then if (s.cell x).crowded = true ∧ held = false then
          match s.alternative fenced x with
          | some a => .steer a true
          | none => .accept
        else .accept
      else match s.alternative fenced x with
        | some a => .steer a false
        | none => .deny .full
      else .deny .fenced else .deny .cellDown := by
    change s.admission fenced held x = _
    unfold State.admission
    cases s.admitting x <;> cases s.fenceOk fenced x <;> cases (s.cell x).hasRoom <;> cases (s.cell x).crowded <;>
      cases held <;> rfl
  refine ⟨s.alternative fenced x, s.lowestOf_best _ _ _ (s.qualifies_iff fenced), fun h => ?_, fun h hf => ?_,
    fun h hf hr => ?_, fun h hf hr hc hh => ?_, fun h hf hr hc => ?_⟩
  · exact decided.trans (if_neg fun g => h (admits.1 g))
  · exact decided.trans ((if_pos (admits.2 h)).trans (if_neg fun g => hf (fence.1 g)))
  · exact decided.trans ((if_pos (admits.2 h)).trans ((if_pos (fence.2 hf)).trans (if_neg fun g => hr (room.1 g))))
  · exact decided.trans ((if_pos (admits.2 h)).trans ((if_pos (fence.2 hf)).trans ((if_pos (room.2 hr)).trans
      (if_pos ⟨crowded.2 hc, hh⟩))))
  · refine decided.trans ((if_pos (admits.2 h)).trans ((if_pos (fence.2 hf)).trans ((if_pos (room.2 hr)).trans
      (if_neg fun g => ?_))))
    obtain hc | hc := hc
    · exact hc (crowded.1 g.1)
    · exact Bool.false_ne_true (g.2.symm.trans hc)

/-! ### Association -/

theorem State.best_of_cells {s v : State} (h : v.cells = s.cells) (cs : List CellId) : v.best cs = s.best cs := by
  induction cs with
  | nil => rfl
  | cons c cs ih => simp only [State.best, ih, State.better, State.cell, h] <;> rfl

/-- The admission check looks at the cells alone. -/
theorem State.admission_of_cells {s v : State} (h : v.cells = s.cells) (fenced held : Bool) (x : CellId) :
    v.admission fenced held x = s.admission fenced held x := by
  have cell (c : CellId) : v.cell c = s.cell c := by rw [State.cell, State.cell, h]
  have admitting (c : CellId) : v.admitting c = s.admitting c := by
    rw [State.admitting, State.admitting, cell, State.configured, State.configured, h]
  have fenceOk (c : CellId) : v.fenceOk fenced c = s.fenceOk fenced c := by
    rw [State.fenceOk, State.fenceOk, cell]
  have qualifies : v.qualifies fenced = s.qualifies fenced := by
    funext c
    rw [State.qualifies, State.qualifies, admitting, fenceOk, cell]
  have alternative : v.alternative fenced x = s.alternative fenced x := by
    rw [State.alternative, State.alternative, qualifies, cell, State.best_of_cells h]
  unfold State.admission
  rw [admitting, fenceOk, cell, alternative]

/-- The tier of a binding at a cell is told by the cell's kind and section and by the tickets. -/
theorem State.tierOf_of {s v : State} {c : CellId} (hk : (v.cell c).kind = (s.cell c).kind)
    (hs : (v.cell c).section_ = (s.cell c).section_) (ht : v.tickets = s.tickets) (b : Binding) :
    v.tierOf b c = s.tierOf b c := by
  unfold State.tierOf State.ticket?
  dsimp only
  rw [hk, hs, ht]

theorem State.presentCarried_eq (s : State) (x : CellId) (i : StationIx) (token : Option Token) :
    s.presentCarried x i token = match token with
      | some k => s.present x i k
      | none => s := by cases token <;> rfl

theorem State.refreshAddress_none {s : State} {a : Address} (h : s.stationAt? a = none) : s.refreshAddress a = s := by
  rw [State.refreshAddress, h]

theorem State.assoc_unknown {s : State} {x : CellId} {a : Address} (h : s.stationAt? a = none) (o : Option Token) :
    (s.refreshAddress a).assoc x a o = s.assocUnknown x a o := by
  rw [State.refreshAddress_none h, State.assoc, h]

theorem State.assocUnknown_room {s : State} {x : CellId} {a : Address} {o : Option Token}
    (h : s.stations.entries.length < 16384) : s.assocUnknown x a o = match s.admission false false x with
      | .deny why => s.tell x (.assocDeny a why)
      | .steer n _ => s.tell x (.steer a n)
      | .accept => s.create x a o :=
  if_neg (Nat.not_le.2 h)

theorem exec_assoc_unknown {s : State} {t : TrunkId} {x : CellId} {a : Address} {o : Option Token}
    (h : s.Takes t ⟨x, .assoc a o, false⟩) (hc : s.configured x = true) (ha : s.stationAt? a = none) :
    exec .reportTake s = .next ((s.afterTake t).assocUnknown x a o) :=
  (exec_reportTake_handed h hc).trans (congrArg _ (State.assoc_unknown (s := s.afterTake t) ha o))

/-- The record of a configured cell. -/
theorem State.cells_get {s : State} {x : CellId} (h : s.configured x = true) : s.cells.get? x = some (s.cell x) := by
  unfold State.configured at h
  unfold State.cell
  cases hx : s.cells.get? x with
  | none => rw [hx] at h; cases h
  | some r => rfl

/-- The views of a trunk's record but its idle timer. -/
abbrev busyViews : List View := [.trunk .state, .trunk .enable, .trunk .autoWake, .trunk .idlePeriod,
  .trunk .markCarriage, .trunk .rmin, .trunk .flags, .trunk .good, .trunk .bad, .trunk .entry, .trunk .nextFrame,
  .trunk .mfTaken, .trunk .markField, .trunk .awaiting, .trunk .polled, .trunk .marker, .trunk .fails, .trunk .echo,
  .trunk .ack, .trunk .holdSent, .trunk .intake, .trunk .pollList, .trunk .regular, .trunk .urgent, .trunk .control,
  .trunk .replay, .trunk .allocation, .trunk .frame]

theorem Trunk.ext_view {r q : Trunk} (h : ∀ x, r.view x = q.view x) : r = q := by
  obtain ⟨⟩ := r
  obtain ⟨⟩ := q
  simp only [Trunk.mk.injEq]
  exact ⟨h .state, h .enable, h .autoWake, h .idlePeriod, h .markCarriage, h .rmin, h .flags, h .good, h .bad,
    h .entry, h .idle, h .nextFrame, h .mfTaken, h .markField, h .awaiting, h .polled, h .marker, h .fails, h .echo,
    h .ack, h .holdSent, h .intake, h .pollList, h .regular, h .urgent, h .control, h .replay, h .allocation, h .frame⟩

/-- A footprint that has nothing of the trunks but the idle timers. -/
theorem State.Touches.trunkIdle {F : List View} {s u : State} (h : s.Touches F u)
    (hF : View.apart busyViews F = true) (t : TrunkId) :
    u.trunk t = { s.trunk t with idle := (u.trunk t).idle } := by
  have same (x : TrunkView) (hx : View.trunk x ∈ busyViews) : (u.trunk t).view x = (s.trunk t).view x :=
    h.trunk x t ((View.apart_iff busyViews F).1 hF _ hx)
  refine Trunk.ext_view fun x => ?_
  cases x with
  | idle => rfl
  | _ => exact same _ (View.mem_of rfl)

theorem State.cells_countCell (s : State) (c : CellId) (f : Cell → Cell) (c' : CellId) :
    (s.countCell c f).cells.get? c' = if c' = c then (s.cells.get? c).map f else s.cells.get? c' := by
  rw [State.countCell, State.idleUpdate_frame]
  exact State.cells_modCell s c f c'

theorem Table.get?_below_firstFree {α : Type} (t : Table α) {j : Nat} (h : j < firstFree 0 t.keys) :
    t.get? j ≠ none := by
  have listed := (mem_keys_iff t.entries j).1 (mem_of_lt_firstFree t.keys 0 j (Nat.zero_le j) h)
  exact Option.isSome_iff_ne_none.1 listed

/-- Settles O35: table full, refused, steered, or created at the lowest free index. -/
theorem assocOfUnknownPhone : Obligations.AssocOfUnknownPhone := by
  intro s t x a o h hc ha hwf tier
  have whole := exec_assoc_unknown h hc ha
  have admission := State.admission_of_cells (s := s) (v := s.afterTake t) rfl false false x
  refine ⟨fun hf => whole.trans (congrArg _ (if_pos hf)), fun hr => ?_⟩
  have room := State.assocUnknown_room (s := s.afterTake t) (x := x) (a := a) (o := o) hr
  rw [admission] at room
  refine ⟨fun why hd => ?_, fun n byLoad hd => ?_, fun hd => ?_⟩
  · rw [whole, room, hd]
  · rw [whole, room, hd]
  · rw [hd] at room
    let i := firstFree 0 s.stations.keys
    let r : Station := ⟨a, x, none, .unbound, [], tier, s.now,
      if (s.cell x).kind = .seat then some s.now else none, none⟩
    have record : newStation (s.afterTake t) x a = r := by
      have tier_ : (s.afterTake t).tierOf .unbound x = tier :=
        (State.tierOf_of (s := s) rfl rfl rfl .unbound).trans (s.tierOf_unbound x)
      have grace : (if ((s.afterTake t).cell x).isSeat then some (s.afterTake t).now else none)
          = if (s.cell x).kind = .seat then some s.now else none :=
        ite_congr_iff beq_iff_eq rfl rfl
      rw [newStation, tier_, grace]
      rfl
    have created : (s.afterTake t).create x a o = State.presentCarried
        ((((s.afterTake t).putStation i r).countCell x Cell.gain).tell x (.assocAccept i tier)) x i o := by
      rw [State.create, record]
      rfl
    have counted := ((s.afterTake t).putStation i r).countCell_touches (G := countViews) x countsOnly_gain
    have cells := ((s.afterTake t).putStation i r).cells_countCell x Cell.gain
    refine ⟨((s.afterTake t).putStation i r).countCell x Cell.gain, _, i, rfl, ?_, Table.get?_firstFree _ hwf,
      fun j hj => Table.get?_below_firstFree _ hj, ?_, fun j hj => ?_, ?_, fun c hc => ?_, fun t' => ?_, ?_⟩
    · rw [whole, room]
      dsimp only
      rw [created, State.presentCarried_eq] <;> rfl
    · rw [counted.station?, State.station?_putStation, if_pos rfl]
    · rw [counted.station?, State.station?_putStation, if_neg hj]
      rfl
    · rw [cells, if_pos rfl]
      exact congrArg (Option.map Cell.gain) (State.cells_get hc)
    · rw [cells, if_neg hc]
      rfl
    · exact counted.trunkIdle (by decide +kernel) t'
    · refine (State.countCell_frame ..).trans ?_
      rw [counted.stations] <;> rfl

/-! ### An ASSOC of a known phone -/

theorem State.settledBinding_eq (s : State) (b : Binding) (x : CellId) : s.settledBinding b x =
    if b = .fenced ∧ (s.cell x).kind = .concourse then .unbound else b := by
  unfold State.settledBinding
  cases b <;> cases (s.cell x).kind <;> simp

theorem Station.isFenced_eq (r : Station) : r.isFenced = (r.binding == .fenced) := by
  unfold Station.isFenced
  cases r.binding <;> rfl

theorem mem_of_findAddress {l : List (Nat × Station)} {a : Address} {i : StationIx} {r : Station}
    (h : findAddress l a = some (i, r)) : (i, r) ∈ l ∧ r.address = a := by
  induction l with
  | nil => cases h
  | cons e l ih =>
    rw [findAddress] at h
    split at h
    · next he => cases h; exact ⟨List.mem_cons_self, he⟩
    · obtain ⟨hm, hr⟩ := ih h
      exact ⟨List.mem_cons_of_mem _ hm, hr⟩

/-- The record found for an address is found again when it has been rewritten with the same address. -/
theorem findAddress_put {l : List (Nat × Station)} {a : Address} {i : StationIx} {r q : Station}
    (h : findAddress l a = some (i, r)) (hl : l.Pairwise fun e d => e.1 < d.1) (hq : q.address = a) :
    findAddress (assocPut l i q) a = some (i, q) := by
  induction l with
  | nil => cases h
  | cons e l ih =>
    obtain ⟨first, rest⟩ := List.pairwise_cons.1 hl
    rw [findAddress] at h
    split at h
    · cases h
      rw [assocPut, if_neg (Nat.lt_irrefl _), if_pos rfl, findAddress, if_pos hq]
    · next he =>
      have below : e.1 < i := first (i, r) (mem_of_findAddress h).1
      rw [assocPut, if_neg (Nat.not_lt.2 (Nat.le_of_lt below)), if_neg (Nat.ne_of_gt below), findAddress, if_neg he, ih h rest]

theorem State.stationAt?_putStation {s : State} {a : Address} {i : StationIx} {r q : Station}
    (h : s.stationAt? a = some (i, r)) (hwf : s.stations.wf = true) (hq : q.address = a) :
    (s.putStation i q).stationAt? a = some (i, q) :=
  findAddress_put h (pairwise_of_rising _ hwf) hq

/-- What a known phone's ASSOC leads to, its record refreshed. -/
theorem exec_assoc_known {s : State} {t : TrunkId} {x : CellId} {a : Address} {o : Option Token} {i : StationIx}
    {r : Station} (h : s.Takes t ⟨x, .assoc a o, false⟩) (hc : s.configured x = true) (hwf : s.stations.wf = true)
    (ha : s.stationAt? a = some (i, r)) {v : State} {q : Station} (hq : q = { r with lastHeard := s.now })
    (hv : v = (s.afterTake t).putStation i q) : exec .reportTake s = .next
      (match r.roam with
      | none => if r.cell = x then v.acceptAgain x i r.tier o else v.roamRequest x i q o
      | some m =>
        if m.pending = x then v.acceptAgain x i (v.tierAt r.binding x) o
        else if r.cell = x then v.acceptAgain x i r.tier o
        else v.deny x a .busy) := by
  have address : q.address = a := by rw [hq]; exact (mem_of_findAddress ha).2
  have refreshed : (s.afterTake t).refreshAddress a = v := by
    have found : (s.afterTake t).stationAt? a = some (i, r) := ha
    rw [State.refreshAddress, found, hv, hq] <;> rfl
  have found : v.stationAt? a = some (i, q) := by
    rw [hv]
    exact State.stationAt?_putStation (s := s.afterTake t) ha hwf address
  refine (exec_reportTake_handed h hc).trans (congrArg _ ?_)
  change ((s.afterTake t).refreshAddress a).assoc x a o = _
  rw [refreshed, State.assoc, found, hq] <;> rfl

/-- The tier that a phone would have at a cell once settled there. -/
theorem State.tierAt_of {s v : State} {x : CellId} (hk : (v.cell x).kind = (s.cell x).kind)
    (hs : (v.cell x).section_ = (s.cell x).section_) (ht : v.tickets = s.tickets) (b : Binding) :
    v.tierAt b x = s.tierOf (if b = .fenced ∧ (s.cell x).kind = .concourse then .unbound else b) x := by
  rw [State.tierAt, State.settledBinding_eq, hk, State.tierOf_of hk hs ht]

/-- Settles O37: the record refreshed, then by the station's roam, its cell and the admission check. -/
theorem assocOfKnownPhone : Obligations.AssocOfKnownPhone := by
  intro s t x a o i r h hc hwf ha at_ q carried tierAtX
  have whole := exec_assoc_known (v := at_ q) h hc hwf ha (q := q) rfl rfl
  have carries (v : State) : v.presentCarried x i o = carried v := v.presentCarried_eq x i o
  have again (l : Level) : (at_ q).acceptAgain x i l o = carried ((at_ q).tell x (.assocAccept i l)) := carries _
  have tier : (at_ q).tierAt r.binding x = tierAtX := State.tierAt_of (s := s) rfl rfl rfl r.binding
  refine ⟨fun hr hx => ?_, fun m hr hm => ?_, fun m hr hm hx => ?_, fun m hr hm hx => ?_, fun hr hx => ?_⟩ <;>
    rw [hr] at whole <;> dsimp only at whole
  · rw [whole, if_pos hx, again]
  · rw [whole, if_pos hm, again, tier]
  · rw [whole, if_neg hm, if_pos hx, again]
  · rw [whole, if_neg hm, if_neg hx]
    rfl
  · rw [if_neg hx] at whole
    have address : r.address = a := (mem_of_findAddress ha).2
    have admission := State.admission_of_cells (s := s) (v := at_ q) rfl q.isFenced q.steerHold.isSome x
    rw [q.isFenced_eq] at admission
    have request : (at_ q).roamRequest x i q o = match s.admission (r.binding == .fenced) r.steerHold.isSome x with
      | .deny why => (at_ q).deny x q.address why
      | .steer n true => ((at_ q).setSteerHold i q).tell x (.steer q.address n)
      | .steer n false => (at_ q).tell x (.steer q.address n)
      | .accept => (at_ q).startRoam x i q o := by
      rw [State.roamRequest, q.isFenced_eq, admission] <;> rfl
    rw [request] at whole
    split
    · next why hd => rw [whole, hd, ← address] <;> rfl
    · next n hd => rw [whole, hd, ← address] <;> rfl
    · next n hd =>
      have put (q' : Station) : (at_ q).putStation i q' = at_ q' := State.putStation_putStation ..
      rw [whole, hd, ← address]
      dsimp only
      rw [State.setSteerHold, put] <;> rfl
    · next hd =>
      have expected : (at_ { q with roam := some ⟨x, s.now⟩ }).modCell x Cell.expect =
          { at_ { q with roam := some ⟨x, s.now⟩ } with
            cells := s.cells.put x { s.cell x with incoming := (s.cell x).incoming + 1 } } := by
        have live : (at_ { q with roam := some ⟨x, s.now⟩ }).cells.get? x = some (s.cell x) := State.cells_get hc
        rw [State.modCell, live]
        rfl
      have counted := (at_ { q with roam := some ⟨x, s.now⟩ }).countCell_touches (G := countViews) x countsOnly_expect
      have roaming := State.tierAt_of (s := s) (counted.cellView .kind x) (counted.cellView .section_ x) counted.tickets
        r.binding
      have put : (at_ q).putStation i { q with roam := some ⟨x, s.now⟩ } = at_ { q with roam := some ⟨x, s.now⟩ } :=
        State.putStation_putStation ..
      have started : (at_ q).startRoam x i q o =
          (((State.countCell (at_ { q with roam := some ⟨x, s.now⟩ }) x Cell.expect).tell x (.assocAccept i
            ((State.countCell (at_ { q with roam := some ⟨x, s.now⟩ }) x Cell.expect).tierAt r.binding x))).tell r.cell
              (.roamRelease i)).presentCarried x i o := by
        rw [← put]
        rfl
      rw [roaming, carries] at started
      rw [whole, hd]
      dsimp only
      rw [started, State.countCell, expected]

end Sys2Proof.Machine
end


section
/-! PROOF. The end of a roam (R112, R113) and the removal of stations (R90 to R95). -/
namespace Sys2Proof.Machine

/-! ### A roam completed -/

/-- The station's record after its roam, settled at the cell that was pending. -/
theorem State.arrived_eq (s : State) (r : Station) (m : Roam) : s.arrived r m = { r with
    cell := m.pending, roam := none
    binding := (s.arrived r m).binding, grace := (s.arrived r m).grace, tier := (s.arrived r m).tier } := by
  unfold State.arrived
  dsimp only
  rw [Station.settle_eq]

theorem State.settledFrom_arrived (s : State) (r : Station) (m : Roam) :
    settledFrom s.now (s.cell r.cell).kind (s.cell m.pending).kind r (s.arrived r m) :=
  settledFrom_settle (r := { r with cell := m.pending, roam := none }) s.now _ _ rfl rfl

/-- A roam completed, its TIER_UPDATE left out. -/
def State.roamMoved (s : State) (i : StationIx) (r : Station) (m : Roam) : State :=
  (((((s.leaveCounts r.cell r.tier r.subs).countCell r.cell Cell.lose).countCell m.pending Cell.arrive).putStation i
    (s.arrived r m)).joinCounts m.pending (s.arrived r m).tier r.subs).recomputeEach r.subs

theorem State.recomputeEach_beside (s : State) (ks : List StreamId) : s.Beside (s.recomputeEach ks) := by
  have told := State.recomputeEach_touches (G := [.demand, .portV]) s ks
  exact ⟨told.trunks, told.portW, told.now⟩

/-- The TIER_UPDATE of a completed roam may come last. -/
theorem State.completeRoam_eq (s : State) (i : StationIx) (r : Station) (m : Roam) : s.completeRoam i r m =
    (s.roamMoved i r m).tierTold i m.pending r.tier (s.arrived r m).tier := by
  have here (w : State) : ((w.putStation i (s.arrived r m)).joinCounts m.pending (s.arrived r m).tier r.subs).station? i
      = some (s.arrived r m) := by
    rw [(State.joinCounts_touches (G := [.fan]) ..).station?, State.station?_putStation, if_pos rfl]
  have told (w : State) (hw : w.station? i = some (s.arrived r m)) :
      w.tellTier i (if (s.arrived r m).tier = r.tier then none else some (s.arrived r m).tier) =
        w.tierTold i m.pending r.tier (s.arrived r m).tier := by
    have cell : (s.arrived r m).cell = m.pending := by rw [State.arrived_eq]
    unfold State.tierTold
    split
    · rfl
    · rw [State.tellTier_some hw, cell]
  unfold State.completeRoam State.roamMoved
  dsimp only
  rw [told _ (here _)]
  exact State.tierTold_comm (f := (State.recomputeEach · r.subs)) i m.pending r.tier _
    (fun a h => State.recomputeEach_graft h r.subs) (State.recomputeEach_beside _ _)

/-- What a completed roam may change beside its message. -/
abbrev movedViews : List View := stationViews ++ countViews ++ [.fan, .demand, .portV]

theorem State.roamMoved_touches {G : List View} (s : State) (i : StationIx) (r : Station) (m : Roam)
    (hG : movedViews ⊆ G := by exact View.subset_of (by decide +kernel)) : s.Touches G (s.roamMoved i r m) :=
  .mono (.trans (State.leaveCounts_touches ..) (.trans (State.countCell_touches _ _ countsOnly_lose)
    (.trans (State.countCell_touches _ _ countsOnly_arrive) (.trans (State.newStation_touches ..)
      (.trans (State.joinCounts_touches ..) (State.recomputeEach_touches ..)))))) hG

theorem State.station?_roamMoved (s : State) (i : StationIx) (r : Station) (m : Roam) (j : StationIx) :
    (s.roamMoved i r m).station? j = if j = i then some (s.arrived r m) else s.station? j := by
  have counted := ((State.leaveCounts_touches (G := .fan :: countViews) s r.cell r.tier r.subs).trans
    (State.countCell_touches _ r.cell countsOnly_lose)).trans (State.countCell_touches _ m.pending countsOnly_arrive)
  unfold State.roamMoved
  rw [State.station?_recomputeEach, (State.joinCounts_touches (G := [.fan]) ..).station?, State.station?_putStation,
    counted.station?]

theorem State.cells_roamMoved {s : State} {i : StationIx} {r : Station} {m : Roam} (h : r.cell ≠ m.pending) (c : CellId) :
    (s.roamMoved i r m).cells.get? c = if c = r.cell then (s.cells.get? c).map Cell.lose
      else if c = m.pending then (s.cells.get? c).map Cell.arrive else s.cells.get? c := by
  unfold State.roamMoved
  rw [((State.joinCounts_touches (G := [.fan, .demand, .portV]) ..).trans (State.recomputeEach_touches ..)).cells,
    State.putStation_cells, State.cells_countCell, State.cells_countCell, State.cells_countCell,
    (State.leaveCounts_touches (G := [.fan]) ..).cells]
  by_cases hc : c = r.cell
  · rw [if_pos hc, if_neg (by rw [hc]; exact h), if_pos hc, hc]
  · rw [if_neg hc, if_neg hc, if_neg (Ne.symm h)]
    by_cases hp : c = m.pending
    · rw [if_pos hp, if_pos hp, hp]
    · rw [if_neg hp, if_neg hp]

/-- **A roam completed**; `w` differs from `s` at most in the station's own record. -/
theorem State.roamDone_completeRoam {s w : State} {i : StationIx} {r : Station} {m : Roam}
    (hw : w = { s with stations := w.stations }) (ho : ∀ j, j ≠ i → w.station? j = s.station? j)
    (hne : r.cell ≠ m.pending) : s.RoamDone (w.completeRoam i r m) i r m := by
  have moved := w.roamMoved_touches i r m (G := movedViews)
  have told := State.tierTold_touches (G := messageViews) (w.roamMoved i r m) i m.pending r.tier (w.arrived r m).tier
  have cells (c : CellId) : w.cells.get? c = s.cells.get? c := by rw [hw]
  have cellsAt (c : CellId) : ((w.completeRoam i r m).cells.get? c) = _ :=
    (congrArg (fun v : State => v.cells.get? c) (w.completeRoam_eq i r m)).trans
      ((congrArg (fun x : Table Cell => x.get? c) told.cells).trans (State.cells_roamMoved hne c))
  have stationAt (j : StationIx) : (w.completeRoam i r m).station? j = if j = i then some (w.arrived r m)
      else w.station? j := by
    rw [w.completeRoam_eq, told.station?, State.station?_roamMoved]
  have whole := w.completeRoam_touches i r m (G := roamViews)
  refine ⟨⟨w.arrived r m, (stationAt i).trans (if_pos rfl), ?_, w.arrived_eq r m, ?_⟩, fun j hj => ?_, fun x hx => ?_,
    fun x hx => ?_, fun c hc hp => ?_, fun r' hr' => ⟨w.roamMoved i r m, ?_, fun t => ?_, ?_⟩⟩
  · exact (State.tierOf_of (whole.cellView .kind _) (whole.cellView .section_ _) whole.tickets _).symm
  · have := w.settledFrom_arrived r m
    rw [hw] at this ⊢
    exact this
  · rw [stationAt, if_neg hj, ho j hj]
  · rw [cellsAt, if_pos rfl, cells, hx]; rfl
  · rw [cellsAt, if_neg (Ne.symm hne), if_pos rfl, cells, hx]; rfl
  · rw [cellsAt, if_neg hc, if_neg hp, cells]
  · obtain rfl : w.arrived r m = r' := Option.some.inj (((stationAt i).trans (if_pos rfl)).symm.trans hr')
    exact w.completeRoam_eq i r m
  · have same : w.trunk t = s.trunk t := by rw [hw]; rfl
    rw [← same]
    exact moved.trunkIdle (by decide +kernel) t
  · exact moved.eq_frame.trans (by rw [hw] <;> rfl)

theorem exec_roamTimeout {i : StationIx} {s : State} (hs : s.held = false) :
    exec (.roamTimeout i) s = .next (match s.station? i with
      | none => s
      | some r =>
        match r.roam with
        | none => s
        | some m =>
          if s.timers.roamTimeout / 4 ≤ elapsed s.now m.start then
            ((s.completeRoam i r m).tell r.cell (.detach (some i) .roamed)).notify .W
              (.roamForced i r.cell m.pending)
          else s) := by
  simp only [exec, execRoamTimeout, State.live_released s hs] <;> rfl

/-- A DEPART of a station standing at the sender. -/
theorem exec_depart {s : State} {t : TrunkId} {x : CellId} {i : StationIx} {r : Station}
    (h : s.Takes t ⟨x, .depart i, false⟩) (hc : s.configured x = true) (hr : s.station? i = some r)
    (hx : r.cell = x ∨ ∃ m, r.roam = some m ∧ m.pending = x) : exec .reportTake s = .next
      (State.depart ((s.afterTake t).putStation i { r with lastHeard := s.now }) x i { r with lastHeard := s.now }) := by
  refine (exec_reportTake_handed h hc).trans (congrArg _ ?_)
  exact State.onStation_standing (s := s.afterTake t) hr hx fun s r => s.depart x i r

theorem State.depart_settled {s : State} {x : CellId} {i : StationIx} {r : Station} (h : r.roam = none) :
    s.depart x i r = s.remove i .departed := by rw [State.depart, h]

theorem State.depart_roaming {s : State} {x : CellId} {i : StationIx} {r : Station} {m : Roam} (h : r.roam = some m) :
    s.depart x i r = if r.cell = x then s.completeRoam i r m
      else (s.remove i .left).tell r.cell (.detach (some i) .left) := by rw [State.depart, h]

/-- Settles O38: the timeout by the roam's start, and the DEPART from the old cell. -/
theorem roamCompleted : Obligations.RoamCompleted := by
  refine fun s i => ⟨fun hs hn => ?_, fun r hr => ⟨fun hs hn => ?_, fun m hm hne => ⟨fun hs hd => ?_, fun hs hd => ?_,
    fun t h hc => ?_⟩⟩⟩
  · rw [exec_roamTimeout hs, hn]
  · rw [exec_roamTimeout hs, hr]
    simp only [hn]
  · rw [exec_roamTimeout hs, hr]
    simp only [hm]
    rw [if_neg (Nat.not_le.2 hd)]
  · refine ⟨_, State.roamDone_completeRoam (w := s) rfl (fun _ _ => rfl) hne, ?_⟩
    rw [exec_roamTimeout hs, hr]
    simp only [hm]
    rw [if_pos hd]
  · refine ⟨_, State.roamDone_completeRoam (s := s.afterTake t)
      (w := (s.afterTake t).putStation i { r with lastHeard := s.now }) (r := { r with lastHeard := s.now }) rfl
      (fun j hj => ?_) hne, ?_⟩
    · rw [State.station?_putStation, if_neg hj]
    · exact (exec_depart h hc hr (.inl rfl)).trans (congrArg _
        ((State.depart_roaming (r := { r with lastHeard := s.now }) hm).trans (if_pos rfl)))

/-! ### A station removed -/

/-- What a notice leaves on Port T is told by that port and the time. -/
theorem State.portT_notify {s v : State} (hw : v.ports.t = s.ports.t) (hn : v.now = s.now) (n : Notice) :
    (v.notify .T n).ports.t = (s.notify .T n).ports.t := by
  have port : v.port .T = s.port .T := hw
  have before : (s.notify .T n).ports.t = _ := State.port_notify s .T n .T
  have after : (v.notify .T n).ports.t = _ := State.port_notify v .T n .T
  rw [before, after, if_pos rfl, if_pos rfl, port, hn]

theorem State.station?_remove {s : State} (h : s.stations.wf = true) (i : StationIx) (c : Cause) (j : StationIx) :
    (s.remove i c).station? j = if j = i then none else s.station? j := by
  cases hr : s.station? i with
  | none =>
    have kept : s.remove i c = s := by rw [State.remove, hr]
    rw [kept]
    split
    · next hj => rw [hj, hr]
    · rfl
  | some r =>
    have released := State.releaseTicket_touches (G := [.tickets, .ticket .state, .portT]) (s.beforeRelease i r) i
      r.binding c
    have before := s.beforeRelease_touches i r hr (G := [.stations, .station .subs, .fan, .demand, .portV] ++ countViews)
    have put : ((s.beforeRelease i r).releaseTicket i r.binding c).stations = s.stations.put i { r with subs := [] } := by
      have counted (v : State) : (v.leaveCells r).stations = v.stations :=
        (State.leaveCells_touches (G := countViews) v r).stations
      have told (v : State) : (v.recomputeEach r.subs).stations = v.stations :=
        (State.recomputeEach_touches (G := [.demand, .portV]) v r.subs).stations
      have left : (s.leaveCounts r.cell r.tier r.subs).stations = s.stations :=
        (State.leaveCounts_touches (G := [.fan]) ..).stations
      rw [released.stations, State.beforeRelease, counted, told]
      exact congrArg (fun x : Table Station => x.put i { r with subs := [] }) left
    rw [State.remove_eq s i r c hr]
    change (Table.del _ i).get? j = _
    rw [put, Table.get?_del _ i j (Table.wf_put _ _ _ h), Table.get?_put]
    split
    · rfl
    · rfl

theorem State.cells_leaveCells {s : State} {r : Station} (h : ∀ m, r.roam = some m → m.pending ≠ r.cell) (c : CellId) :
    (s.leaveCells r).cells.get? c = if c = r.cell then (s.cells.get? c).map Cell.lose
      else if r.pendingAt c = true then (s.cells.get? c).map Cell.unexpect else s.cells.get? c := by
  have lost := s.cells_countCell r.cell Cell.lose
  unfold State.leaveCells Station.pendingAt
  cases hm : r.roam with
  | none =>
    refine (lost c).trans ?_
    split
    · next hc => rw [hc]
    · rfl
  | some m =>
    dsimp only
    rw [State.cells_countCell, lost, lost, if_neg (h m hm)]
    by_cases hc : c = r.cell
    · rw [if_neg (by rw [hc]; exact (h m hm).symm), if_pos hc, if_pos hc, hc]
    · rw [if_neg hc, if_neg hc]
      by_cases hp : c = m.pending
      · rw [if_pos hp, if_pos (beq_iff_eq.2 hp.symm), hp]
      · rw [if_neg hp, if_neg fun g => hp (beq_iff_eq.1 g).symm]

/-- The cells after a removal: the counts of the station's cells have fallen. -/
theorem State.cells_remove {s : State} {i : StationIx} {r : Station} (hr : s.station? i = some r)
    (h : ∀ m, r.roam = some m → m.pending ≠ r.cell) (cause : Cause) (c : CellId) :
    (s.remove i cause).cells.get? c = if c = r.cell then (s.cells.get? c).map Cell.lose
      else if r.pendingAt c = true then (s.cells.get? c).map Cell.unexpect else s.cells.get? c := by
  have before : (((s.leaveCounts r.cell r.tier r.subs).putStation i { r with subs := [] }).recomputeEach r.subs).cells
      = s.cells := by
    rw [(State.recomputeEach_touches (G := [.demand, .portV]) ..).cells, State.putStation_cells,
      (State.leaveCounts_touches (G := [.fan]) ..).cells]
  have released (v : State) : (v.releaseTicket i r.binding cause).cells = v.cells :=
    (State.releaseTicket_touches (G := [.tickets, .ticket .state, .portT]) ..).cells
  rw [State.remove_eq s i r cause hr]
  change ((s.beforeRelease i r).releaseTicket i r.binding cause).cells.get? c = _
  rw [released, State.beforeRelease, State.cells_leaveCells h, before]

/-- What releasing a ticket leaves: the ticket ADMITTED with its TICKET_RELEASED, or nothing. -/
theorem State.releaseTicket_eq (s : State) (i : StationIx) (b : Binding) (cause : Cause) :
    s.releaseTicket i b cause = match b with
      | .bound k => match s.ticket? k with
        | some t => (s.putTicket k { t with state := .admitted }).notify .T (.ticketReleased k i cause t.home)
        | none => s
      | .unbound | .fenced => s := by
  unfold State.releaseTicket
  cases b <;> rfl

/-- A removal, its ticket released last. -/
theorem State.tickets_remove {s : State} {i : StationIx} {r : Station} (hr : s.station? i = some r) (cause : Cause) :
    (s.remove i cause).tickets = (s.releaseTicket i r.binding cause).tickets
      ∧ (s.remove i cause).ports.t = (s.releaseTicket i r.binding cause).ports.t := by
  have before := s.beforeRelease_touches i r hr (G := [.stations, .station .subs, .fan, .demand, .portV] ++ countViews)
  rw [State.remove_eq s i r cause hr]
  change ((s.beforeRelease i r).releaseTicket i r.binding cause).tickets = _
    ∧ ((s.beforeRelease i r).releaseTicket i r.binding cause).ports.t = _
  rw [State.releaseTicket_eq, State.releaseTicket_eq]
  cases hb : r.binding with
  | bound k =>
    dsimp only
    rw [before.ticket?]
    cases ht : s.ticket? k with
    | none => exact ⟨before.tickets, before.portT⟩
    | some t =>
      dsimp only
      refine ⟨?_, State.portT_notify (s := s.putTicket k { t with state := .admitted })
        (v := (s.beforeRelease i r).putTicket k { t with state := .admitted }) before.portT before.now _⟩
      rw [State.notify_frame]
      refine Eq.trans ?_ (congrArg State.tickets (State.notify_frame (s.putTicket k _) .T _)).symm
      exact congrArg (fun x : Table Ticket => x.put k.toNat { t with state := .admitted }) before.tickets
  | unbound | fenced => exact ⟨before.tickets, before.portT⟩

/-- **A station removed.** -/
theorem State.gone_remove {s w : State} {i : StationIx} {r : Station} (hw : w = { s with stations := w.stations })
    (hwf : w.stations.wf = true) (hr : w.station? i = some r) (ho : ∀ j, j ≠ i → w.station? j = s.station? j)
    (hne : ∀ m, r.roam = some m → m.pending ≠ r.cell) (cause : Cause) : s.Gone (w.remove i cause) i r cause := by
  have station := State.station?_remove hwf i cause
  have cells (c : CellId) : (w.remove i cause).cells.get? c = if c = r.cell then (s.cells.get? c).map Cell.lose
      else if r.pendingAt c = true then (s.cells.get? c).map Cell.unexpect else s.cells.get? c := by
    rw [State.cells_remove hr hne, hw]
  obtain ⟨tickets, portT⟩ := State.tickets_remove hr cause
  have touched := w.remove_touches i cause (G := removeViews)
  have pendingAt {m : Roam} (hm : r.roam = some m) (c : CellId) : r.pendingAt c = true ↔ c = m.pending := by
    rw [Station.pendingAt, hm]
    exact beq_iff_eq.trans eq_comm
  refine ⟨(station i).trans (if_pos rfl), fun j hj => ?_, fun x hx => ?_, fun m x hm hx => ?_, fun c hc hp => ?_,
    fun k t hk ht => ?_, fun k hk => ?_, fun hn => ?_, fun t => ?_, ?_⟩
  · rw [station, if_neg hj, ho j hj]
  · rw [cells, if_pos rfl, hx]; rfl
  · rw [cells, if_neg (hne m hm), if_pos ((pendingAt hm _).2 rfl), hx]; rfl
  · rw [cells, if_neg hc, if_neg]
    cases hm : r.roam with
    | none => rw [Station.pendingAt, hm]; exact Bool.false_ne_true
    | some m => exact fun h => hp m hm ((pendingAt hm c).1 h)
  · have wt : w.ticket? k = some t := by rw [hw]; exact ht
    rw [State.releaseTicket_eq, hk] at tickets portT
    dsimp only at tickets portT
    rw [wt] at tickets portT
    dsimp only at tickets portT
    refine ⟨?_, portT.trans ?_⟩
    · rw [State.notify_frame] at tickets
      exact (congrArg (fun x : Table Ticket => x.get? k.toNat) tickets).trans ((Table.get?_put ..).trans (if_pos rfl))
    · have port : w.ports.t = s.ports.t := by rw [hw]
      have now : w.now = s.now := by rw [hw]
      exact State.portT_notify (s := s) (v := w.putTicket k { t with state := .admitted }) port now _
  · refine (congrArg (fun x : Table Ticket => x.get? k.toNat) tickets).trans ?_
    rw [State.releaseTicket_eq]
    have same : w.tickets.get? k.toNat = s.ticket? k := by rw [hw]; rfl
    cases hb : r.binding with
    | unbound | fenced => exact same
    | bound k' =>
      dsimp only
      split
      · rw [State.notify_frame]
        refine (Table.get?_put ..).trans ((if_neg fun h => hk ?_).trans same)
        rw [hb, BitVec.eq_of_toNat_eq h]
      · exact same
  · rw [portT, State.releaseTicket_eq]
    cases hb : r.binding with
    | unbound | fenced => rw [hw] <;> rfl
    | bound k => exact absurd hb (hn k)
  · have same : w.trunk t = s.trunk t := by rw [hw]; rfl
    rw [← same]
    exact touched.trunkIdle (by decide +kernel) t
  · exact touched.eq_frame.trans (by rw [hw] <;> rfl)

theorem exec_ageExpiry {i : StationIx} {s : State} (hs : s.held = false) :
    exec (.ageExpiry i) s = .next (match s.station? i with
      | none => s
      | some r =>
        match r.roam with
        | some _ => s
        | none =>
          if s.timers.ageLimit * unitsPerSecond ≤ elapsed s.now r.lastHeard then
            (s.remove i .aged).tell r.cell (.detach (some i) .aged)
          else s) := by
  simp only [exec, execAgeExpiry, State.live_released s hs] <;> rfl

/-- Settles O39: the removal, by its cause. -/
theorem stationRemoved : Obligations.StationRemoved := by
  intro s i r hwf hr hne
  have aged := fun (hs : s.held = false) j => exec_ageExpiry (i := j) hs
  have refreshed (t : TrunkId) (cause : Cause) : (s.afterTake t).Gone
      (((s.afterTake t).putStation i { r with lastHeard := s.now }).remove i cause) i r cause := by
    have gone := State.gone_remove (s := s.afterTake t)
      (w := (s.afterTake t).putStation i { r with lastHeard := s.now }) (i := i) (r := { r with lastHeard := s.now })
      rfl (Table.wf_put _ _ _ hwf) (by rw [State.station?_putStation, if_pos rfl])
      (fun j hj => by rw [State.station?_putStation, if_neg hj]) hne cause
    exact ⟨gone.station, gone.others, gone.current, gone.pending, gone.cells, gone.ticket, gone.tickets, gone.silent,
      gone.trunks, gone.frame⟩
  have gone := State.gone_remove (w := s) rfl hwf hr (fun _ _ => rfl) hne
  refine ⟨fun hs hn hd => ⟨_, gone .aged, ?_⟩, fun hs hn => ?_, fun hs j hj => ?_, fun p m h hi ha => ?_,
    fun t h hc hn => ⟨_, refreshed t .departed, ?_⟩, fun t m hm h hc => ⟨_, refreshed t .left, ?_⟩⟩
  · rw [aged hs, hr]
    simp only [hn]
    exact congrArg _ (if_pos hd)
  · rw [aged hs, hr]
    cases hm : r.roam with
    | some m => simp only [hm]
    | none =>
      simp only [hm]
      exact congrArg _ (if_neg (Nat.not_le.2 (hn.resolve_left fun h => h hm)))
  · rw [aged hs, hj]
  · refine ⟨_, gone .detached, ?_⟩
    refine exec_ok h (?_ : stationDetachRule m.body s = _)
    rw [stationDetachRule, hi, hr]
    dsimp only
    rw [if_pos ha.symm, State.tellDetached] <;> rfl
  · exact (exec_depart h hc hr (.inl rfl)).trans (congrArg _ (State.depart_settled (r := { r with lastHeard := s.now }) hn))
  · refine (exec_depart h hc hr (.inr ⟨m, hm, rfl⟩)).trans (congrArg _ ?_)
    exact (State.depart_roaming (r := { r with lastHeard := s.now }) hm).trans (if_neg (hne m hm).symm)

end Sys2Proof.Machine
end


section
/-! PROOF. Demand (R145 to R147), subscriptions (R142 to R144) and the presentation of a ticket (R130 to R134). -/
namespace Sys2Proof.Machine

/-! ### Demand -/

/-- Some cell of an ACTIVE trunk t meets a test. -/
def State.OnTrunk (s : State) (t : TrunkId) (test : CellId → Prop) : Prop :=
  (s.trunk t).state = .active ∧ ∃ pos, pos < 32 ∧ test (32 * t.val + pos)

theorem any_cellsOf (t : TrunkId) (f : CellId → Bool) :
    (cellsOf t).any f = true ↔ ∃ pos, pos < 32 ∧ f (32 * t.val + pos) = true := by
  simp only [cellsOf, List.any_map, List.any_eq_true, List.mem_range, Function.comp, cellAt]

theorem State.trunkDemand_active {s : State} {t : TrunkId} (h : (s.trunk t).state = .active) (k : StreamId) :
    s.trunkDemand t k =
      if (cellsOf t).any fun c => !(s.cell c).crowded && decide (0 < (s.counts c k).full) then .full
      else if (cellsOf t).any fun c => s.watched c k then .lean else .none := by
  rw [State.trunkDemand, h]

theorem State.trunkDemand_away {s : State} {t : TrunkId} (h : (s.trunk t).state ≠ .active) (k : StreamId) :
    s.trunkDemand t k = .none := by
  rw [State.trunkDemand]
  cases ht : (s.trunk t).state with
  | active => exact absurd ht h
  | off | standby | waking | aligning | lost => rfl

/-- The trunk demand is FULL where an uncrowded cell has a FULL watcher, NONE where no cell has a watcher. -/
theorem State.trunkDemand_iff (s : State) (t : TrunkId) (k : StreamId) :
    (s.trunkDemand t k = .full ↔ s.OnTrunk t fun c => ¬ s.IsCrowded c ∧ 0 < (s.counts c k).full)
    ∧ (s.trunkDemand t k = .none ↔ ¬ s.OnTrunk t fun c => 0 < (s.counts c k).full + (s.counts c k).lean) := by
  by_cases ha : (s.trunk t).state = .active
  · have full : ((cellsOf t).any fun c => !(s.cell c).crowded && decide (0 < (s.counts c k).full)) = true ↔
        s.OnTrunk t fun c => ¬ s.IsCrowded c ∧ 0 < (s.counts c k).full := by
      simp only [any_cellsOf, State.OnTrunk, ha, true_and, Bool.and_eq_true, Bool.not_eq_true', ← Bool.not_eq_true,
        State.crowded_iff, decide_eq_true_eq]
    have watched : ((cellsOf t).any fun c => s.watched c k) = true ↔
        s.OnTrunk t fun c => 0 < (s.counts c k).full + (s.counts c k).lean := by
      simp only [any_cellsOf, State.OnTrunk, ha, true_and, State.watched, decide_eq_true_eq]
    rw [State.trunkDemand_active ha, ← full, ← watched]
    split
    · next hf =>
      obtain ⟨-, pos, hp, -, hn⟩ := full.1 hf
      exact ⟨⟨fun _ => hf, fun _ => rfl⟩, nofun, fun h => absurd (watched.2 ⟨ha, pos, hp, Nat.add_pos_left hn _⟩) h⟩
    · next hf =>
      split
      · next hw => exact ⟨⟨nofun, fun h => absurd h hf⟩, nofun, fun h => absurd hw h⟩
      · next hw => exact ⟨⟨nofun, fun h => absurd h hf⟩, fun _ => hw, fun _ => rfl⟩
  · rw [State.trunkDemand_away ha]
    exact ⟨⟨nofun, fun h => absurd h.1 ha⟩, fun _ h => ha h.1, fun _ => rfl⟩

theorem Level.sup_full (a b : Level) : a.sup b = .full ↔ a = .full ∨ b = .full := by
  cases a <;> cases b <;> decide

theorem Level.sup_none (a b : Level) : a.sup b = .none ↔ a = .none ∧ b = .none := by
  cases a <;> cases b <;> decide

theorem foldl_sup (f : TrunkId → Level) (ts : List TrunkId) (d : Level) :
    (ts.foldl (fun d t => d.sup (f t)) d = .full ↔ d = .full ∨ ∃ t ∈ ts, f t = .full)
    ∧ (ts.foldl (fun d t => d.sup (f t)) d = .none ↔ d = .none ∧ ∀ t ∈ ts, f t = .none) := by
  induction ts generalizing d with
  | nil => simp
  | cons t ts ih =>
    rw [List.foldl_cons, (ih _).1, (ih _).2, Level.sup_full, Level.sup_none]
    simp only [List.mem_cons, exists_eq_or_imp, forall_eq_or_imp, or_assoc, and_assoc, and_self]

theorem mem_allTrunks (t : TrunkId) : t ∈ allTrunks := by decide +revert

theorem State.highestDemand_iff (s : State) (k : StreamId) :
    (s.highestDemand k = .full ↔ s.OnActive fun c => ¬ s.IsCrowded c ∧ 0 < (s.counts c k).full)
    ∧ (s.highestDemand k = .none ↔ ¬ s.OnActive fun c => 0 < (s.counts c k).full + (s.counts c k).lean) := by
  have folded := foldl_sup (s.trunkDemand · k) allTrunks .none
  unfold State.highestDemand State.OnActive
  rw [folded.1, folded.2]
  simp only [reduceCtorEq, false_or, true_and, mem_allTrunks, forall_const]
  refine ⟨exists_congr fun t => (s.trunkDemand_iff t k).1, ?_⟩
  rw [not_exists]
  exact forall_congr' fun t => (s.trunkDemand_iff t k).2

/-- Settles O47: the demand of a trunk, the highest over the trunks, and the recompute by whether it changes. -/
theorem demandRecomputed : Obligations.DemandRecomputed := by
  intro s k u
  have stored : u.sectorDemand k = s.highestDemand k := by
    rw [s.sectorDemand_recompute k k, if_pos rfl]
  have highest := s.highestDemand_iff k
  rw [stored]
  refine ⟨fun t => s.trunkDemand_iff t k, highest.1, highest.2, fun h => if_pos h, fun h => if_neg h, fun k' hk => ?_⟩
  rw [s.sectorDemand_recompute k k', if_neg hk]

/-! ### Subscriptions -/

theorem Station.pendingAt_iff (r : Station) (x : CellId) :
    r.pendingAt x = true ↔ ∃ m, r.roam = some m ∧ m.pending = x := by
  unfold Station.pendingAt
  cases r.roam <;> simp

/-- A report that names a station standing at its sender, handed to its table. -/
theorem exec_standing {s : State} {t : TrunkId} {x : CellId} {b : ReportBody} {i : StationIx} {r : Station}
    {f : State → Station → State} (h : s.Takes t ⟨x, b, false⟩) (hc : s.configured x = true)
    (hr : s.station? i = some r) (hx : r.cell = x ∨ r.pendingAt x = true)
    (hb : (s.afterTake t).handReport x b = (s.afterTake t).onStation x i f) : exec .reportTake s = .next
      (f ((s.afterTake t).putStation i { r with lastHeard := s.now }) { r with lastHeard := s.now }) := by
  rw [r.pendingAt_iff] at hx
  exact (exec_reportTake_handed h hc).trans (congrArg _ (hb.trans
    (State.onStation_standing (s := s.afterTake t) hr hx f)))

theorem State.isOpen_iff (s : State) (k : StreamId) : s.isOpen k = true ↔ (s.stream k).state = .opened := beq_iff_eq

/-- SUBSCRIBE to a stream, by the checks in their order. -/
theorem State.subscribe_eq {s : State} {x : CellId} {i : StationIx} {r : Station} {n : Nat} {k : StreamId}
    (hp : r.pendingAt x = false) (hk : k.val = n) : s.subscribe x i r n =
      if (s.stream k).state ≠ .opened then s.tell x (.subResult i n .closed)
      else if k ∈ r.subs then s.tell x (.subResult i n .ok)
      else if 4 ≤ r.subs.length then s.tell x (.subResult i n .full)
      else if r.tier = .none then (s.putStation i { r with subs := r.subs ++ [k] }).tell x (.subResult i n .okNoTier)
      else (State.recompute (State.joinCounts (s.putStation i { r with subs := r.subs ++ [k] }) r.cell r.tier [k]) k).tell x
        (.subResult i n .ok) := by
  rw [State.subscribe, hp, if_neg Bool.false_ne_true, streamField_val k hk.symm]
  dsimp only
  by_cases ho : (s.stream k).state = .opened
  · have open_ := (s.isOpen_iff k).2 ho
    rw [open_, if_neg nofun, if_neg (not_not_intro ho)] <;> rfl
  · have shut := Bool.eq_false_iff.2 fun h => ho ((s.isOpen_iff k).1 h)
    rw [shut, if_pos (show (!false) = true from rfl), if_pos ho] <;> rfl

theorem State.unsubscribe_eq {s : State} {x : CellId} {i : StationIx} {r : Station} {n : Nat} {k : StreamId}
    (hp : r.pendingAt x = false) (hk : k.val = n) : s.unsubscribe x i r n =
      if k ∈ r.subs then
        (if r.tier = .none then s.putStation i { r with subs := r.subs.filter (· ≠ k) }
          else State.recompute (State.leaveCounts (s.putStation i { r with subs := r.subs.filter (· ≠ k) }) r.cell r.tier
            [k]) k).tell x (.subResult i n .ok)
      else s.tell x (.subResult i n .ok) := by
  rw [State.unsubscribe, hp, if_neg Bool.false_ne_true, streamField_val k hk.symm]
  dsimp only
  by_cases ht : r.tier = .none
  · rw [if_pos ht, if_pos ht] <;> rfl
  · rw [if_neg ht, if_neg ht] <;> rfl

/-- Settles O46: the two commands by their checks; a tier of NONE moves no count. -/
theorem subscriptionsDecided : Obligations.SubscriptionsDecided := by
  intro s t x i n r hc hr hx q at_ told moved
  have put (y : Station) : (at_ q).putStation i y = at_ y := State.putStation_putStation ..
  have joined (y : Station) (k : StreamId) (hn : r.tier ≠ .none) :
      ((at_ y).joinCounts r.cell r.tier [k]).recompute k = moved (at_ y) k (· + 1) := by
    unfold moved
    cases ht : r.tier with
    | none => exact absurd ht hn
    | lean | full => rfl
  have left (y : Station) (k : StreamId) (hn : r.tier ≠ .none) :
      ((at_ y).leaveCounts r.cell r.tier [k]).recompute k = moved (at_ y) k (· - 1) := by
    unfold moved
    cases ht : r.tier with
    | none => exact absurd ht hn
    | lean | full => rfl
  refine ⟨fun h => ?_, fun h => ?_⟩
  · have whole := exec_standing (f := fun s r => s.subscribe x i r n) h hc hr hx rfl
    refine ⟨fun hp => ?_, fun hp hn => ?_, fun k hp hk => ?_⟩
    · exact whole.trans (congrArg _ (if_pos hp))
    · refine whole.trans (congrArg _ ((if_neg (by rw [show q.pendingAt x = false from hp]; nofun)).trans ?_))
      rw [streamField_none hn] <;> rfl
    · rw [State.subscribe_eq (r := q) hp hk] at whole
      refine ⟨fun ho => ?_, fun ho hm => ?_, fun ho hm hl => ?_, fun ho hm hl => ?_⟩
      · exact whole.trans (congrArg _ (if_pos ho))
      · exact whole.trans (congrArg _ ((if_neg (not_not_intro ho)).trans (if_pos hm)))
      · exact whole.trans (congrArg _ ((if_neg (not_not_intro ho)).trans ((if_neg hm).trans (if_pos hl))))
      · refine whole.trans (congrArg _ ((if_neg (not_not_intro ho)).trans ((if_neg hm).trans
          ((if_neg (Nat.not_le.2 hl)).trans ?_))))
        rw [put]
        by_cases ht : r.tier = .none
        · rw [if_pos ht, if_pos ht]
        · rw [if_neg ht, if_neg ht, joined _ k ht]
  · have whole := exec_standing (f := fun s r => s.unsubscribe x i r n) h hc hr hx rfl
    refine ⟨fun hp => ?_, fun hp hn => ?_, fun k hp hk => ?_⟩
    · exact whole.trans (congrArg _ (if_pos hp))
    · refine whole.trans (congrArg _ ((if_neg (by rw [show q.pendingAt x = false from hp]; nofun)).trans ?_))
      rw [streamField_none hn] <;> rfl
    · rw [State.unsubscribe_eq (r := q) hp hk] at whole
      refine ⟨fun hm => whole.trans (congrArg _ (if_neg hm)), fun hm => ?_⟩
      refine whole.trans (congrArg _ ((if_pos hm).trans ?_))
      rw [put]
      by_cases ht : r.tier = .none
      · rw [if_pos ht, if_pos ht]
      · rw [if_neg ht, if_neg ht, left _ k ht]

/-! ### A ticket presented -/

/-- The tier of a station that holds a ticket (R139). -/
theorem State.tierOf_bound {s : State} {k : Token} {t : Ticket} (h : s.ticket? k = some t) (c : CellId) :
    s.tierOf (.bound k) c = if (s.cell c).kind = .seat ∧ (s.cell c).section_ ≠ t.section_ then .none
      else t.tier.level := by
  unfold State.tierOf
  dsimp only
  cases hk : (s.cell c).kind with
  | concourse =>
    dsimp only
    rw [h]
    exact (if_neg fun h => nomatch h.1).symm
  | seat =>
    dsimp only
    rw [h]
    by_cases he : t.section_ = (s.cell c).section_
    · exact (if_pos he).trans (if_neg fun h => h.2 he.symm).symm
    · exact (if_neg he).trans (if_pos ⟨rfl, Ne.symm he⟩).symm

/-- A station bound to a ticket, its messages left out. -/
def State.bound (s : State) (i : StationIx) (r : Station) (k : Token) (t : Ticket) : State :=
  (s.putTicket k { t with state := .seated i }).rebind i { r with binding := .bound k, grace := none }

/-- The tier that a ticket gives at a cell. -/
def State.tierWith (s : State) (t : Ticket) (c : CellId) : Level :=
  if (s.cell c).kind = .seat ∧ (s.cell c).section_ ≠ t.section_ then .none else t.tier.level

theorem State.bound_says {s : State} {i : StationIx} {r : Station} (hr : s.station? i = some r) (k : Token) (t : Ticket) :
    let w := s.bound i r k t
    w.station? i = some { r with binding := .bound k, grace := none, tier := s.tierWith t r.cell }
      ∧ (∀ j, j ≠ i → w.station? j = s.station? j)
      ∧ w.ticket? k = some { t with state := .seated i }
      ∧ (∀ k', k' ≠ k → w.ticket? k' = s.ticket? k')
      ∧ w = { s with stations := w.stations, tickets := w.tickets, fan := w.fan, demand := w.demand
                     ports := { s.ports with v := w.ports.v } } := by
  intro w
  have station := State.station?_rebind (s.putTicket k { t with state := .seated i }) i
    { r with binding := .bound k, grace := none }
  have ticket : (s.putTicket k { t with state := .seated i }).ticket? k = some { t with state := .seated i } := by
    rw [State.ticket?_putTicket, if_pos rfl]
  have touched := State.rebind_touches (s := s.putTicket k { t with state := .seated i }) (i := i) (r := r) hr
    (.bound k) none
  have tier : (s.putTicket k { t with state := .seated i }).tierOf (.bound k) r.cell = s.tierWith t r.cell :=
    State.tierOf_bound ticket r.cell
  refine ⟨?_, fun j hj => (station j).trans (if_neg hj), (touched.ticket? k).trans ticket, fun k' hk => ?_, ?_⟩
  · refine (station i).trans ((if_pos rfl).trans ?_)
    rw [tier]
  · refine (touched.ticket? k').trans ?_
    rw [State.ticket?_putTicket, if_neg hk]
  · have frame := touched.fanFrame (View.subset_of (by decide +kernel))
    have tickets : w.tickets = (s.putTicket k { t with state := .seated i }).tickets := touched.tickets
    rw [tickets]
    exact frame

/-- A binding: the tier recomputed, TICKET_RESULT to the presenting cell, TIER_UPDATE behind it. -/
theorem State.bindTicket_eq {s : State} {i : StationIx} {r : Station} (hr : s.station? i = some r) (x : CellId)
    (k : Token) (t : Ticket) : s.bindTicket x i r k t =
      ((s.bound i r k t).tell x (.ticketResult i (s.bindResult x t))).tierTold i r.cell r.tier (s.tierWith t r.cell) := by
  have put : (s.join i r k t).station? i = some { r with binding := .bound k, grace := none } := by
    rw [State.join, State.station?_putStation, if_pos rfl]
  have tier : (s.join i r k t).tierOf (.bound k) r.cell = s.tierWith t r.cell :=
    State.tierOf_bound (s := s.join i r k t) (t := { t with state := .seated i })
      ((State.ticket?_putTicket s k _ k).trans (if_pos rfl)) r.cell
  have bound : ((s.join i r k t).recomputeTier i).1 = s.bound i r k t := rfl
  unfold State.bindTicket
  dsimp only
  rw [bound]
  unfold State.tierTold
  by_cases h : s.tierWith t r.cell = r.tier
  · have same := State.recomputeTier_same put (tier.trans h)
    rw [if_pos h, same]
    rfl
  · have changed := State.recomputeTier_changed put (by rw [tier]; exact h)
    have told : ((s.bound i r k t).ticketResult x i (s.bindResult x t)).station? i
        = some { r with binding := .bound k, grace := none, tier := s.tierWith t r.cell } :=
      ((State.ticketResult_touches (G := messageViews) ..).station? i).trans (State.bound_says hr k t).1
    rw [if_neg h, changed]
    dsimp only
    rw [State.tellTier_some told, tier]
    rfl

theorem Station.boundElsewhere_iff (r : Station) (k : Token) :
    r.boundElsewhere k = true ↔ ∃ j, r.binding = .bound j ∧ j ≠ k := by
  unfold Station.boundElsewhere
  cases r.binding with
  | bound j => simp
  | unbound | fenced => simp

theorem State.bindResult_eq (s : State) (x : CellId) (t : Ticket) : s.bindResult x t =
    if (s.cell x).kind = .seat ∧ (s.cell x).section_ ≠ t.section_ then .boundWrongSection else .bound :=
  ite_congr_iff (and_congr_left' beq_iff_eq) rfl rfl

/-- The checks of R130, in their order. -/
theorem State.present_eq {s : State} {i : StationIx} {r : Station} {k : Token} {t : Ticket}
    (hr : s.station? i = some r) (ht : s.ticket? k = some t) (x : CellId) : s.present x i k = match t.state with
      | .void => s.refuseTicket x i k t .void
      | .issued | .exited => s.refuseTicket x i k t .notAdmitted
      | .admitted =>
        if r.boundElsewhere k then s.ticketResult x i .alreadyBound else s.bindAdmitted x i r k t
      | .seated h =>
        if r.boundElsewhere k then s.ticketResult x i .alreadyBound
        else if h = i then s.ticketResult x i .already
        else if s.stale h then s.transfer x i r k t h
        else s.conflict x i k h := by
  rw [State.present, hr, ht] <;> rfl

/-- Settles O45: the checks, the binding, and the transfer from a stale holder. -/
theorem presentationDecided : Obligations.PresentationDecided := by
  intro s t x i k r h hc hr hx q v told elsewhere
  have whole := exec_standing (f := fun s _ => s.present x i k) h hc hr hx rfl
  have here : v.station? i = some q := by
    rw [State.station?_putStation, if_pos rfl]
  have there (j : StationIx) (hj : j ≠ i) : v.station? j = s.station? j := by
    rw [State.station?_putStation, if_neg hj]
    rfl
  refine ⟨fun hn => ?_, fun y hy => ?_⟩
  · refine whole.trans (congrArg _ ?_)
    change v.present x i k = _
    have none_ : v.ticket? k = none := hn
    rw [State.present, here, none_] <;> rfl
  intro tierHere result bound
  have result_ (u : State) (hu : u.cells = s.cells) : u.bindResult x y = result := by
    rw [State.bindResult_eq, State.cell, hu] <;> rfl
  have bound_ : elsewhere ↔ q.boundElsewhere k = true := (q.boundElsewhere_iff k).symm
  rw [State.present_eq here (show v.ticket? k = some y from hy)] at whole
  refine ⟨fun hy => ?_, fun hy => ?_, fun hy he => ?_, fun hy he => ⟨v.bound i q k y, ?_, ?_⟩, fun j hy =>
    ⟨fun he => ?_, fun he hj => ?_, fun rh he hj hrh => ⟨fun hd => ?_, fun hd => ?_⟩⟩⟩
  · rw [whole, hy]
    dsimp only
    rw [State.refuseTicket, hy] <;> rfl
  · obtain hy | hy := hy <;> rw [whole, hy] <;> dsimp only <;> rw [State.refuseTicket, hy] <;> rfl
  · rw [whole, hy]
    exact congrArg _ (if_pos (bound_.1 he))
  · rw [whole, hy]
    refine congrArg _ ((if_neg fun h => he (bound_.2 h)).trans ?_)
    rw [State.bindAdmitted, State.bindTicket_eq here, result_ v rfl] <;> rfl
  · exact State.bound_says here k y
  · rw [whole, hy]
    exact congrArg _ (if_pos (bound_.1 he))
  · rw [whole, hy]
    exact congrArg _ ((if_neg fun h => he (bound_.2 h)).trans (if_pos hj))
  · have holder : v.station? j = some rh := (there j hj).trans hrh
    rw [whole, hy]
    refine congrArg _ ((if_neg fun h => he (bound_.2 h)).trans ((if_neg hj).trans ((if_neg fun h =>
      absurd ((State.stale_iff holder).1 h) (Nat.not_le.2 hd)).trans ?_)))
    rw [State.conflict, State.cellOf_some holder, State.unheardFor_some holder] <;> rfl
  · have holder : v.station? j = some rh := (there j hj).trans hrh
    have unbound := State.unbindStation_eq holder
    have kept := State.unbindStation_touches (G := unbindViews) v j
    have stays : (v.unbindStation j).station? i = some q :=
      ((State.unbindStation_says holder).2.1 i (Ne.symm hj)).trans here
    have rebound := v.station?_rebind j (v.unboundRecord rh)
    have tier : v.tierOf (v.unboundRecord rh).binding (v.unboundRecord rh).cell = v.tierUnbound rh.cell :=
      v.tierOf_unbound rh.cell
    have bound := State.bindTicket_eq stays x k y
    have tierHere_ : (v.unbindStation j).tierWith y r.cell = tierHere := by
      rw [State.tierWith, State.cell, kept.cells] <;> rfl
    rw [result_ _ kept.cells, show (v.unbindStation j).tierWith y q.cell = tierHere from tierHere_] at bound
    refine ⟨v.rebind j (v.unboundRecord rh), (v.unbindStation j).bound i q k y, ?_, ?_, fun l hl =>
      (rebound l).trans (if_neg hl), (State.rebind_touches holder ..).fanFrame (View.subset_of (by decide +kernel)), ?_⟩
    · rw [whole, hy]
      refine congrArg _ ((if_neg fun h => he (bound_.2 h)).trans ((if_neg hj).trans ((if_pos
        ((State.stale_iff holder).2 hd)).trans ?_)))
      rw [State.transfer, bound, State.cellOf_some holder, State.unheardFor_some holder, result_ v rfl] <;> rfl
    · refine (rebound j).trans ((if_pos rfl).trans ?_)
      rw [tier] <;> rfl
    · obtain ⟨station, others, ticket, tickets, frame⟩ := State.bound_says stays k y
      rw [tierHere_] at station
      have told : (v.rebind j (v.unboundRecord rh)).tierTold j rh.cell rh.tier (s.tierUnbound rh.cell)
          = v.unbindStation j := unbound.symm
      rw [told]
      exact ⟨station, others, ticket, fun k' hk => (tickets k' hk).trans (kept.ticket? k'), frame⟩

end Sys2Proof.Machine
end


section
/-! PROOF. Law 1 of the device (R71, R102): how the number of stations that meet a test changes with one station, and
that every step keeps the counts of the cells. -/
namespace Sys2Proof.Machine

/-! ### Counting the records of a table -/

/-- A record that may be absent meets a test, as 0 or 1. -/
def hit {α : Type} (f : α → Bool) : Option α → Nat
  | some r => bit (f r)
  | none => 0

/-- How many records of a table meet a test. -/
def Table.count {α : Type} (t : Table α) (f : α → Bool) : Nat := (t.entries.filter fun e => f e.2).length

theorem State.stationsWith_eq (s : State) (f : Station → Bool) : s.stationsWith f = s.stations.count f := rfl

theorem length_filter_cons {α : Type} (f : α → Bool) (e : Nat × α) (l : List (Nat × α)) :
    ((e :: l).filter fun e => f e.2).length = bit (f e.2) + (l.filter fun e => f e.2).length := by
  cases h : f e.2 with
  | true => rw [List.filter_cons_of_pos (by exact h), List.length_cons, Nat.add_comm]; rfl
  | false => rw [List.filter_cons_of_neg (by simp [h]), bit, if_neg Bool.false_ne_true, Nat.zero_add]

/-- The count is the count without one record, and that record. -/
theorem Table.count_del {α : Type} (t : Table α) (f : α → Bool) (i : Nat) :
    t.count f = (t.del i).count f + hit f (t.get? i) := by
  obtain ⟨l⟩ := t
  change (l.filter _).length = ((assocDel l i).filter _).length + hit f (assocGet l i)
  induction l with
  | nil => rfl
  | cons e l ih =>
    rw [length_filter_cons, assocDel, assocGet]
    split
    · exact Nat.add_comm ..
    · rw [length_filter_cons, ih, Nat.add_assoc]

/-- Tables whose records agree on a test, one by one, agree on the count. -/
theorem Table.count_congr {α : Type} {t t' : Table α} (h : t.wf = true) (h' : t'.wf = true) {f : α → Bool}
    (hf : ∀ i, (t.get? i).map f = (t'.get? i).map f) : t.count f = t'.count f := by
  have nodup {x : Table α} (hx : x.wf = true) : ((x.entries.filter fun e => f e.2).map Prod.fst).Nodup :=
    nodup_keys hx _
  have mem {x : Table α} (hx : x.wf = true) (i : Nat) :
      i ∈ (x.entries.filter fun e => f e.2).map Prod.fst ↔ (x.get? i).map f = some true := by
    simp only [List.mem_map, List.mem_filter, Prod.exists, exists_and_right, exists_eq_right, Option.map_eq_some_iff]
    exact exists_congr fun r => and_congr_left' (mem_entries_iff _ hx i r)
  have perm := (List.perm_ext_iff_of_nodup (nodup h) (nodup h')).2 fun i => by rw [mem h, mem h', hf]
  have := perm.length_eq
  rwa [List.length_map, List.length_map] at this

/-- **One record changes**: what it met before makes up for what it meets afterwards. -/
theorem Table.count_change {α : Type} {t t' : Table α} (h : t.wf = true) (h' : t'.wf = true) {f : α → Bool} (i : Nat)
    (hf : ∀ j, j ≠ i → (t.get? j).map f = (t'.get? j).map f) :
    t'.count f + hit f (t.get? i) = t.count f + hit f (t'.get? i) := by
  have rest : (t.del i).count f = (t'.del i).count f :=
    Table.count_congr (Table.wf_del _ _ h) (Table.wf_del _ _ h') fun j => by
      rw [Table.get?_del _ _ _ h, Table.get?_del _ _ _ h']
      by_cases hj : j = i
      · rw [if_pos hj, if_pos hj]
      · rw [if_neg hj, if_neg hj, hf j hj]
  rw [t.count_del f i, t'.count_del f i, rest]
  omega

theorem State.stationsWith_change {s u : State} (h : s.stations.wf = true) (h' : u.stations.wf = true)
    {f : Station → Bool} (i : StationIx) (hf : ∀ j, j ≠ i → (s.station? j).map f = (u.station? j).map f) :
    u.stationsWith f + hit f (s.station? i) = s.stationsWith f + hit f (u.station? i) :=
  Table.count_change h h' i hf

theorem State.stationsWith_congr {s u : State} (h : s.stations.wf = true) (h' : u.stations.wf = true)
    {f : Station → Bool} (hf : ∀ j, (s.station? j).map f = (u.station? j).map f) :
    u.stationsWith f = s.stationsWith f := (Table.count_congr h h' hf).symm

/-- A station that meets a test is counted. -/
theorem State.stationsWith_pos {s : State} {f : Station → Bool} {i : StationIx} {r : Station}
    (hr : s.station? i = some r) (hf : f r = true) : 0 < s.stationsWith f :=
  List.length_pos_of_mem (List.mem_filter.2 ⟨State.mem_of_station? hr, hf⟩)

/-- No station meets the test: the count is 0. -/
theorem State.stationsWith_zero {s : State} (h : s.stations.wf = true) {f : Station → Bool}
    (hf : ∀ i r, s.station? i = some r → f r = false) : s.stationsWith f = 0 := by
  refine List.length_eq_zero_iff.2 (List.filter_eq_nil_iff.2 fun e he => ?_)
  rw [hf e.1 e.2 (State.station?_of_mem h he)]
  exact Bool.false_ne_true

/-! ### Law 1 (R71, R102) -/

/-- The cells of a station are configured, and a roam is toward another cell. -/
def State.Placed (s : State) (r : Station) : Prop :=
  s.configured r.cell = true ∧ ∀ m, r.roam = some m → s.configured m.pending = true ∧ m.pending ≠ r.cell

/-- A station has cell c as its current cell. -/
def Station.stands (c : CellId) (r : Station) : Bool := r.cell == c

/-- A station has cell c as its pending cell. -/
def Station.expects (c : CellId) (r : Station) : Bool := r.pendingAt c

theorem State.CountLaw.placed {s : State} (h : s.CountLaw) {i : StationIx} {r : Station} (hr : s.station? i = some r) :
    s.Placed r := ⟨h.current i r hr, fun m hm => h.pending i r m hr hm⟩

/-- **One station and the counts of its cells change together.** -/
theorem State.CountLaw.change {s u : State} (h : s.CountLaw) (hs : u.stations.wf = true) (hc : u.cells.wf = true)
    (hk : ∀ c, u.configured c = s.configured c) (i : StationIx)
    (ho : ∀ j, j ≠ i → u.station? j = s.station? j) (hi : ∀ r, u.station? i = some r → s.Placed r)
    (counts : ∀ c x, s.cells.get? c = some x → ∃ y, u.cells.get? c = some y
      ∧ y.attached + hit (Station.stands c) (s.station? i) = x.attached + hit (Station.stands c) (u.station? i)
      ∧ y.incoming + hit (Station.expects c) (s.station? i) = x.incoming + hit (Station.expects c) (u.station? i)) :
    u.CountLaw := by
  have placed (j : StationIx) (r : Station) (hr : u.station? j = some r) : s.Placed r := by
    by_cases hj : j = i
    · exact hi r (hj ▸ hr)
    · exact h.placed ((ho j hj).symm.trans hr)
  have change (f : Station → Bool) := State.stationsWith_change h.stations hs (f := f) i
    fun j hj => by rw [ho j hj]
  refine ⟨hs, hc, fun j r hr => by rw [hk]; exact (placed j r hr).1, fun j r m hr hm => ?_, fun c y hy => ?_⟩
  · obtain ⟨hm, hne⟩ := (placed j r hr).2 m hm
    exact ⟨by rw [hk]; exact hm, hne⟩
  · have known : (s.cells.get? c).isSome = true := by
      have := hk c
      unfold State.configured at this
      rw [← this, hy]
      rfl
    obtain ⟨x, hx⟩ := Option.isSome_iff_exists.1 known
    obtain ⟨y', hy', attached, incoming⟩ := counts c x hx
    obtain rfl : y = y' := Option.some.inj (hy.symm.trans hy')
    obtain ⟨standing, expected⟩ := h.counts c x hx
    have stands : u.stationsWith (fun r => r.cell == c) + hit (Station.stands c) (s.station? i) =
        s.stationsWith (fun r => r.cell == c) + hit (Station.stands c) (u.station? i) := change (Station.stands c)
    have expects : u.stationsWith (fun r => r.pendingAt c) + hit (Station.expects c) (s.station? i) =
        s.stationsWith (fun r => r.pendingAt c) + hit (Station.expects c) (u.station? i) := change (Station.expects c)
    omega

/-- The views that the law rests on. -/
abbrev placeLawViews : List View := [.cell .attached, .cell .incoming, .station .cell, .station .roam]

/-- A change that leaves places and counts as they are keeps the law. -/
theorem State.CountLaw.of_touches {F : List View} {s u : State} (t : s.Touches F u)
    (ha : View.apart placeLawViews F = true) (h : s.CountLaw) : u.CountLaw := by
  have apart := (View.apart_iff _ _).1 ha
  have cell (j : StationIx) := t.station .cell j (apart _ (View.mem_of (by decide +kernel)))
  have roam (j : StationIx) := t.station .roam j (apart _ (View.mem_of (by decide +kernel)))
  have attached (c : CellId) := t.cell .attached c (apart _ (View.mem_of (by decide +kernel)))
  have incoming (c : CellId) := t.cell .incoming c (apart _ (View.mem_of (by decide +kernel)))
  have known (c : CellId) : u.configured c = s.configured c := by
    have := congrArg Option.isSome (attached c)
    simpa [State.configured] using this
  have same (j : StationIx) (r : Station) (hr : u.station? j = some r) :
      ∃ q, s.station? j = some q ∧ q.cell = r.cell ∧ q.roam = r.roam := by
    have hcell := cell j
    have hroam := roam j
    rw [hr] at hcell hroam
    obtain ⟨q, hq, hc⟩ := Option.map_eq_some_iff.1 hcell.symm
    rw [hq] at hroam
    exact ⟨q, hq, hc, (Option.some.inj hroam).symm⟩
  have back (j : StationIx) (q : Station) (hq : s.station? j = some q) (f : CellId → Option Roam → Bool) :
      (s.station? j).map (fun r => f r.cell r.roam) = (u.station? j).map fun r => f r.cell r.roam := by
    have hcell := cell j
    rw [hq] at hcell
    obtain ⟨r, hr, _⟩ := Option.map_eq_some_iff.1 hcell
    obtain ⟨p, hp, hc, hm⟩ := same j r hr
    rw [hr, hp]
    exact congrArg some (by dsimp only; rw [hc, hm])
  have test (f : CellId → Option Roam → Bool) :
      u.stationsWith (fun r => f r.cell r.roam) = s.stationsWith fun r => f r.cell r.roam := by
    refine State.stationsWith_congr h.stations (t.canon .stations h.stations) fun j => ?_
    cases hq : s.station? j with
    | some q => exact hq ▸ back j q hq f
    | none =>
      have hcell := cell j
      rw [hq] at hcell
      rw [Option.map_eq_none_iff.1 hcell]
  refine ⟨t.canon .stations h.stations, t.canon .cells h.cells, fun j r hr => ?_, fun j r m hr hm => ?_,
    fun c y hy => ?_⟩
  · obtain ⟨q, hq, hc, _⟩ := same j r hr
    rw [known, ← hc]
    exact h.current j q hq
  · obtain ⟨q, hq, hc, hroam⟩ := same j r hr
    rw [known, ← hc]
    exact h.pending j q m hq (hroam.trans hm)
  · have hattached := attached c
    have hincoming := incoming c
    rw [hy] at hattached hincoming
    obtain ⟨x, hx, ha⟩ := Option.map_eq_some_iff.1 hattached.symm
    rw [hx] at hincoming
    obtain ⟨standing, expected⟩ := h.counts c x hx
    have ha' : x.attached = y.attached := ha
    have hi' : y.incoming = x.incoming := Option.some.inj hincoming
    have stands := test fun d _ => d == c
    have expects := test fun _ m => match m with
      | some m => m.pending == c
      | none => false
    exact ⟨ha'.symm.trans (standing.trans stands.symm), hi'.trans (expected.trans expects.symm)⟩

end Sys2Proof.Machine
end


section
/-! PROOF. A law of the Station Table is kept by the Station Processor and by the reports when a few operations keep
it; Law 1 of the device (R71, R102) is kept by every step. -/
namespace Sys2Proof.Machine

/-! ### The operations that a law must keep -/

/-- A station's record differs in when the phone was last heard and in its steer-hold alone. -/
def Station.NotedFrom (r q : Station) : Prop := q = { r with lastHeard := q.lastHeard, steerHold := q.steerHold }

abbrev notedViews : List View := [.stations, .station .lastHeard, .station .steerHold]

theorem State.noted_touches (s : State) {i : StationIx} {r q : Station} (hr : s.station? i = some r)
    (hq : r.NotedFrom q) : s.Touches notedViews (s.putStation i q) := by
  refine State.putStation_touches s i r q hr (fun x hx => ?_) (View.mem_of (by decide +kernel))
  rw [hq]
  cases x <;> simp at hx <;> rfl

/-- **A law that rests on the views `V` is kept by the operations that move stations.** What the Station Processor finds
by an address or as a free index is what it is looked for in a canonical table alone. -/
structure StationRules (V : List View) (P : State → Prop) : Prop where
  quiet : ∀ {F : List View} {s u : State}, s.Touches F u → View.apart V F = true → P s → P u
  portW : View.apart V [.portW] = true
  noted : ∀ s i r q, P s → (s.stations.wf = true → s.station? i = some r) → r.NotedFrom q → P (s.putStation i q)
  append : ∀ s t m, P s → P (s.append t m)
  taken : ∀ s t, P s →
    P { s.setTrunk t { s.trunk t with intake := (s.trunk t).intake.tail } with pointer := nextTrunk t }
  remove : ∀ s i c, P s → P (s.remove i c)
  completeRoam : ∀ s i r m, P s → s.station? i = some r → r.roam = some m → P (s.completeRoam i r m)
  create : ∀ s x a i, P s → s.configured x = true → (s.stations.wf = true → s.station? i = none) →
    P ((s.putStation i (newStation s x a)).countCell x Cell.gain)
  startRoam : ∀ s x i r, P s → s.configured x = true → (s.stations.wf = true → s.station? i = some r) → r.roam = none →
    r.cell ≠ x → P ((s.putStation i { r with roam := some ⟨x, s.now⟩ }).countCell x Cell.expect)
  present : ∀ s x i k, P s → P (s.present x i k)
  subscribe : ∀ s x i r n, P s → s.station? i = some r → P (s.subscribe x i r n)
  unsubscribe : ∀ s x i r n, P s → s.station? i = some r → P (s.unsubscribe x i r n)

namespace StationRules
variable {V : List View} {P : State → Prop}

theorem told (R : StationRules V P) {s : State} (h : P s) (c : CellId) (b : CtlBody) : P (s.tell c b) :=
  R.append _ _ _ h

theorem refreshed (R : StationRules V P) {s : State} (h : P s) {i : StationIx} {r : Station}
    (hr : s.stations.wf = true → s.station? i = some r) : P (s.putStation i (r.refresh s.now)) :=
  R.noted s i r _ h hr rfl

theorem presentCarried (R : StationRules V P) {s : State} (h : P s) (x : CellId) (i : StationIx) (o : Option Token) :
    P (s.presentCarried x i o) := by
  cases o with
  | none => exact h
  | some k => exact R.present s x i k h

theorem acceptAgain (R : StationRules V P) {s : State} (h : P s) (x : CellId) (i : StationIx) (l : Level)
    (o : Option Token) : P (s.acceptAgain x i l o) := R.presentCarried (R.told h ..) ..

theorem assocUnknown (R : StationRules V P) {s : State} (h : P s) {x : CellId} (hx : s.configured x = true)
    (a : Address) (o : Option Token) : P (s.assocUnknown x a o) := by
  unfold State.assocUnknown
  split
  · exact R.told h ..
  · split
    · exact R.told h ..
    · exact R.told h ..
    · exact R.presentCarried (R.told (R.create s x a _ h hx s.stations.get?_firstFree) ..) ..

theorem roamRequest (R : StationRules V P) {s : State} (h : P s) {x : CellId} (hx : s.configured x = true)
    {i : StationIx} {r : Station} (hr : s.stations.wf = true → s.station? i = some r) (hn : r.roam = none)
    (hc : r.cell ≠ x) (o : Option Token) : P (s.roamRequest x i r o) := by
  unfold State.roamRequest
  split
  · exact R.told h ..
  · have held : P (s.setSteerHold i r) := R.noted s i r _ h hr rfl
    exact R.told held ..
  · exact R.told h ..
  · exact R.presentCarried (R.told (R.told (R.startRoam s x i r h hx hr hn hc) ..) ..) ..

theorem assoc (R : StationRules V P) {s : State} (h : P s) {x : CellId} (hx : s.configured x = true)
    (a : Address) (o : Option Token) : P (s.assoc x a o) := by
  unfold State.assoc
  split
  · exact R.assocUnknown h hx a o
  · next i r ha =>
    split
    · next hn =>
      split
      · exact R.acceptAgain h ..
      · next hc => exact R.roamRequest h hx (fun hwf => s.station?_of_stationAt? hwf a i r ha) hn hc o
    · split
      · exact R.acceptAgain h ..
      · split
        · exact R.acceptAgain h ..
        · exact R.told h ..

theorem depart (R : StationRules V P) {s : State} (h : P s) (x : CellId) {i : StationIx} {r : Station}
    (hr : s.station? i = some r) : P (s.depart x i r) := by
  unfold State.depart
  split
  · exact R.remove s i _ h
  · next m hm =>
    split
    · exact R.completeRoam s i r m h hr hm
    · exact R.told (R.remove s i _ h) ..

theorem onStation (R : StationRules V P) {s : State} (h : P s) (x : CellId) (i : StationIx)
    (f : State → Station → State) (hf : ∀ (u : State) r, P u → u.station? i = some r → P (f u r)) :
    P (s.onStation x i f) := by
  unfold State.onStation
  split
  · next r hr =>
    exact hf _ _ (R.refreshed h fun _ => (s.station?_of_named x i r hr).1) (by rw [State.station?_putStation, if_pos rfl])
  · exact h

theorem handReport (R : StationRules V P) {s : State} (h : P s) {x : CellId} (hx : s.configured x = true)
    (b : ReportBody) : P (s.handReport x b) := by
  unfold State.handReport
  split
  · have fresh := State.refreshAddress_touches (G := stationViews) s ‹_›
    refine R.assoc ?_ ((fresh.configured x).trans hx) ..
    unfold State.refreshAddress
    split
    · next i r ha => exact R.refreshed h fun hwf => s.station?_of_stationAt? hwf _ i r ha
    · exact h
  · exact R.onStation h x _ _ fun u r hu hr => R.depart hu x hr
  · exact R.onStation h x _ _ fun u r hu _ => R.present u x _ _ hu
  · exact R.onStation h x _ _ fun u r hu hr => R.subscribe u x _ r _ hu hr
  · exact R.onStation h x _ _ fun u r hu hr => R.unsubscribe u x _ r _ hu hr
  · exact h

/-! ### The rows that move stations -/

theorem reportTake (R : StationRules V P) {s u : State} (h : P s) (hx : exec .reportTake s = .next u) : P u := by
  change execReportTake s = _ at hx
  refine live_keeps hx h ?_
  split
  · exact h
  · next t _ =>
    have removed := R.taken s t h
    dsimp only
    split
    · exact removed
    · unfold State.takeReport
      split
      · next hc =>
        exact R.handReport removed (Bool.and_eq_true_iff.1 hc).1 _
      · exact removed

theorem roamTimeout (R : StationRules V P) {i : StationIx} {s u : State} (h : P s)
    (hx : exec (.roamTimeout i) s = .next u) : P u := by
  change execRoamTimeout i s = _ at hx
  refine live_keeps hx h ?_
  split
  · exact h
  · next r hr =>
    split
    · exact h
    · next m hm =>
      split
      · exact R.quiet (State.notify_touches (G := [.portW]) _ .W _ (View.mem_of rfl)) R.portW
          (R.told (R.completeRoam s i r m h hr hm) ..)
      · exact h

theorem ageExpiry (R : StationRules V P) {i : StationIx} {s u : State} (h : P s)
    (hx : exec (.ageExpiry i) s = .next u) : P u := by
  change execAgeExpiry i s = _ at hx
  refine live_keeps hx h ?_
  split
  · exact h
  · split
    · exact h
    · split
      · exact R.told (R.remove s i _ h) ..
      · exact h

theorem stationDetach (R : StationRules V P) {s : State} (h : P s) (b : List Byte) : P (stationDetachRule b s).state := by
  unfold stationDetachRule
  dsimp only
  split
  · exact h
  · split
    · unfold State.tellDetached
      dsimp only
      split
      · exact R.told (R.told (R.remove s _ _ h) ..) ..
      · exact R.told (R.remove s _ _ h) ..
    · exact h

theorem stationClear (R : StationRules V P) {s : State} (h : P s) (b : List Byte) : P (stationClearRule b s).state := by
  have removed := State.each_keeps P (fun s i => s.remove i .cleared) s.stations.keys s
    (fun s i _ hs => R.remove s i _ hs) h
  exact State.each_keeps P _ _ _ (fun s t _ hs => R.append s t _ hs) removed

end StationRules

/-! ### Law 1 of the device (R71, R102) -/

theorem hit_stands (c : CellId) (r : Station) : hit (Station.stands c) (some r) = if r.cell = c then 1 else 0 :=
  ite_congr_iff beq_iff_eq rfl rfl

theorem hit_expects (c : CellId) (r : Station) :
    hit (Station.expects c) (some r) = if r.pendingAt c = true then 1 else 0 := rfl

namespace State.CountLaw
variable {s : State}

/-- The cell of a station counts it. -/
theorem attached_pos (h : s.CountLaw) {i : StationIx} {r : Station} (hr : s.station? i = some r) {x : Cell}
    (hx : s.cells.get? r.cell = some x) : 0 < x.attached := by
  rw [(h.counts r.cell x hx).1]
  exact State.stationsWith_pos hr (beq_self_eq_true r.cell)

/-- The pending cell of a station expects it. -/
theorem incoming_pos (h : s.CountLaw) {i : StationIx} {r : Station} (hr : s.station? i = some r) {c : CellId}
    (hc : r.pendingAt c = true) {x : Cell} (hx : s.cells.get? c = some x) : 0 < x.incoming := by
  rw [(h.counts c x hx).2]
  exact State.stationsWith_pos hr hc

theorem apart_pending (h : s.CountLaw) {i : StationIx} {r : Station} (hr : s.station? i = some r) {c : CellId}
    (hc : r.pendingAt c = true) : c ≠ r.cell := by
  unfold Station.pendingAt at hc
  split at hc
  · next m hm => exact beq_iff_eq.1 hc ▸ (h.pending i r m hr hm).2
  · cases hc

theorem remove (h : s.CountLaw) (i : StationIx) (cause : Cause) : (s.remove i cause).CountLaw := by
  have touched := s.remove_touches i cause (G := removeViews)
  cases hr : s.station? i with
  | none => rw [State.remove, hr]; exact h
  | some r =>
    have gone : (s.remove i cause).station? i = none :=
      (State.station?_remove h.stations i cause i).trans (if_pos rfl)
    refine h.change (touched.canon .stations h.stations) (touched.canon .cells h.cells) (fun c => touched.configured c) i
      (fun j hj => (State.station?_remove h.stations i cause j).trans (if_neg hj)) (fun r hr => ?_) fun c x hx => ?_
    · rw [gone] at hr
      cases hr
    · rw [gone, hr, hit_stands, hit_expects, State.cells_remove hr (fun m hm => (h.pending i r m hr hm).2), hx]
      have none_hit (f : Station → Bool) : hit f none = 0 := rfl
      rw [none_hit, none_hit]
      by_cases hc : c = r.cell
      · have away : ¬ r.pendingAt c = true := fun hp => h.apart_pending hr hp hc
        have counted := h.attached_pos hr (hc ▸ hx)
        refine ⟨x.lose, if_pos hc, ?_, ?_⟩
        · rw [if_pos hc.symm]
          exact Nat.sub_add_cancel counted
        · rw [if_neg away]
          rfl
      · by_cases hp : r.pendingAt c = true
        · refine ⟨x.unexpect, (if_neg hc).trans (if_pos hp), ?_, ?_⟩
          · rw [if_neg (Ne.symm hc)]
            rfl
          · rw [if_pos hp]
            exact Nat.sub_add_cancel (h.incoming_pos hr hp hx)
        · refine ⟨x, (if_neg hc).trans (if_neg hp), ?_, ?_⟩
          · rw [if_neg (Ne.symm hc)]
          · rw [if_neg hp]

theorem completeRoam (h : s.CountLaw) (i : StationIx) (r : Station) (m : Roam) (hr : s.station? i = some r)
    (hm : r.roam = some m) : (s.completeRoam i r m).CountLaw := by
  have touched := s.completeRoam_touches i r m (G := roamViews)
  obtain ⟨configured, apart⟩ := h.pending i r m hr hm
  obtain ⟨⟨r', hr', -, heq, -⟩, others, old, new, cells, -⟩ :=
    State.roamDone_completeRoam (w := s) rfl (fun _ _ => rfl) apart.symm
  have cell : r'.cell = m.pending := by rw [heq]
  have roam : r'.roam = none := by rw [heq]
  have pending (c : CellId) : r.pendingAt c = true ↔ m.pending = c := by
    rw [Station.pendingAt, hm]
    exact beq_iff_eq
  have away (c : CellId) : ¬ r'.pendingAt c = true := by
    rw [Station.pendingAt, roam]
    exact Bool.false_ne_true
  refine h.change (touched.canon .stations h.stations) (touched.canon .cells h.cells) (fun c => touched.configured c) i
    others (fun q hq => ?_) fun c x hx => ?_
  · obtain rfl : r' = q := Option.some.inj (hr'.symm.trans hq)
    exact ⟨by rw [cell]; exact configured, fun m' hm' => by rw [roam] at hm'; cases hm'⟩
  · rw [hr', hr, hit_stands, hit_stands, hit_expects, hit_expects, cell, if_neg (away c)]
    by_cases hc : c = r.cell
    · subst hc
      have counted := h.attached_pos hr hx
      refine ⟨_, old x hx, ?_, ?_⟩
      · rw [if_pos rfl, if_neg apart]
        exact Nat.sub_add_cancel counted
      · rw [if_neg fun hp => apart ((pending _).1 hp)]
    · by_cases hp : c = m.pending
      · subst hp
        have counted := h.incoming_pos hr ((pending _).2 rfl) hx
        refine ⟨_, new x hx, ?_, ?_⟩
        · rw [if_neg (Ne.symm hc), if_pos rfl]
        · rw [if_pos ((pending _).2 rfl)]
          exact Nat.sub_add_cancel counted
      · refine ⟨x, (cells c hc hp).trans hx, ?_, ?_⟩
        · rw [if_neg (Ne.symm hc), if_neg (Ne.symm hp)]
        · rw [if_neg fun g => hp ((pending c).1 g).symm]

/-- A station at a new record, and a count of the cell that the record adds to. -/
theorem counted (h : s.CountLaw) {x : CellId} {f : Cell → Cell} (hf : CountsOnly f) {i : StationIx} {q : Station}
    (placed : s.Placed q) (attached : ∀ c y, s.cells.get? c = some y →
      ((if c = x then f y else y).attached) + hit (Station.stands c) (s.station? i) =
        y.attached + hit (Station.stands c) (some q))
    (incoming : ∀ c y, s.cells.get? c = some y →
      ((if c = x then f y else y).incoming) + hit (Station.expects c) (s.station? i) =
        y.incoming + hit (Station.expects c) (some q)) :
    ((s.putStation i q).countCell x f).CountLaw := by
  have touched := (s.putStation i q).countCell_touches (G := countViews) x hf
  have station (j : StationIx) : ((s.putStation i q).countCell x f).station? j =
      if j = i then some q else s.station? j := by rw [touched.station?, State.station?_putStation]
  refine h.change (touched.canon .stations (Table.wf_put _ _ _ h.stations)) (touched.canon .cells h.cells)
    (fun c => touched.configured c) i (fun j hj => (station j).trans (if_neg hj)) (fun r hr => ?_) fun c y hy => ?_
  · obtain rfl : q = r := Option.some.inj (((station i).trans (if_pos rfl)).symm.trans hr)
    exact placed
  · refine ⟨if c = x then f y else y, ?_, ?_, ?_⟩
    · rw [State.cells_countCell]
      split
      · next hc => rw [← hc]; exact congrArg (Option.map f) hy
      · exact hy
    · rw [(station i).trans (if_pos rfl)]
      exact attached c y hy
    · rw [(station i).trans (if_pos rfl)]
      exact incoming c y hy

theorem create (h : s.CountLaw) (x : CellId) (a : Address) (i : StationIx) (hx : s.configured x = true)
    (hi : s.station? i = none) : ((s.putStation i (newStation s x a)).countCell x Cell.gain).CountLaw := by
  refine h.counted countsOnly_gain ⟨hx, nofun⟩ (fun c y _ => ?_) fun c y _ => ?_
  · rw [hi, hit_stands]
    by_cases hc : c = x
    · rw [if_pos hc, if_pos (show (newStation s x a).cell = c from hc.symm)]
      rfl
    · rw [if_neg hc, if_neg (show ¬ (newStation s x a).cell = c from Ne.symm hc)]
      rfl
  · rw [hi]
    split <;> rfl

theorem startRoam (h : s.CountLaw) (x : CellId) (i : StationIx) (r : Station) (hx : s.configured x = true)
    (hr : s.station? i = some r) (hn : r.roam = none) (hc : r.cell ≠ x) :
    ((s.putStation i { r with roam := some ⟨x, s.now⟩ }).countCell x Cell.expect).CountLaw := by
  refine h.counted countsOnly_expect ⟨h.current i r hr, fun m hm => ?_⟩ (fun c y _ => ?_) fun c y _ => ?_
  · cases hm
    exact ⟨hx, hc.symm⟩
  · rw [hr]
    split <;> rfl
  · have before : hit (Station.expects c) (some r) = 0 := by
      rw [hit_expects, Station.pendingAt, hn]
      rfl
    have after : hit (Station.expects c) (some { r with roam := some ⟨x, s.now⟩ }) = if x = c then 1 else 0 :=
      ite_congr_iff beq_iff_eq rfl rfl
    rw [hr, before, after]
    by_cases hxc : c = x
    · rw [if_pos hxc, if_pos hxc.symm]
      rfl
    · rw [if_neg hxc, if_neg (Ne.symm hxc)]

end State.CountLaw

theorem countLaw_rules : StationRules placeLawViews State.CountLaw where
  quiet t ha h := h.of_touches t ha
  portW := by decide +kernel
  noted s i r q h hr hq := h.of_touches (s.noted_touches (hr h.stations) hq) (by decide +kernel)
  append s t m h := h.of_touches (State.append_touches (G := messageViews) s t m) (by decide +kernel)
  taken s t h := h.of_touches (s.taken_touches (G := _) t (fun _ => id)) (by decide +kernel)
  remove _ i c h := h.remove i c
  completeRoam _ i r m h hr hm := h.completeRoam i r m hr hm
  create _ x a i h hx hi := h.create x a i hx (hi h.stations)
  startRoam _ x i r h hx hr hn hc := h.startRoam x i r hx (hr h.stations) hn hc
  present s x i k h := h.of_touches (State.present_touches (G := presentViews) s x i k) (by decide +kernel)
  subscribe s x i r n h hr := h.of_touches (State.subscribe_touches s x i r n hr) (by decide +kernel)
  unsubscribe s x i r n h hr := h.of_touches (State.unsubscribe_touches s x i r n hr) (by decide +kernel)

/-! ### CELL_SET -/

/-- No station stands at a cell that is not configured, and none is expected there. -/
theorem State.CountLaw.unused {s : State} (h : s.CountLaw) {c : CellId} (hc : s.cells.get? c = none) :
    s.stationsWith (fun r => r.cell == c) = 0 ∧ s.stationsWith (fun r => r.pendingAt c) = 0 := by
  have free : ¬ s.configured c = true := by
    rw [State.configured, hc]
    exact Bool.false_ne_true
  refine ⟨State.stationsWith_zero h.stations fun i r hr => ?_, State.stationsWith_zero h.stations fun i r hr => ?_⟩
  · exact beq_eq_false_iff_ne.2 fun e => free (e ▸ h.current i r hr)
  · unfold Station.pendingAt
    split
    · next m hm => exact beq_eq_false_iff_ne.2 fun e => free (e ▸ (h.pending i r m hr hm).1)
    · rfl

/-- A cell that was not configured starts with both counts 0. -/
theorem State.CountLaw.configure {s : State} (h : s.CountLaw) {c : CellId} (hc : s.cells.get? c = none) {x : Cell}
    (ha : x.attached = 0) (hi : x.incoming = 0) : State.CountLaw { s with cells := s.cells.put c x } := by
  have known (d : CellId) (hd : s.configured d = true) : (s.cells.put c x |>.get? d).isSome = true := by
    rw [Table.get?_put]
    split
    · rfl
    · exact hd
  refine ⟨h.stations, Table.wf_put _ _ _ h.cells, fun i r hr => known _ (h.current i r hr), fun i r m hr hm => ?_,
    fun d y hy => ?_⟩
  · obtain ⟨configured, apart⟩ := h.pending i r m hr hm
    exact ⟨known _ configured, apart⟩
  · change (s.cells.put c x).get? d = some y at hy
    rw [Table.get?_put] at hy
    split at hy
    · next hd =>
      cases hy
      obtain ⟨standing, expected⟩ := h.unused hc
      subst hd
      exact ⟨ha.trans standing.symm, hi.trans expected.symm⟩
    · exact h.counts d y hy

/-- A cell with both counts 0 may go: no station names it. -/
theorem State.CountLaw.removeCell {s : State} (h : s.CountLaw) {c : CellId} {x : Cell} (hc : s.cells.get? c = some x)
    (ha : x.attached = 0) (hi : x.incoming = 0) : (s.removeCell c).CountLaw := by
  have cells (d : CellId) : (s.removeCell c).cells.get? d = if d = c then none else s.cells.get? d :=
    Table.get?_del _ _ _ h.cells
  have stations (i : StationIx) : (s.removeCell c).station? i = s.station? i := rfl
  have kept (d : CellId) (hd : d ≠ c) : (s.removeCell c).configured d = s.configured d := by
    unfold State.configured
    rw [cells, if_neg hd]
  refine ⟨h.stations, Table.wf_del _ _ h.cells, fun i r hr => ?_, fun i r m hr hm => ?_, fun d y hy => ?_⟩
  · rw [kept]
    · exact h.current i r hr
    · rintro rfl
      exact absurd (h.attached_pos hr hc) (by rw [ha]; decide)
  · obtain ⟨configured, apart⟩ := h.pending i r m hr hm
    refine ⟨?_, apart⟩
    rw [kept]
    · exact configured
    · rintro rfl
      have expected : r.pendingAt m.pending = true := by
        rw [Station.pendingAt, hm]
        exact beq_self_eq_true _
      exact absurd (h.incoming_pos hr expected hc) (by rw [hi]; decide)
  · rw [cells] at hy
    split at hy
    · cases hy
    · exact h.counts d y hy

theorem State.CountLaw.cellSet {s : State} (h : s.CountLaw) (b : List Byte) : (cellSetRule b s).state.CountLaw := by
  unfold cellSetRule
  dsimp only
  split
  · exact h
  · split
    · next hc _ => exact h.configure hc rfl rfl
    · next old hc _ =>
      exact h.of_touches (State.rewriteCell_touches (G := rewriteViews) s _ old b hc) (by decide +kernel)
    · exact h
    · next old hc _ =>
      split
      · exact h
      · next hz => exact h.removeCell hc (by omega) (by omega)

theorem countLaw_rule (c : Command) (b : List Byte) (s : State)
    (hc : View.apart placeLawViews (Command.footprint c) = false) (h : s.CountLaw) : (c.rule b s).state.CountLaw := by
  cases c with
  | cellSet => exact h.cellSet b
  | stationDetach => exact countLaw_rules.stationDetach h b
  | stationClear => exact countLaw_rules.stationClear h b
  | _ => exact absurd hc (by decide +kernel)

theorem countLaw_event (i : Instr) (s u : State) (hc : portCommand i = none) (hd : i ≠ .deviceReset)
    (hl : i ≠ .resetLineAsserted) (ha : View.apart placeLawViews (rowFootprint i) = false) (h : s.CountLaw)
    (hx : exec i s = .next u) : u.CountLaw := by
  cases i with
  | deviceReset => exact absurd rfl hd
  | resetLineAsserted => exact absurd rfl hl
  | reportTake => exact countLaw_rules.reportTake h hx
  | roamTimeout i => exact countLaw_rules.roamTimeout h hx
  | ageExpiry i => exact countLaw_rules.ageExpiry h hx
  | _ => first | exact absurd hc (Option.some_ne_none _) | exact absurd (ha.symm.trans rfl) Bool.false_ne_true

theorem countLaw_reset (s : State) (held : Bool) : (s.deviceReset held).CountLaw :=
  ⟨rfl, rfl, nofun, nofun, nofun⟩

/-- Settles O58: the rows that move stations, and CELL_SET, keep the counts; no other row touches them. -/
theorem countLawKept : Obligations.CountLawKept :=
  fun s u => law_step placeLawViews (fun t ha h => h.of_touches t ha) (by decide +kernel)
    (hreset := countLaw_reset) (hrule := countLaw_rule) (hevent := countLaw_event) s u

end Sys2Proof.Machine
end


section
/-! PROOF. The laws of the part right after device reset: no record of a table is live, every trunk is OFF and every
stream CLOSED. -/
namespace Sys2Proof.Machine

theorem State.stream_reset (k : StreamId) : State.reset.stream k = .reset := by
  simp [State.stream, State.reset]

theorem State.sectorDemand_reset (k : StreamId) : State.reset.sectorDemand k = .none := by
  simp [State.sectorDemand, State.reset]

theorem State.tablesSound_reset : State.reset.TablesSound := by
  refine ⟨?_, rfl, rfl, rfl, ⟨rfl, nofun⟩, rfl, .nil⟩
  decide +kernel

theorem Trunk.sound_reset : Trunk.reset.Sound where
  intake := Nat.zero_le _
  control := Nat.zero_le _
  urgent := ⟨Nat.zero_le _, .nil⟩
  list := ⟨Nat.zero_le _, nofun⟩
  regular := .inr rfl
  settings := ⟨by decide, by decide⟩
  judged := ⟨Nat.zero_le _, Nat.zero_le _⟩
  number := by decide
  silent _ := ⟨rfl, rfl, rfl⟩
  idle _ := rfl
  bare _ := ⟨rfl, rfl⟩
  off _ := ⟨rfl, rfl⟩

theorem State.trunksSound_reset : State.reset.TrunksSound := fun t => by
  rw [State.trunk_reset]
  exact Trunk.sound_reset

theorem State.inactive_reset (t : TrunkId) : (State.reset.trunk t).state ≠ .active := by
  rw [State.trunk_reset]
  decide

theorem State.idleLaw_reset : State.reset.IdleLaw := by
  refine ⟨rfl, fun t => ⟨fun h => ?_, fun h => absurd h.1 (State.inactive_reset t)⟩⟩
  rw [State.trunk_reset] at h
  cases h

theorem State.demandLaw_reset : State.reset.DemandLaw := by
  have nowhere (test : CellId → Prop) : ¬ State.reset.OnActive test := fun ⟨t, ht, _⟩ => State.inactive_reset t ht
  refine ⟨fun k => ⟨fun h => ?_, fun h => absurd h (nowhere _)⟩, fun k => ⟨fun _ => nowhere _, fun _ =>
    State.sectorDemand_reset k⟩⟩
  rw [State.sectorDemand_reset] at h
  cases h

theorem State.replayLaw_reset : State.reset.ReplayLaw where
  blocks :=
    { descs := rfl, used := .nil, sizes := nofun, disjoint := nofun
      whole := fun _ => ⟨nofun, nofun⟩
      counted := fun k => by rw [State.stream_reset]; rfl
      closed := fun k _ => by rw [State.stream_reset]; rfl
      draining := fun k h => by rw [State.stream_reset] at h; cases h
      opened := nofun, upload := nofun }
  release := { nodup := .nil, held := fun _ => ⟨nofun, nofun⟩, window := nofun, order := .nil }
  queues :=
    { queues := fun t => by rw [State.trunk_reset]; exact ⟨.nil, nofun⟩
      refs := nofun, left := nofun, away := nofun
      plans := fun t a e h => by rw [State.trunk_reset] at h; cases h }

theorem State.fanoutLaw_reset : State.reset.FanoutLaw := ⟨rfl, rfl, nofun, fun _ _ => rfl⟩

theorem State.tierLaw_reset : State.reset.TierLaw := ⟨nofun, nofun, nofun⟩

theorem State.ticketLaw_reset : State.reset.TicketLaw := ⟨rfl, rfl, nofun, nofun⟩

theorem State.countLaw_reset : State.reset.CountLaw := ⟨rfl, rfl, nofun, nofun, nofun⟩

theorem State.portsSound_reset : State.reset.PortsSound := fun p => by
  cases p <;> exact ⟨fun _ => ⟨rfl, rfl, rfl⟩, nofun, Nat.zero_le _⟩

/-- Settles O60: law by law. -/
theorem lawsHoldAtReset : Obligations.LawsHoldAtReset :=
  ⟨State.portsSound_reset, State.trunksSound_reset, State.tablesSound_reset, State.ticketLaw_reset,
    State.countLaw_reset, State.fanoutLaw_reset, State.idleLaw_reset, State.demandLaw_reset, State.tierLaw_reset,
    State.replayLaw_reset⟩

end Sys2Proof.Machine
end


section
/-! PROOF. The law of the fan-out counts (R141): how the counts move with a station, and that the operations on
stations and subscriptions keep it. -/
namespace Sys2Proof.Machine

/-! ### Counts by tier -/

/-- The count for a tier: nFull or nLean. -/
def Counts.at (n : Counts) : Level → Nat
  | .none => 0
  | .lean => n.lean
  | .full => n.full

theorem Counts.ext_at {n m : Counts} (h : ∀ l, l ≠ .none → n.at l = m.at l) : n = m := by
  obtain ⟨_, _⟩ := n
  obtain ⟨_, _⟩ := m
  exact Counts.mk.injEq .. ▸ ⟨h .full nofun, h .lean nofun⟩

theorem Counts.at_inc (n : Counts) (l : Level) {l' : Level} (hl : l' ≠ .none) :
    (n.inc l).at l' = n.at l' + if l = l' then 1 else 0 := by
  cases l' with
  | none => exact absurd rfl hl
  | lean | full => cases l <;> rfl

theorem Counts.at_dec (n : Counts) (l : Level) {l' : Level} (hl : l' ≠ .none) :
    (n.dec l).at l' = n.at l' - if l = l' then 1 else 0 := by
  cases l' with
  | none => exact absurd rfl hl
  | lean | full => cases l <;> rfl

/-- A change of the counts of distinct streams at a cell. -/
theorem State.counts_each (c : CellId) (f : Counts → Counts) (ks : List StreamId) {s : State} (h : s.fan.wf = true)
    (nd : ks.Nodup) (c' : CellId) (k : StreamId) :
    (s.each ks fun s k => s.setCounts c k (f (s.counts c k))).counts c' k =
      if c' = c ∧ k ∈ ks then f (s.counts c' k) else s.counts c' k := by
  induction ks generalizing s with
  | nil => simp [State.each]
  | cons j ks ih =>
    obtain ⟨hj, hks⟩ := List.nodup_cons.1 nd
    have first := State.setCounts_touches (G := [.fan]) s c j (f (s.counts c j))
    have now := s.counts_setCounts c j (f (s.counts c j)) c' k h
    refine (ih (first.canon .fan h) hks).trans ?_
    rw [now]
    by_cases hk : k = j
    · subst hk
      by_cases hc : c' = c
      · subst hc
        rw [if_neg fun g => hj g.2, if_pos ⟨rfl, rfl⟩, if_pos ⟨rfl, List.mem_cons_self⟩]
      · rw [if_neg fun g => hc g.1, if_neg fun g => hc g.1, if_neg fun g => hc g.1]
    · have same : (c' = c ∧ k ∈ j :: ks) ↔ (c' = c ∧ k ∈ ks) := by
        rw [List.mem_cons, or_iff_right hk]
      rw [ite_congr_iff same rfl rfl, if_neg (show ¬ (c' = c ∧ k = j) from fun g => hk g.2)]

/-- A station counts at cell c for stream k in tier l (R141). -/
def Station.watches (c : CellId) (k : StreamId) (l : Level) (r : Station) : Bool :=
  r.cell == c && r.tier == l && r.subs.contains k

theorem hit_watches (c : CellId) (k : StreamId) (l : Level) (r : Station) :
    hit (Station.watches c k l) (some r) = if (c = r.cell ∧ k ∈ r.subs) ∧ r.tier = l then 1 else 0 := by
  have same : Station.watches c k l r = true ↔ (c = r.cell ∧ k ∈ r.subs) ∧ r.tier = l := by
    rw [Station.watches, Bool.and_eq_true, Bool.and_eq_true, beq_iff_eq, beq_iff_eq, List.contains_iff_mem, eq_comm,
      and_right_comm]
  exact ite_congr_iff same rfl rfl

/-- The counts that a station leaves. -/
theorem State.at_leaveCounts {s : State} (h : s.fan.wf = true) (r : Station) (nd : r.subs.Nodup) (c : CellId)
    (k : StreamId) {l : Level} (hl : l ≠ .none) : ((s.leaveCounts r.cell r.tier r.subs).counts c k).at l =
      (s.counts c k).at l - hit (Station.watches c k l) (some r) := by
  have after : (s.leaveCounts r.cell r.tier r.subs).counts c k = _ :=
    State.counts_each r.cell (Counts.dec · r.tier) r.subs h nd c k
  rw [after, hit_watches]
  by_cases hk : c = r.cell ∧ k ∈ r.subs
  · rw [if_pos hk, Counts.at_dec _ _ hl, ite_congr_iff (and_iff_right hk) rfl rfl]
  · rw [if_neg hk, if_neg fun g => hk g.1]
    rfl

/-- The counts that a station joins. -/
theorem State.at_joinCounts {s : State} (h : s.fan.wf = true) (r : Station) (nd : r.subs.Nodup) (c : CellId)
    (k : StreamId) {l : Level} (hl : l ≠ .none) : ((s.joinCounts r.cell r.tier r.subs).counts c k).at l =
      (s.counts c k).at l + hit (Station.watches c k l) (some r) := by
  have after : (s.joinCounts r.cell r.tier r.subs).counts c k = _ :=
    State.counts_each r.cell (Counts.inc · r.tier) r.subs h nd c k
  rw [after, hit_watches]
  by_cases hk : c = r.cell ∧ k ∈ r.subs
  · rw [if_pos hk, Counts.at_inc _ _ hl, ite_congr_iff (and_iff_right hk) rfl rfl]
  · rw [if_neg hk, if_neg fun g => hk g.1]
    rfl

/-! ### The law -/

/-- A list of subscriptions as R85 and R143 have it: up to 4 distinct streams, all OPEN. -/
def State.Listed (s : State) (ks : List StreamId) : Prop :=
  ks.Nodup ∧ ks.length ≤ 4 ∧ ∀ k ∈ ks, (s.stream k).state = .opened

theorem State.Listed.mono {s u : State} {ks : List StreamId} (h : s.Listed ks)
    (ho : ∀ k, (s.stream k).state = .opened → (u.stream k).state = .opened) : u.Listed ks :=
  ⟨h.1, h.2.1, fun k hk => ho k (h.2.2 k hk)⟩

theorem State.FanoutLaw.listed {s : State} (h : s.FanoutLaw) {i : StationIx} {r : Station} (hr : s.station? i = some r) :
    s.Listed r.subs := h.lists i r hr

/-- The counts of the law, tier by tier. -/
theorem State.FanoutLaw.at {s : State} (h : s.FanoutLaw) (c : CellId) (k : StreamId) {l : Level} (hl : l ≠ .none) :
    (s.counts c k).at l = s.stationsWith (Station.watches c k l) := by
  rw [h.counts c k]
  cases l with
  | none => exact absurd rfl hl
  | lean | full => rfl

theorem State.FanoutLaw.of_at {s : State} (stations : s.stations.wf = true) (fan : s.fan.wf = true)
    (lists : ∀ i r, s.station? i = some r → s.Listed r.subs)
    (counts : ∀ c k l, l ≠ .none → (s.counts c k).at l = s.stationsWith (Station.watches c k l)) : s.FanoutLaw :=
  ⟨stations, fan, lists, fun c k => Counts.ext_at fun l hl => by
    rw [counts c k l hl]
    cases l with
    | none => exact absurd rfl hl
    | lean | full => rfl⟩

/-- A station's share of a count is part of the count. -/
theorem State.FanoutLaw.hit_le {s : State} (h : s.FanoutLaw) (i : StationIx) (c : CellId) (k : StreamId) {l : Level}
    (hl : l ≠ .none) : hit (Station.watches c k l) (s.station? i) ≤ (s.counts c k).at l := by
  rw [h.at c k hl, s.stationsWith_eq, s.stations.count_del _ i]
  exact Nat.le_add_left ..

/-- **One station and the counts it stands in change together.** -/
theorem State.FanoutLaw.change {s u : State} (h : s.FanoutLaw) (hs : u.stations.wf = true) (hf : u.fan.wf = true)
    (ho : ∀ k, (s.stream k).state = .opened → (u.stream k).state = .opened) (i : StationIx)
    (others : ∀ j, j ≠ i → u.station? j = s.station? j) (hi : ∀ r, u.station? i = some r → u.Listed r.subs)
    (counts : ∀ c k l, l ≠ .none → (u.counts c k).at l + hit (Station.watches c k l) (s.station? i) =
      (s.counts c k).at l + hit (Station.watches c k l) (u.station? i)) : u.FanoutLaw := by
  refine .of_at hs hf (fun j r hr => ?_) fun c k l hl => ?_
  · by_cases hj : j = i
    · exact hi r (hj ▸ hr)
    · exact (h.listed ((others j hj).symm.trans hr)).mono ho
  · have change := State.stationsWith_change h.stations hs (f := Station.watches c k l) i
      fun j hj => by rw [others j hj]
    have before := h.at c k hl
    have after := counts c k l hl
    omega

/-- The views that the law rests on, but for the streams. -/
abbrev fanLawViews : List View := [.station .cell, .station .tier, .station .subs, .fan]

/-- A change that leaves lists, tiers, cells and counts as they are, and closes no stream. -/
theorem State.FanoutLaw.of_touches {F : List View} {s u : State} (t : s.Touches F u)
    (ha : View.apart fanLawViews F = true)
    (ho : ∀ k, (s.stream k).state = .opened → (u.stream k).state = .opened) (h : s.FanoutLaw) : u.FanoutLaw := by
  have apart := (View.apart_iff _ _).1 ha
  have cell (j : StationIx) := t.station .cell j (apart _ (View.mem_of (by decide +kernel)))
  have tier (j : StationIx) := t.station .tier j (apart _ (View.mem_of (by decide +kernel)))
  have subs (j : StationIx) := t.station .subs j (apart _ (View.mem_of (by decide +kernel)))
  have same (j : StationIx) (r : Station) (hr : u.station? j = some r) :
      ∃ q, s.station? j = some q ∧ q.cell = r.cell ∧ q.tier = r.tier ∧ q.subs = r.subs := by
    have hcell := cell j
    have htier := tier j
    have hsubs := subs j
    rw [hr] at hcell htier hsubs
    obtain ⟨q, hq, hc⟩ := Option.map_eq_some_iff.1 hcell.symm
    rw [hq] at htier hsubs
    exact ⟨q, hq, hc, (Option.some.inj htier).symm, (Option.some.inj hsubs).symm⟩
  refine .of_at (t.canon .stations h.stations) (t.canon .fan h.fan) (fun j r hr => ?_) fun c k l hl => ?_
  · obtain ⟨q, hq, -, -, hsubs⟩ := same j r hr
    rw [← hsubs]
    exact (h.listed hq).mono ho
  · rw [t.counts c k (apart _ (View.mem_of (by decide +kernel))), h.at c k hl]
    refine (State.stationsWith_congr h.stations (t.canon .stations h.stations) fun j => ?_).symm
    cases hr : u.station? j with
    | none =>
      have hcell := cell j
      rw [hr] at hcell
      rw [Option.map_eq_none_iff.1 hcell.symm]
    | some r =>
      obtain ⟨q, hq, hc, ht, hsubs⟩ := same j r hr
      rw [hq]
      exact congrArg some (by rw [Station.watches, Station.watches, hc, ht, hsubs])

/-- The law is kept where the streams are left alone too. -/
theorem State.FanoutLaw.quiet {F : List View} {s u : State} (t : s.Touches F u)
    (ha : View.apart (.stream .state :: fanLawViews) F = true) (h : s.FanoutLaw) : u.FanoutLaw := by
  have apart := (View.apart_iff _ _).1 ha
  refine h.of_touches t ((View.apart_iff _ _).2 fun v hv => apart v (List.mem_cons_of_mem _ hv)) fun k hk => ?_
  have kept : (u.stream k).state = (s.stream k).state := t.stream .state k (apart _ List.mem_cons_self)
  exact kept.trans hk

end Sys2Proof.Machine
end


section
/-! PROOF. The law of the fan-out counts (R141) through the operations on stations. -/
namespace Sys2Proof.Machine

/-- A station leaves the counts of its old record and joins those of its new one. -/
theorem State.FanoutLaw.moved {s u : State} (h : s.FanoutLaw) (hs : u.stations.wf = true) (hf : u.fan.wf = true)
    (ho : u.streams = s.streams) (i : StationIx) (others : ∀ j, j ≠ i → u.station? j = s.station? j)
    (hi : ∀ r, u.station? i = some r → s.Listed r.subs)
    (counts : ∀ c k l, l ≠ .none → (u.counts c k).at l =
      (s.counts c k).at l - hit (Station.watches c k l) (s.station? i) + hit (Station.watches c k l) (u.station? i)) :
    u.FanoutLaw := by
  have opened (k : StreamId) (hk : (s.stream k).state = .opened) : (u.stream k).state = .opened := by
    rw [State.stream, ho]
    exact hk
  refine h.change hs hf opened i others (fun r hr => (hi r hr).mono opened) fun c k l hl => ?_
  have le := h.hit_le i c k hl
  rw [counts c k l hl]
  omega

/-- A station's record rewritten with the subscriptions it had. -/
theorem State.FanoutLaw.rewritten {s u : State} (h : s.FanoutLaw) (hs : u.stations.wf = true) (hf : u.fan.wf = true)
    (ho : u.streams = s.streams) {i : StationIx} {r q : Station} (hr : s.station? i = some r) (hq : q.subs = r.subs)
    (stations : ∀ j, u.station? j = if j = i then some q else s.station? j)
    (counts : ∀ c k, u.counts c k =
      ((s.leaveCounts r.cell r.tier r.subs).joinCounts q.cell q.tier q.subs).counts c k) : u.FanoutLaw := by
  have now : u.station? i = some q := (stations i).trans (if_pos rfl)
  have left := State.leaveCounts_touches (G := [.fan]) s r.cell r.tier r.subs
  have nodup := (h.listed hr).1
  refine h.moved hs hf ho i (fun j hj => (stations j).trans (if_neg hj)) (fun p hp => ?_) fun c k l hl => ?_
  · rw [now] at hp
    cases hp
    rw [hq]
    exact h.listed hr
  · rw [counts, now, hr, State.at_joinCounts (left.canon .fan h.fan) q (by rw [hq]; exact nodup) c k hl,
      State.at_leaveCounts h.fan r nodup c k hl]

theorem State.FanoutLaw.recomputeTier {s : State} (h : s.FanoutLaw) (i : StationIx) : (s.recomputeTier i).1.FanoutLaw := by
  have touched := s.recomputeTier_touches (G := retierViews) i
  cases hr : s.station? i with
  | none => rw [State.recomputeTier, hr]; exact h
  | some r =>
    by_cases hl : s.tierOf r.binding r.cell = r.tier
    · rw [State.recomputeTier_same hr hl]
      exact h
    · refine h.rewritten (touched.canon .stations h.stations) (touched.canon .fan h.fan) touched.streams hr
        (q := { r with tier := s.tierOf r.binding r.cell }) rfl (State.station?_recomputeTier hr) fun c k => ?_
      rw [State.recomputeTier_changed hr hl]
      exact (State.recomputeEach_touches (G := [.demand, .portV]) ..).counts c k

theorem State.FanoutLaw.told {s : State} (h : s.FanoutLaw) {u : State} (t : s.Touches messageViews u) : u.FanoutLaw :=
  h.quiet t (by decide +kernel)

theorem State.FanoutLaw.recomputed {s : State} (h : s.FanoutLaw) (ks : List StreamId) : (s.recomputeEach ks).FanoutLaw :=
  h.quiet (State.recomputeEach_touches (G := [.demand, .portV]) s ks) (by decide +kernel)

theorem State.FanoutLaw.retier {s : State} (h : s.FanoutLaw) (i : StationIx) : (s.retier i).FanoutLaw :=
  (h.recomputeTier i).told (State.tellTier_touches ..)

/-- A record rewritten in its binding and its seat-grace start. -/
theorem State.FanoutLaw.putBinding {s : State} (h : s.FanoutLaw) {i : StationIx} {r : Station}
    (hr : s.station? i = some r) (b : Binding) (g : Option Time) :
    (s.putStation i { r with binding := b, grace := g }).FanoutLaw :=
  h.quiet (State.putStation_touches (G := [.stations, .station .binding, .station .grace]) s i r _ hr
    (fun x hx => by cases x <;> simp at hx <;> rfl) (View.mem_of (by decide +kernel))) (by decide +kernel)

theorem State.FanoutLaw.unbindStation {s : State} (h : s.FanoutLaw) (i : StationIx) : (s.unbindStation i).FanoutLaw := by
  unfold State.unbindStation
  split
  · exact h
  · next r hr =>
    rw [Station.unbind_eq]
    exact (h.putBinding hr ..).retier i

theorem State.FanoutLaw.resettle {s : State} (h : s.FanoutLaw) (a b : CellKind) (i : StationIx) :
    (State.resettle a b s i).FanoutLaw := by
  unfold State.resettle
  split
  · exact h
  · next r hr =>
    rw [Station.settle_eq]
    exact (h.putBinding hr ..).retier i

theorem State.FanoutLaw.bindTicket {s : State} (h : s.FanoutLaw) (x : CellId) {i : StationIx} {r : Station}
    (hr : s.station? i = some r) (k : Token) (t : Ticket) : (s.bindTicket x i r k t).FanoutLaw := by
  have ticket : (s.putTicket k { t with state := .seated i }).FanoutLaw := ⟨h.stations, h.fan, h.lists, h.counts⟩
  have put : (s.join i r k t).FanoutLaw := ticket.putBinding (i := i) (r := r) hr (.bound k) none
  exact ((put.recomputeTier i).told (State.ticketResult_touches ..)).told (State.tellTier_touches ..)

theorem State.station?_unbindStation_ne (s : State) {i j : StationIx} (hj : j ≠ i) :
    (s.unbindStation i).station? j = s.station? j := by
  cases hr : s.station? i with
  | none => rw [State.unbindStation, hr]
  | some r => exact (State.unbindStation_says hr).2.1 j hj

theorem State.FanoutLaw.present {s : State} (h : s.FanoutLaw) (x : CellId) (i : StationIx) (k : Token) :
    (s.present x i k).FanoutLaw := by
  have note {u : State} (hu : u.FanoutLaw) (n : Notice) : (u.notify .T n).FanoutLaw :=
    hu.quiet (State.notify_touches (G := [.portT]) u .T n (View.mem_of rfl)) (by decide +kernel)
  have answered (r : TicketResult) : (s.ticketResult x i r).FanoutLaw := h.told (State.ticketResult_touches ..)
  cases hr : s.station? i with
  | none => rw [State.present, hr]; exact h
  | some r =>
    cases ht : s.ticket? k with
    | none => rw [State.present, hr, ht]; exact answered _
    | some t =>
      rw [State.present_eq hr ht]
      split
      · exact note (answered _) _
      · exact note (answered _) _
      · exact note (answered _) _
      · split
        · exact answered _
        · exact note (h.bindTicket x hr k t) _
      · next holder _ =>
        split
        · exact answered _
        · split
          · exact answered _
          · next hne =>
            split
            · have same := (s.station?_unbindStation_ne (Ne.symm hne)).trans hr
              exact note ((h.unbindStation holder).bindTicket x same k t) _
            · exact note (answered _) _

/-! ### Removal, roams and new phones -/

theorem State.FanoutLaw.remove {s : State} (h : s.FanoutLaw) (i : StationIx) (cause : Cause) :
    (s.remove i cause).FanoutLaw := by
  have touched := s.remove_touches (G := removeViews) i cause
  cases hr : s.station? i with
  | none => rw [State.remove, hr]; exact h
  | some r =>
    have gone := State.station?_remove h.stations i cause
    have now : (s.remove i cause).station? i = none := (gone i).trans (if_pos rfl)
    have rest : State.Touches (stationViews ++ countViews ++ [.demand, .portV, .tickets, .ticket .state, .portT])
        (s.leaveCounts r.cell r.tier r.subs) (s.remove i cause) := by
      have live : (s.leaveCounts r.cell r.tier r.subs).station? i = some r :=
        ((State.leaveCounts_touches (G := [.fan]) ..).station? i).trans hr
      rw [State.remove_eq s i r cause hr]
      exact .trans (State.putSubs_touches _ i r [] live) (.trans (State.recomputeEach_touches ..)
        (.trans (State.leaveCells_touches ..) (.trans (State.releaseTicket_touches ..) (State.delStation_touches ..))))
    refine h.moved (touched.canon .stations h.stations) (touched.canon .fan h.fan) touched.streams i
      (fun j hj => (gone j).trans (if_neg hj)) (fun p hp => ?_) fun c k l hl => ?_
    · rw [now] at hp
      cases hp
    · rw [rest.counts, now, hr, State.at_leaveCounts h.fan r (h.listed hr).1 c k hl]
      rfl

theorem State.FanoutLaw.completeRoam {s : State} (h : s.FanoutLaw) (i : StationIx) (r : Station) (m : Roam)
    (hr : s.station? i = some r) : (s.completeRoam i r m).FanoutLaw := by
  have touched := s.completeRoam_touches (G := roamViews) i r m
  have told := State.tierTold_touches (G := messageViews) (s.roamMoved i r m) i m.pending r.tier (s.arrived r m).tier
  rw [← State.completeRoam_eq] at told
  have cell : (s.arrived r m).cell = m.pending := by rw [State.arrived_eq]
  have subs : (s.arrived r m).subs = r.subs := by rw [State.arrived_eq]
  refine h.rewritten (touched.canon .stations h.stations) (touched.canon .fan h.fan) touched.streams hr subs
    (fun j => (told.station? j).trans (State.station?_roamMoved ..)) fun c k => ?_
  have left := State.leaveCounts_touches (G := [.fan]) s r.cell r.tier r.subs
  have between : State.Touches (stationViews ++ countViews) (s.leaveCounts r.cell r.tier r.subs)
      ((((s.leaveCounts r.cell r.tier r.subs).countCell r.cell Cell.lose).countCell m.pending Cell.arrive).putStation i
        (s.arrived r m)) :=
    .trans (State.countCell_touches _ _ countsOnly_lose) (.trans (State.countCell_touches _ _ countsOnly_arrive)
      (State.newStation_touches ..))
  have joined (v : State) (hv : v.fan.wf = true) : (v.joinCounts m.pending (s.arrived r m).tier r.subs).counts c k =
      if c = m.pending ∧ k ∈ r.subs then (v.counts c k).inc (s.arrived r m).tier else v.counts c k :=
    State.counts_each m.pending (Counts.inc · _) r.subs hv (h.listed hr).1 c k
  rw [told.counts, State.roamMoved, (State.recomputeEach_touches (G := [.demand, .portV]) ..).counts, cell, subs,
    joined _ (left.canon .fan h.fan), joined _ (between.canon .fan (left.canon .fan h.fan)), between.counts]

/-- A station new at a free index, or a roam begun: the station has the subscriptions, cell and tier it had. -/
theorem State.FanoutLaw.create {s : State} (h : s.FanoutLaw) (x : CellId) (a : Address) (i : StationIx)
    (hi : s.station? i = none) : ((s.putStation i (newStation s x a)).countCell x Cell.gain).FanoutLaw := by
  have counted := (s.putStation i (newStation s x a)).countCell_touches (G := countViews) x countsOnly_gain
  have station (j : StationIx) : ((s.putStation i (newStation s x a)).countCell x Cell.gain).station? j =
      if j = i then some (newStation s x a) else s.station? j := by rw [counted.station?, State.station?_putStation]
  have now := (station i).trans (if_pos rfl)
  refine h.moved (counted.canon .stations (Table.wf_put _ _ _ h.stations)) (counted.canon .fan h.fan) counted.streams i
    (fun j hj => (station j).trans (if_neg hj)) (fun p hp => ?_) fun c k l hl => ?_
  · rw [now] at hp
    cases hp
    exact ⟨.nil, Nat.zero_le _, nofun⟩
  · rw [counted.counts, now, hi, hit_watches, if_neg fun g => List.not_mem_nil g.1.2]
    rfl

theorem State.FanoutLaw.startRoam {s : State} (h : s.FanoutLaw) (x : CellId) (i : StationIx) (r : Station)
    (hr : s.station? i = some r) :
    ((s.putStation i { r with roam := some ⟨x, s.now⟩ }).countCell x Cell.expect).FanoutLaw :=
  h.quiet (.trans (State.putStation_touches (G := .stations :: .station .roam :: countViews) s i r _ hr
    (fun x hx => by cases x <;> simp at hx <;> rfl) (View.mem_of (by decide +kernel)))
    (State.countCell_touches _ x countsOnly_expect)) (by decide +kernel)

/-! ### Subscriptions -/

/-- A record whose list changes, with the counts that its tier moves. -/
theorem State.FanoutLaw.listChanged {s u : State} (h : s.FanoutLaw) {i : StationIx} {r : Station} {ks : List StreamId}
    (t : State.Touches [.fan, .demand, .portV, .portW, .trunks, .trunk .flags, .trunk .control]
      (s.putStation i { r with subs := ks }) u)
    (hr : s.station? i = some r) (hks : s.Listed ks)
    (counts : ∀ c k l, l ≠ .none → (u.counts c k).at l + hit (Station.watches c k l) (some r) =
      (s.counts c k).at l + hit (Station.watches c k l) (some { r with subs := ks })) : u.FanoutLaw := by
  have station (j : StationIx) : u.station? j = if j = i then some { r with subs := ks } else s.station? j := by
    rw [t.station?, State.station?_putStation]
  have now := (station i).trans (if_pos rfl)
  have streams : u.streams = s.streams := t.streams
  have opened (k : StreamId) (hk : (s.stream k).state = .opened) : (u.stream k).state = .opened := by
    rw [State.stream, streams]
    exact hk
  refine h.change (t.canon .stations (Table.wf_put _ _ _ h.stations)) (t.canon .fan h.fan) opened i
    (fun j hj => (station j).trans (if_neg hj)) (fun p hp => ?_) fun c k l hl => ?_
  · rw [now] at hp
    cases hp
    exact hks.mono opened
  · rw [now, hr]
    exact counts c k l hl

theorem State.FanoutLaw.subscribe {s : State} (h : s.FanoutLaw) (x : CellId) (i : StationIx) (r : Station) (n : Nat)
    (hr : s.station? i = some r) : (s.subscribe x i r n).FanoutLaw := by
  have answered (e : SubResult) : (s.subResult x i n e).FanoutLaw := h.told (State.subResult_touches ..)
  unfold State.subscribe
  split
  · exact answered _
  · split
    · exact answered _
    · next j _ =>
      split
      · exact answered _
      · next ho =>
        split
        · exact answered _
        · next hj =>
          split
          · exact answered _
          · next hlen =>
            have open_ : (s.stream j).state = .opened := (s.isOpen_iff j).1 (by simpa using ho)
            obtain ⟨nodup, length, listed⟩ := h.listed hr
            have longer : s.Listed (r.subs ++ [j]) := by
              refine ⟨List.nodup_append.2 ⟨nodup, List.pairwise_singleton _ _, ?_⟩, ?_, ?_⟩
              · rintro a ha b hb rfl
                exact hj (List.mem_singleton.1 hb ▸ ha)
              · rw [List.length_append, List.length_singleton]
                omega
              · intro k hk
                obtain hk | hk := List.mem_append.1 hk
                · exact listed k hk
                · exact List.mem_singleton.1 hk ▸ open_
            have share (c : CellId) (k : StreamId) (l : Level) :
                hit (Station.watches c k l) (some { r with subs := r.subs ++ [j] }) =
                  hit (Station.watches c k l) (some r) + hit (Station.watches c k l) (some { r with subs := [j] }) := by
              simp only [hit_watches, List.mem_append, List.mem_singleton]
              by_cases hk : k = j
              · subst hk
                rw [if_neg (show ¬ ((c = r.cell ∧ k ∈ r.subs) ∧ r.tier = l) from fun g => hj g.1.2), Nat.zero_add]
                exact ite_congr_iff (by simp) rfl rfl
              · rw [if_neg (show ¬ ((c = r.cell ∧ k = j) ∧ r.tier = l) from fun g => hk g.1.2), Nat.add_zero]
                exact ite_congr_iff (by simp [hk]) rfl rfl
            dsimp only
            split
            · next ht =>
              refine h.listChanged (.mono (State.subResult_touches (G := messageViews) ..) (View.subset_of
                (by decide +kernel))) hr longer fun c k l hl => ?_
              rw [(State.subResult_touches (G := messageViews) ..).counts, share, hit_watches _ _ _ { r with subs := [j] },
                if_neg fun g => hl (g.2.symm.trans ht)]
              rfl
            · refine h.listChanged (.trans (State.joinCounts_touches ..) (.trans (State.recompute_touches ..)
                (State.subResult_touches ..))) hr longer fun c k l hl => ?_
              have joined := State.at_joinCounts (s := s.putStation i { r with subs := r.subs ++ [j] }) h.fan
                { r with subs := [j] } (List.pairwise_singleton _ _) c k hl
              have rest (v : State) : ((v.recompute j).subResult x i n .ok).counts c k = v.counts c k :=
                ((State.recompute_touches (G := .demand :: .portV :: messageViews) v j).trans
                  (State.subResult_touches ..)).counts c k
              rw [rest, share]
              refine (congrArg (· + _) joined).trans ?_
              rw [Nat.add_assoc, Nat.add_comm (hit _ (some r))]
              rfl

theorem State.FanoutLaw.unsubscribe {s : State} (h : s.FanoutLaw) (x : CellId) (i : StationIx) (r : Station) (n : Nat)
    (hr : s.station? i = some r) : (s.unsubscribe x i r n).FanoutLaw := by
  have answered (e : SubResult) : (s.subResult x i n e).FanoutLaw := h.told (State.subResult_touches ..)
  unfold State.unsubscribe
  split
  · exact answered _
  · split
    · exact answered _
    · next j _ =>
      split
      · next hj =>
        obtain ⟨nodup, length, listed⟩ := h.listed hr
        have shorter : s.Listed (r.subs.filter (· ≠ j)) :=
          ⟨nodup.filter _, Nat.le_trans (List.length_filter_le ..) length, fun k hk => listed k (List.mem_filter.1 hk).1⟩
        have share (c : CellId) (k : StreamId) (l : Level) : hit (Station.watches c k l) (some r) =
            hit (Station.watches c k l) (some { r with subs := r.subs.filter (· ≠ j) }) +
              hit (Station.watches c k l) (some { r with subs := [j] }) := by
          simp only [hit_watches, List.mem_filter, List.mem_singleton, decide_eq_true_eq]
          by_cases hk : k = j
          · subst hk
            rw [if_neg (show ¬ ((c = r.cell ∧ k ∈ r.subs ∧ k ≠ k) ∧ r.tier = l) from fun g => g.1.2.2 rfl), Nat.zero_add]
            exact ite_congr_iff (by simp [hj]) rfl rfl
          · rw [if_neg (show ¬ ((c = r.cell ∧ k = j) ∧ r.tier = l) from fun g => hk g.1.2), Nat.add_zero]
            exact ite_congr_iff (by simp [hk]) rfl rfl
        dsimp only
        split
        · next ht =>
          refine h.listChanged (.mono (State.subResult_touches (G := messageViews) ..) (View.subset_of
            (by decide +kernel))) hr shorter fun c k l hl => ?_
          rw [(State.subResult_touches (G := messageViews) ..).counts, share c k l, hit_watches _ _ _ { r with subs := [j] },
            if_neg fun g => hl (g.2.symm.trans ht)]
          rfl
        · refine h.listChanged (.trans (State.leaveCounts_touches ..) (.trans (State.recompute_touches ..)
            (State.subResult_touches ..))) hr shorter fun c k l hl => ?_
          have left := State.at_leaveCounts (s := s.putStation i { r with subs := r.subs.filter (· ≠ j) }) h.fan
            { r with subs := [j] } (List.pairwise_singleton _ _) c k hl
          have rest (v : State) : ((v.recompute j).subResult x i n .ok).counts c k = v.counts c k :=
            ((State.recompute_touches (G := .demand :: .portV :: messageViews) v j).trans
              (State.subResult_touches ..)).counts c k
          have le := h.hit_le i c k hl
          rw [hr] at le
          rw [rest]
          refine (congrArg (· + _) left).trans ?_
          have same : (s.putStation i { r with subs := r.subs.filter (· ≠ j) }).counts c k = s.counts c k := rfl
          have whole := share c k l
          rw [same]
          omega
      · exact answered _

theorem fanoutLaw_rules : StationRules (.stream .state :: fanLawViews) State.FanoutLaw where
  quiet t ha h := h.quiet t ha
  portW := by decide +kernel
  noted s i r q h hr hq := h.quiet (s.noted_touches (hr h.stations) hq) (by decide +kernel)
  append s t m h := h.told (State.append_touches s t m)
  taken s t h := h.quiet (s.taken_touches (G := _) t (fun _ => id)) (by decide +kernel)
  remove _ i c h := h.remove i c
  completeRoam _ i r m h hr _ := h.completeRoam i r m hr
  create _ x a i h _ hi := h.create x a i (hi h.stations)
  startRoam _ x i r h _ hr _ _ := h.startRoam x i r (hr h.stations)
  present _ x i k h := h.present x i k
  subscribe _ x i r n h hr := h.subscribe x i r n hr
  unsubscribe _ x i r n h hr := h.unsubscribe x i r n hr

end Sys2Proof.Machine
end


section
/-! PROOF. A law that rests on the replay queues or the streams is kept by the rows of the trunks and frames when the
flush of a queue, the sending of a chunk and the start of a multiframe keep it. -/
namespace Sys2Proof.Machine

/-- What the rows of the trunks and frames change beside replay queues, allocations and descriptors. -/
abbrev trunkAside : List View := [.trunks, .trunk .state, .trunk .enable, .trunk .autoWake, .trunk .idlePeriod,
  .trunk .markCarriage, .trunk .rmin, .trunk .flags, .trunk .good, .trunk .bad, .trunk .entry, .trunk .idle,
  .trunk .nextFrame, .trunk .mfTaken, .trunk .markField, .trunk .awaiting, .trunk .polled, .trunk .marker,
  .trunk .fails, .trunk .echo, .trunk .ack, .trunk .holdSent, .trunk .intake, .trunk .pollList, .trunk .regular,
  .trunk .urgent, .trunk .control, .trunk .frame, .demand, .portW, .portV] ++ statusViews

/-- **A law that rests on the views `V` is kept by the operations that move descriptors on the trunks.** -/
structure TrunkRules (V : List View) (P : State → Prop) : Prop where
  quiet : ∀ {F : List View} {s u : State}, s.Touches F u → View.apart V F = true → P s → P u
  aside : View.apart V trunkAside = true
  bare : ∀ s t r, P s → r.replay = (s.trunk t).replay → r.allocation = none → P (s.setTrunk t r)
  flush : ∀ s t, P s → P (s.flushReplay t)
  chunk : ∀ s t a e, P s → (s.trunk t).allocation = some a → some e ∈ a.plan → P (s.sendChunk t e).1
  start : ∀ s t, P s → P (s.startMultiframe t)

/-- A command that names a trunk keeps what its rule for that trunk keeps. -/
theorem onTrunk_keeps {P : State → Prop} (b : List Byte) (s : State) (f : TrunkId → Answer)
    (hs : P s) (h : ∀ t, P (f t).state) : P (onTrunk b s f).state := by
  unfold onTrunk
  split
  · exact hs
  · exact h _

namespace TrunkRules
variable {V : List View} {P : State → Prop}

theorem idle (R : TrunkRules V P) {F : List View} {s u : State} (t : s.Touches F u) (h : P s)
    (hF : F ⊆ trunkAside := by exact View.subset_of (by decide +kernel)) : P u :=
  R.quiet (t.mono hF) R.aside h

theorem noted (R : TrunkRules V P) {s : State} (h : P s) (t : TrunkId) (a b : TrunkState) (why : TrunkReason) :
    P (s.trunkNotice t a b why) :=
  R.idle (State.trunkNotice_touches (G := [.portW]) s t a b why) h

/-- A trunk's record written with the replay queue and the allocation it had. -/
theorem written (R : TrunkRules V P) {s : State} (h : P s) (t : TrunkId) (r : Trunk)
    (hr : ∀ x, View.trunk x ∉ trunkAside → r.view x = (s.trunk t).view x) : P (s.setTrunk t r) :=
  R.idle (State.setTrunk_touches (G := trunkAside) s t r hr (View.mem_of (by decide +kernel))) h

theorem quitTrunk (R : TrunkRules V P) {s : State} (h : P s) (t : TrunkId) (dest : TrunkState) (entry : Option Time) :
    P (s.quitTrunk t dest entry) := by
  have quit : P (s.setTrunk t ((s.trunk t).quit dest entry)) := R.bare s t _ h rfl rfl
  have unheard : P ((s.setTrunk t ((s.trunk t).quit dest entry)).unhearCells t) :=
    R.idle (State.unhearCells_touches (G := unhearViews) ..) quit
  unfold State.quitTrunk
  dsimp only
  split
  · exact R.idle (State.recomputeAll_touches (G := [.demand, .portV]) _) (R.flush _ t unheard)
  · exact unheard
  all_goals exact quit

theorem disable (R : TrunkRules V P) {s : State} (h : P s) (t : TrunkId) : P (s.disable t) := by
  unfold State.disable
  split
  · exact h
  all_goals exact R.written (R.quitTrunk h ..) t _ fun x hx => by cases x <;> simp at hx <;> rfl

theorem enable (R : TrunkRules V P) {s : State} (h : P s) (t : TrunkId) : P (s.enable t) :=
  R.idle (State.enable_touches (G := [.trunks, .trunk .state]) s t) h

theorem standDown (R : TrunkRules V P) {s : State} (h : P s) (t : TrunkId) : P (s.standDown t) := by
  unfold State.standDown
  split
  · exact h
  · exact h
  all_goals exact R.quitTrunk h ..

theorem enterLost (R : TrunkRules V P) {s : State} (h : P s) (t : TrunkId) : P (s.enterLost t) := by
  have lost : P (s.setTrunk t { s.trunk t with
      state := .lost, entry := some s.now, good := 0, bad := 2, allocation := none, idle := none }) :=
    R.bare s t _ h rfl rfl
  exact R.idle (State.recomputeAll_touches (G := [.demand, .portV]) _)
    (R.idle (State.raiseFlag_touches (G := [.portW, .trunks, .trunk .flags]) ..) (R.noted (R.flush _ t lost) ..))

/-! ### The commands of the trunks -/

theorem trunkSet (R : TrunkRules V P) {s : State} (h : P s) (b : List Byte) : P (trunkSetRule b s).state := by
  refine onTrunk_keeps b s _ h fun t => ?_
  split
  · next en aw mc _ _ _ =>
    have stored : P ((s.setTrunk t ((s.trunk t).store s.now en aw (min 3600 (numAt b 4 2)) mc
        (min 320 (numAt b 8 2)))).idleUpdate t) :=
      R.idle ((State.store_touches (G := storeViews) ..).trans (State.idleUpdate_touches ..)) h
    dsimp only
    split
    · exact R.enable stored t
    · exact R.disable stored t
  · exact h

theorem trunkStandby (R : TrunkRules V P) {s : State} (h : P s) (b : List Byte) : P (trunkStandbyRule b s).state := by
  refine onTrunk_keeps b s _ h fun t => ?_
  split
  · exact h
  all_goals exact R.standDown h t

theorem trunkReset (R : TrunkRules V P) {s : State} (h : P s) (b : List Byte) : P (trunkResetRule b s).state := by
  refine onTrunk_keeps b s _ h fun t => ?_
  split
  · exact h
  all_goals exact R.written (R.standDown h t) t _ fun x hx => by cases x <;> simp at hx <;> rfl

/-! ### The events of the trunks -/

theorem upstreamSignalDetected (R : TrunkRules V P) {t : TrunkId} {s u : State} (h : P s)
    (hx : exec (.upstreamSignalDetected t) s = .next u) : P u := by
  change execUpstreamSignalDetected t s = _ at hx
  refine live_keeps hx h ?_
  split
  · exact R.noted (R.bare s t { (s.trunk t).stopFraming with state := .aligning, entry := some s.now, good := 0 } h rfl
      rfl) ..
  all_goals exact h

theorem wakeTimeout (R : TrunkRules V P) {t : TrunkId} {s u : State} (h : P s)
    (hx : exec (.wakeTimeout t) s = .next u) : P u := by
  change execWakeTimeout t s = _ at hx
  refine live_keeps hx h ?_
  split
  · split
    · exact R.noted (R.quitTrunk h ..) ..
    · exact h
  all_goals exact h

theorem alignTimeout (R : TrunkRules V P) {t : TrunkId} {s u : State} (h : P s)
    (hx : exec (.alignTimeout t) s = .next u) : P u := by
  change execAlignTimeout t s = _ at hx
  refine live_keeps hx h ?_
  split
  · split
    · exact R.noted (R.quitTrunk h ..) ..
    · exact h
  all_goals exact h

theorem lostGiveUp (R : TrunkRules V P) {t : TrunkId} {s u : State} (h : P s)
    (hx : exec (.lostGiveUp t) s = .next u) : P u := by
  change execLostGiveUp t s = _ at hx
  refine live_keeps hx h ?_
  split
  · split
    · exact R.noted (R.quitTrunk h ..) ..
    · exact h
  all_goals exact h

theorem idleTimerExpiry (R : TrunkRules V P) {t : TrunkId} {s u : State} (h : P s)
    (hx : exec (.idleTimerExpiry t) s = .next u) : P u := by
  change execIdleTimerExpiry t s = _ at hx
  refine live_keeps hx h ?_
  split
  · split
    · exact R.noted (R.quitTrunk h ..) ..
    · exact h
  all_goals exact h

/-! ### Frames -/

theorem fillSlot (R : TrunkRules V P) {s : State} (h : P s) (t : TrunkId) (n : Nat) : P (s.fillSlot t n).1 := by
  unfold State.fillSlot
  split
  · exact h
  · next a ha =>
    split
    · unfold State.fillControl
      dsimp only
      split
      · exact h
      · exact R.written h t _ fun x hx => by cases x <;> simp at hx <;> rfl
    · split
      · split
        · next e he => exact R.chunk s t a e h ha (List.mem_of_getElem? he)
        · exact h
        · exact h
      · exact h

theorem fillSlots (R : TrunkRules V P) (t : TrunkId) (left : Nat) :
    ∀ {s : State} (n : Nat), P s → P (s.fillSlots t n left).1 := by
  induction left with
  | zero => exact fun _ h => h
  | succ left ih => exact fun n h => ih (n + 1) (R.fillSlot h t n)

theorem sendServing (R : TrunkRules V P) {s : State} (h : P s) (t : TrunkId) : P (s.sendServing t) := by
  have chosen : P (s.setTrunk t (s.choosePoll t).1) :=
    R.written h t _ fun x hx => State.choosePoll_view s t x (by rintro rfl; simp at hx) (by rintro rfl; simp at hx)
  exact R.idle (State.setSent_touches (G := sentViews) ..) (R.fillSlots t _ _ chosen)

theorem frameStart (R : TrunkRules V P) {t : TrunkId} {s u : State} (h : P s)
    (hx : exec (.frameStart t) s = .next u) : P u := by
  have sent {v : State} (hv : P v) : P (v.sendFrame t) := by
    unfold State.sendFrame
    split
    · exact R.idle (State.setSent_touches (G := sentViews) v t _) hv
    · exact R.sendServing hv t
    · exact R.sendServing hv t
    all_goals exact hv
  change execFrameStart t s = _ at hx
  refine live_keeps hx h ?_
  split
  · refine sent ?_
    split
    · exact R.start s t h
    · exact h
  · exact h

theorem multiframeStart (R : TrunkRules V P) {t : TrunkId} {s u : State} (h : P s)
    (hx : exec (.multiframeStart t) s = .next u) : P u := by
  change execMultiframeStart t s = _ at hx
  refine live_keeps hx h ?_
  split
  · exact R.start s t h
  · exact h

theorem judge (R : TrunkRules V P) {s : State} (h : P s) (t : TrunkId) : P (s.judge t) := by
  have good (n : Nat) : P (s.setTrunk t { s.trunk t with good := n }) :=
    R.written h t _ fun x hx => by cases x <;> simp at hx <;> rfl
  have active {v : State} (hv : P v) (why : TrunkReason) : P (v.enterActive t why) :=
    R.idle (State.enterActive_touches (G := activeViews) v t why) hv
  have bad (n : Nat) : P (s.setTrunk t { s.trunk t with bad := n }) :=
    R.written h t _ fun x hx => by cases x <;> simp at hx <;> rfl
  unfold State.judge
  split
  · unfold State.judgedGood
    dsimp only
    split
    · split
      · exact good 1
      · exact active (good 2) _
    · split
      · exact good 1
      · exact active (good 2) _
    · exact bad 0
    all_goals exact h
  · unfold State.judgedBad
    dsimp only
    split
    · exact good 0
    · exact good 0
    · split
      · exact bad 1
      · exact R.enterLost h t
    all_goals exact h

theorem upstreamFrame (R : TrunkRules V P) {t : TrunkId} {f : UpFrame} {s u : State} (h : P s)
    (hx : exec (.upstreamFrameReceived t f) s = .next u) : P u := by
  change execUpstreamFrameReceived t f s = _ at hx
  refine live_keeps hx h ?_
  split
  · have settled := R.idle (State.settleFrame_touches (G := settleViews) s t f) h
    have tallied : P ((s.settleFrame t f).setTrunk t (((s.settleFrame t f).trunk t).tally f)) :=
      R.written settled t _ fun x hx => by cases x <;> simp at hx <;> rfl
    unfold State.takeUpstream
    dsimp only
    split
    · exact R.judge tallied t
    · exact tallied
  · exact h

end TrunkRules

end Sys2Proof.Machine
end


section
/-! PROOF. The law of the fan-out counts (R141) through the withdrawal of a stream, the replay side and every step. -/
namespace Sys2Proof.Machine

/-! ### Streams that stay OPEN -/

/-- Every stream that was OPEN is OPEN. -/
structure State.OpenKept (s u : State) : Prop where
  opened : ∀ k, (s.stream k).state = .opened → (u.stream k).state = .opened

namespace State.OpenKept
variable {s u v : State}

theorem refl (s : State) : s.OpenKept s := ⟨fun _ h => h⟩

theorem trans (h : s.OpenKept u) (g : u.OpenKept v) : s.OpenKept v :=
  ⟨fun k hk => g.opened k (h.opened k hk)⟩

theorem of_touches {F : List View} (t : s.Touches F u)
    (hF : View.stream .state ∉ F := by exact View.not_mem_of (by decide +kernel)) : s.OpenKept u :=
  ⟨fun k hk => (t.stream .state k hF).trans hk⟩

theorem each {α : Type} {f : State → α → State} {xs : List α} (h : ∀ s x, State.OpenKept s (f s x)) (s : State) :
    s.OpenKept (s.each xs f) :=
  State.each_keeps s.OpenKept f xs s (fun u x _ hu => hu.trans (h u x)) (refl s)

end State.OpenKept

theorem State.openKept_setStream {s : State} {k : StreamId} {r : Stream}
    (h : (s.stream k).state = .opened → r.state = .opened) : s.OpenKept (s.setStream k r) := by
  refine ⟨fun j hj => ?_⟩
  rw [State.stream_setStream]
  split
  · next e => exact h (e ▸ hj)
  · exact hj

theorem State.openKept_endDrain (s : State) (k : StreamId) : s.OpenKept (s.endDrain k) := by
  unfold State.endDrain
  dsimp only
  split
  · next hd =>
    refine (State.openKept_setStream fun ho => ?_).trans (.of_touches (State.notify_touches (G := [.portV]) _ .V _
      (View.mem_of rfl)))
    rw [hd.1] at ho
    cases ho
  · exact .refl s

theorem State.openKept_freeDesc (s : State) (d : DescIx) : s.OpenKept (s.freeDesc d) := by
  unfold State.freeDesc
  split
  · exact .refl s
  · exact (State.OpenKept.of_touches (State.freeCore_touches (G := [.descs, .used, .streams, .stream .inUse]) s d)).trans
      (State.openKept_endDrain ..)

theorem State.openKept_unlink (s : State) (t : TrunkId) (d : DescIx) : s.OpenKept (s.unlink t d) := by
  refine (State.OpenKept.of_touches (State.setUnlinked_touches (G := [.trunks, .trunk .replay, .trunk .allocation]) s t
    d)).trans ?_
  unfold State.unlink
  dsimp only
  split
  · exact .refl _
  · split
    · have put (w : State) (r : Desc) : w.OpenKept (w.putDesc d r) := ⟨fun _ h => h⟩
      split
      · exact (put _ _).trans (State.openKept_freeDesc ..)
      · exact put _ _
    · exact .refl _
    · exact .refl _

theorem State.openKept_releaseDesc (s : State) (d : DescIx) : s.OpenKept (s.releaseDesc d) := by
  unfold State.releaseDesc
  split
  · exact .refl s
  · dsimp only
    split
    · refine .trans ?_ (State.openKept_freeDesc _ d)
      exact State.openKept_setStream fun h => h
    · refine State.OpenKept.trans (u := s.putDesc d _) ⟨fun _ h => h⟩ (.each (fun s t => ?_) _)
      exact .of_touches (State.setReplay_touches (G := [.trunks, .trunk .replay]) ..)

theorem State.openKept_markEvent (s : State) : s.OpenKept s.markEvent := by
  have bumped : s.OpenKept s.bumpMark := ⟨fun _ h => h⟩
  refine bumped.trans (.trans (.each (fun s d => ?_) _) (.each (fun s d => ?_) _))
  · exact .trans (u := { s with release := s.release.filter (· ≠ d) }) ⟨fun _ h => h⟩ (State.openKept_releaseDesc ..)
  · unfold State.flushStale
    split
    · exact .refl s
    · exact .trans (.of_touches (State.notify_touches (G := [.portV]) _ .V _ (View.mem_of rfl)))
        (.each (fun s t => State.openKept_unlink ..) _)

theorem State.openKept_freeHeld (s : State) (k : StreamId) : s.OpenKept (s.freeHeld k) :=
  .each (fun s d => .trans (u := { s with release := s.release.filter (· ≠ d) }) ⟨fun _ h => h⟩
    (State.openKept_freeDesc ..)) s

theorem State.openKept_freeUpload (s : State) (k : StreamId) : s.OpenKept (s.freeUpload k) := by
  unfold State.freeUpload
  split
  · exact State.openKept_freeDesc ..
  · exact .refl s

/-! ### The withdrawal of a stream -/

/-- No list holds a stream. -/
structure State.Unlisted (s : State) (k : StreamId) : Prop where
  lists : ∀ i r, s.station? i = some r → k ∉ r.subs

theorem State.Unlisted.of_touches {F : List View} {s u : State} {k : StreamId} (t : s.Touches F u)
    (hF : View.station .subs ∉ F := by exact View.not_mem_of (by decide +kernel)) (h : s.Unlisted k) : u.Unlisted k := by
  refine ⟨fun i r hr => ?_⟩
  have subs := t.station .subs i hF
  rw [hr] at subs
  obtain ⟨q, hq, hs⟩ := Option.map_eq_some_iff.1 subs.symm
  have same : q.subs = r.subs := hs
  rw [← same]
  exact h.lists i q hq

/-- A stream that no list holds may leave OPEN. -/
theorem State.FanoutLaw.leaveOpen {s : State} (h : s.FanoutLaw) {k : StreamId} (hk : s.Unlisted k) (x : StreamState) :
    (s.setStream k { s.stream k with state := x }).FanoutLaw := by
  refine ⟨h.stations, h.fan, fun i r hr => ?_, h.counts⟩
  obtain ⟨nodup, length, listed⟩ := h.lists i r hr
  refine ⟨nodup, length, fun j hj => ?_⟩
  rw [State.stream_setStream, if_neg (show ¬ j = k from fun e => hk.lists i r hr (e ▸ hj))]
  exact listed j hj

/-- The record of a key in a table filtered by its keys. -/
theorem assocGet_filter {α : Type} (l : List (Nat × α)) (p : Nat → Bool) (i : Nat) :
    assocGet (l.filter fun e => p e.1) i = if p i then assocGet l i else none := by
  induction l with
  | nil => simp [assocGet]
  | cons e l ih =>
    rw [List.filter_cons]
    by_cases he : p e.1 = true
    · rw [if_pos he, assocGet, assocGet, ih]
      split
      · next hi => rw [← hi, if_pos he]
      · rfl
    · rw [if_neg he, ih, assocGet]
      by_cases hi : e.1 = i
      · rw [← hi, if_neg he, if_neg he]
      · rw [if_neg hi]

/-- A withdrawn stream is counted nowhere, another is counted as before. -/
theorem State.counts_dropSubscribers (s : State) (k : StreamId) (c : CellId) (j : StreamId) :
    (s.dropSubscribers k).counts c j = if j = k then ⟨0, 0⟩ else s.counts c j := by
  have key : fanKey c j % 16 = j.val := by
    have := j.isLt
    unfold fanKey
    omega
  have read : (s.dropSubscribers k).fan.get? (fanKey c j) = _ :=
    assocGet_filter s.fan.entries (fun n => decide (n % 16 ≠ k.val)) (fanKey c j)
  rw [State.counts, read, key]
  by_cases hj : j = k
  · rw [if_pos hj, hj, if_neg (by simp)]
    rfl
  · rw [if_neg hj, if_pos (by simpa [Fin.ext_iff] using hj)]
    rfl

theorem State.FanoutLaw.dropSubscribers {s : State} (h : s.FanoutLaw) (k : StreamId) :
    (s.dropSubscribers k).FanoutLaw := by
  have touched := s.dropSubscribers_touches k (G := [.stations, .station .subs, .fan])
  refine .of_at (touched.canon .stations h.stations) (touched.canon .fan h.fan) (fun i r hr => ?_) fun c j l hl => ?_
  · rw [State.station?_dropSubscribers] at hr
    obtain ⟨q, hq, rfl⟩ := Option.map_eq_some_iff.1 hr
    obtain ⟨nodup, length, listed⟩ := h.lists i q hq
    exact ⟨nodup.filter _, Nat.le_trans (List.length_filter_le ..) length, fun k hk => listed k (List.mem_filter.1 hk).1⟩
  · rw [State.counts_dropSubscribers]
    by_cases hj : j = k
    · have unseen (r : Station) : Station.watches c j l (r.dropStream k) = false := by
        rw [Bool.eq_false_iff, Station.watches, ne_eq, Bool.and_eq_true, List.contains_iff_mem]
        exact fun g => of_decide_eq_true (List.mem_filter.1 g.2).2 hj
      rw [if_pos hj, State.stationsWith_zero (touched.canon .stations h.stations) fun i r hr => ?_]
      · cases l <;> rfl
      · rw [State.station?_dropSubscribers] at hr
        obtain ⟨q, -, rfl⟩ := Option.map_eq_some_iff.1 hr
        exact unseen q
    · have seen (r : Station) : Station.watches c j l (r.dropStream k) = Station.watches c j l r := by
        have same : (r.dropStream k).subs.contains j = r.subs.contains j := by
          rw [Bool.eq_iff_iff, List.contains_iff_mem, List.contains_iff_mem]
          exact List.mem_filter.trans (and_iff_left (decide_eq_true hj))
        rw [Station.watches, same]
        rfl
      rw [if_neg hj, h.at c j hl]
      refine (State.stationsWith_congr h.stations (touched.canon .stations h.stations) fun i => ?_).symm
      rw [State.station?_dropSubscribers, Option.map_map]
      exact congrArg (fun f => Option.map f (s.station? i)) (funext fun r => (seen r).symm)

theorem State.withdraw_rest (s : State) (k : StreamId) :
    State.Touches (.demand :: .portV :: messageViews) (s.dropSubscribers k) (s.withdraw k) :=
  .trans (State.recompute_touches ..) (.each (fun s t => State.tellAll_touches ..) _)

theorem State.FanoutLaw.withdraw {s : State} (h : s.FanoutLaw) (k : StreamId) : (s.withdraw k).FanoutLaw :=
  (h.dropSubscribers k).quiet (s.withdraw_rest k) (by decide +kernel)

theorem State.unlisted_withdraw (s : State) (k : StreamId) : (s.withdraw k).Unlisted k := by
  refine State.Unlisted.of_touches (s.withdraw_rest k) (h := ⟨fun i r hr => ?_⟩)
  rw [State.station?_dropSubscribers] at hr
  obtain ⟨q, -, rfl⟩ := Option.map_eq_some_iff.1 hr
  exact fun hk => of_decide_eq_true (List.mem_filter.1 hk).2 rfl

theorem State.FanoutLaw.startDrain {s : State} (h : s.FanoutLaw) {k : StreamId} (hk : s.Unlisted k) :
    (s.startDrain k).FanoutLaw := by
  unfold State.startDrain
  have started := h.leaveOpen hk .draining
  generalize s.setStream k _ = w at started ⊢
  exact started.of_touches (State.endDrain_touches (G := freeViews) w k) (by decide +kernel) (w.openKept_endDrain k).opened

theorem State.FanoutLaw.closeStream {s : State} (h : s.FanoutLaw) (k : StreamId) : (s.closeStream k).FanoutLaw := by
  have freed : State.Touches (.release :: freeViews) (s.withdraw k) (((s.withdraw k).freeUpload k).freeHeld k) :=
    .trans (State.freeUpload_touches ..) (State.freeHeld_touches ..)
  have kept := (State.openKept_freeUpload (s.withdraw k) k).trans (State.openKept_freeHeld _ k)
  have unlisted := State.Unlisted.of_touches freed (h := s.unlisted_withdraw k)
  unfold State.closeStream
  exact ((h.withdraw k).of_touches freed (by decide +kernel) kept.opened).startDrain unlisted

theorem State.FanoutLaw.withdrawClosed {s : State} (h : s.FanoutLaw) (k : StreamId) : (s.withdrawClosed k).FanoutLaw :=
  (h.withdraw k).leaveOpen (s.unlisted_withdraw k) .closed

theorem State.FanoutLaw.closeDraining {s : State} (h : s.FanoutLaw) (k : StreamId) : (s.closeDraining k).FanoutLaw := by
  unfold State.closeDraining
  split
  · next hd =>
    refine h.of_touches (State.setStreamState_touches (G := [.streams, .stream .state]) ..) (by decide +kernel)
      (State.openKept_setStream fun ho => ?_).opened
    rw [hd] at ho
    cases ho
  all_goals exact h

/-! ### The replay side -/

theorem fanoutLaw_trunkRules : TrunkRules (.stream .state :: fanLawViews) State.FanoutLaw where
  quiet t ha h := h.quiet t ha
  aside := by decide +kernel
  bare s t r h _ _ := ⟨h.stations, h.fan, h.lists, h.counts⟩
  flush s t h := h.of_touches (State.flushReplay_touches (G := unlinkViews) s t) (by decide +kernel)
    (State.OpenKept.each (fun s d => State.openKept_unlink s t d) s).opened
  chunk s t a e h _ _ := by
    unfold State.sendChunk
    split
    · exact h
    · split
      · exact h
      · exact h
      · have put (r : Desc) : (s.putDesc e.desc r).FanoutLaw := ⟨h.stations, h.fan, h.lists, h.counts⟩
        dsimp only
        split
        · exact (put _).of_touches (State.unlink_touches (G := unlinkViews) ..) (by decide +kernel)
            (State.openKept_unlink ..).opened
        · exact put _
  start s t h := ⟨h.stations, h.fan, h.lists, h.counts⟩

theorem State.FanoutLaw.freeDesc {s : State} (h : s.FanoutLaw) (d : DescIx) : (s.freeDesc d).FanoutLaw :=
  h.of_touches (State.freeDesc_touches (G := freeViews) s d) (by decide +kernel) (s.openKept_freeDesc d).opened

theorem State.FanoutLaw.markEvent {s : State} (h : s.FanoutLaw) : s.markEvent.FanoutLaw :=
  h.of_touches (State.markEvent_touches (G := markViews) s) (by decide +kernel) s.openKept_markEvent.opened

/-- A command that names a stream keeps what its rule for that stream keeps. -/
theorem onStream_keeps {P : State → Prop} (b : List Byte) (s : State) (f : StreamId → Answer) (hs : P s)
    (h : ∀ k, P (f k).state) : P (onStream b s f).state := by
  unfold onStream
  split
  · exact hs
  · exact h _

theorem State.FanoutLaw.segEnd {s : State} (h : s.FanoutLaw) (b : List Byte) : (segEndRule b s).state.FanoutLaw := by
  refine onStream_keeps b s _ h fun k => ?_
  split
  · exact h
  · next d r n _ =>
    split
    · exact h
    · have ended : (s.setStream k { s.stream k with lastSeq := some r.sequence }).FanoutLaw :=
        h.quiet (State.setStream_touches (G := [.streams, .stream .lastSeq]) s k _
          (fun x hx => by cases x <;> simp at hx <;> rfl) (View.mem_of rfl)) (by decide +kernel)
      dsimp only
      split
      · exact ended.freeDesc d
      · split
        · exact ended.of_touches (State.releaseDesc_touches (G := releaseViews) ..) (by decide +kernel)
            (State.openKept_releaseDesc ..).opened
        · exact ⟨ended.stations, ended.fan, ended.lists, ended.counts⟩

theorem State.FanoutLaw.clearSegments {s : State} (h : s.FanoutLaw) : s.clearSegments.FanoutLaw := by
  unfold State.clearSegments
  refine State.each_keeps State.FanoutLaw State.freeCore _ _ (fun s d _ hs => hs.quiet
    (State.freeCore_touches (G := [.descs, .used, .streams, .stream .inUse]) s d) (by decide +kernel)) ?_
  have queues := State.each_keeps State.FanoutLaw (fun s t => s.setTrunk t (s.trunk t).clearReplay) allTrunks s
    (fun _ _ _ hs => ⟨hs.stations, hs.fan, hs.lists, hs.counts⟩) h
  exact queues.quiet (State.setRelease_touches (G := [.release]) _ []) (by decide +kernel)

theorem State.FanoutLaw.replayClear {s : State} (h : s.FanoutLaw) (b : List Byte) :
    (replayClearRule b s).state.FanoutLaw := by
  unfold replayClearRule
  dsimp only
  exact State.each_keeps State.FanoutLaw State.closeDraining allStreams _ (fun _ k _ hs => hs.closeDraining k)
    (State.each_keeps State.FanoutLaw State.withdrawClosed _ _ (fun _ k _ hs => hs.withdrawClosed k) h.clearSegments)

/-! ### The commands and the events -/

/-- Cells are no part of the law. -/
theorem State.FanoutLaw.cellSet {s : State} (h : s.FanoutLaw) (b : List Byte) : (cellSetRule b s).state.FanoutLaw := by
  have put (c : CellId) (x : Cell) : State.FanoutLaw { s with cells := s.cells.put c x } :=
    ⟨h.stations, h.fan, h.lists, h.counts⟩
  unfold cellSetRule
  dsimp only
  split
  · exact h
  · split
    · exact put ..
    · unfold State.rewriteCell
      dsimp only
      split
      · exact put ..
      · exact State.each_keeps State.FanoutLaw _ _ _ (fun s i _ hs => hs.resettle ..) (put ..)
    · exact h
    · split
      · exact h
      · exact ⟨h.stations, h.fan, h.lists, h.counts⟩

theorem fanoutLaw_gate {s : State} (h : s.FanoutLaw) (k : Token) (t : Ticket) (i : StationIx) :
    (s.putTicket k t).FanoutLaw ∧ ((s.putTicket k t).unbindStation i).FanoutLaw := by
  have put : (s.putTicket k t).FanoutLaw := ⟨h.stations, h.fan, h.lists, h.counts⟩
  exact ⟨put, put.unbindStation i⟩

theorem fanoutLaw_rule (c : Command) (b : List Byte) (s : State)
    (hc : View.apart (.stream .state :: fanLawViews) (Command.footprint c) = false) (h : s.FanoutLaw) :
    (c.rule b s).state.FanoutLaw := by
  cases c with
  | cellSet => exact h.cellSet b
  | stationDetach => exact fanoutLaw_rules.stationDetach h b
  | stationClear => exact fanoutLaw_rules.stationClear h b
  | trunkSet => exact fanoutLaw_trunkRules.trunkSet h b
  | trunkStandby => exact fanoutLaw_trunkRules.trunkStandby h b
  | trunkReset => exact fanoutLaw_trunkRules.trunkReset h b
  | gateAdmit =>
    refine onTicket_keeps b s _ h fun k t _ => ?_
    split
    · exact (fanoutLaw_gate h k _ 0).1
    · exact (fanoutLaw_gate h k _ 0).1
    · exact h
    · split
      · exact (fanoutLaw_gate h ..).2
      · exact h
    · exact h
  | gateExit =>
    refine onTicket_keeps b s _ h fun k t _ => ?_
    split
    · exact (fanoutLaw_gate h k _ 0).1
    · exact (fanoutLaw_gate h ..).2
    all_goals exact h
  | ticketVoid =>
    refine onTicket_keeps b s _ h fun k t _ => ?_
    split
    · exact (fanoutLaw_gate h ..).2
    · exact (fanoutLaw_gate h k _ 0).1
    · exact (fanoutLaw_gate h k _ 0).1
    · exact (fanoutLaw_gate h k _ 0).1
    · exact h
  | ticketClear =>
    have unbound := State.each_keeps State.FanoutLaw State.unbindStation s.boundStations s
      (fun s i _ hs => hs.unbindStation i) h
    exact ⟨unbound.stations, unbound.fan, unbound.lists, unbound.counts⟩
  | streamOpen =>
    refine onStream_keeps b s _ h fun k => ?_
    split
    · exact h.of_touches (State.setStream_touches (G := [.streams, .stream .state, .stream .lastSeq, .stream .unwatched])
        s k _ (fun x hx => by cases x <;> simp at hx <;> rfl) (View.mem_of rfl)) (by decide +kernel)
        (State.openKept_setStream fun _ => rfl).opened
    all_goals exact h
  | streamClose =>
    refine onStream_keeps b s _ h fun k => ?_
    split
    · dsimp only
      exact h.closeStream k
    all_goals exact h
  | segEnd => exact h.segEnd b
  | segAbort =>
    refine onStream_keeps b s _ h fun k => ?_
    split
    · exact h
    · next d _ _ _ => exact h.freeDesc d
  | mark =>
    change (markRule b s).state.FanoutLaw
    unfold markRule
    split
    · dsimp only
      exact h.markEvent
    · exact h
  | replayClear => exact h.replayClear b
  | _ => exact absurd hc (by decide +kernel)

theorem fanoutLaw_event (i : Instr) (s u : State) (hc : portCommand i = none) (hd : i ≠ .deviceReset)
    (hl : i ≠ .resetLineAsserted)
    (ha : View.apart (.stream .state :: fanLawViews) (rowFootprint i) = false) (h : s.FanoutLaw)
    (hx : exec i s = .next u) : u.FanoutLaw := by
  cases i with
  | deviceReset => exact absurd rfl hd
  | resetLineAsserted => exact absurd rfl hl
  | reportTake => exact fanoutLaw_rules.reportTake h hx
  | roamTimeout i => exact fanoutLaw_rules.roamTimeout h hx
  | ageExpiry i => exact fanoutLaw_rules.ageExpiry h hx
  | wakeTimeout t => exact fanoutLaw_trunkRules.wakeTimeout h hx
  | alignTimeout t => exact fanoutLaw_trunkRules.alignTimeout h hx
  | lostGiveUp t => exact fanoutLaw_trunkRules.lostGiveUp h hx
  | idleTimerExpiry t => exact fanoutLaw_trunkRules.idleTimerExpiry h hx
  | frameStart t => exact fanoutLaw_trunkRules.frameStart h hx
  | upstreamFrameReceived t f => exact fanoutLaw_trunkRules.upstreamFrame h hx
  | seatGraceExpiry i =>
    change execSeatGraceExpiry i s = _ at hx
    refine live_keeps hx h ?_
    split
    · exact h
    · next r hr =>
      split
      · exact h
      · split
        · exact ((h.putBinding hr ..).retier i).told (State.fenceSteer_touches ..)
        · exact h
  | generatorExpiry =>
    change execGeneratorExpiry s = _ at hx
    refine live_keeps hx h ?_
    have marked := h.markEvent
    split
    · split
      · exact marked.quiet (State.setMarks_touches (G := [.marks]) _ _) (by decide +kernel)
      · exact h
    · split
      · exact marked.quiet (State.setMarks_touches (G := [.marks]) _ _) (by decide +kernel)
      · exact h
    all_goals exact h
  | portVGraceExpiry =>
    change execPortVGraceExpiry s = _ at hx
    refine live_keeps hx h ?_
    split
    · exact h
    · split
      · exact State.each_keeps State.FanoutLaw State.closeStream s.openStreams { s with grace := none }
          (fun _ k _ hs => hs.closeStream k) ⟨h.stations, h.fan, h.lists, h.counts⟩
      · exact h
  | _ => first | exact absurd hc (Option.some_ne_none _) | exact absurd (ha.symm.trans rfl) Bool.false_ne_true

theorem fanoutLaw_kept {s u : State} (h : s.FanoutLaw) (hx : step s = .next u) : u.FanoutLaw :=
  law_step (.stream .state :: fanLawViews) (fun t ha h => h.quiet t ha) (by decide +kernel)
    (hreset := fun _ _ => ⟨rfl, rfl, nofun, fun _ _ => rfl⟩) (hrule := fanoutLaw_rule) (hevent := fanoutLaw_event)
    s u h hx

end Sys2Proof.Machine
end


section
/-! PROOF. The stored sector demand (R145, R146) is the highest trunk demand: which changes leave the highest demand of
a stream as it is, and that a recompute makes up for those that do not. -/
namespace Sys2Proof.Machine

theorem mem_allStreams (k : StreamId) : k ∈ allStreams := by decide +revert

/-- A level is told by whether it is FULL and whether it is NONE. -/
theorem Level.eq_of_iff {a b : Level} (hf : a = .full ↔ b = .full) (hn : a = .none ↔ b = .none) : a = b := by
  cases a <;> cases b <;> simp at hf hn <;> rfl

/-- The highest demand of a stream is kept where the ACTIVE trunks are the same, and on them the counts, and the
crowdedness of each cell with a FULL watcher. -/
theorem State.highestDemand_congr {s u : State} {k : StreamId}
    (ht : ∀ t, (u.trunk t).state = .active ↔ (s.trunk t).state = .active)
    (hc : ∀ (t : TrunkId) pos, (s.trunk t).state = .active → pos < 32 →
      u.counts (32 * t.val + pos) k = s.counts (32 * t.val + pos) k
        ∧ (0 < (s.counts (32 * t.val + pos) k).full →
          (u.IsCrowded (32 * t.val + pos) ↔ s.IsCrowded (32 * t.val + pos)))) :
    u.highestDemand k = s.highestDemand k := by
  refine Level.eq_of_iff ?_ ?_
  · rw [(u.highestDemand_iff k).1, (s.highestDemand_iff k).1]
    refine exists_congr fun t => ?_
    rw [ht t]
    refine and_congr_right fun ha => exists_congr fun pos => and_congr_right fun hp => ?_
    obtain ⟨counts, crowded⟩ := hc t pos ha hp
    dsimp only
    rw [counts]
    exact and_congr_left fun hf => not_congr (crowded hf)
  · rw [(u.highestDemand_iff k).2, (s.highestDemand_iff k).2]
    refine not_congr (exists_congr fun t => ?_)
    rw [ht t]
    refine and_congr_right fun ha => exists_congr fun pos => and_congr_right fun hp => ?_
    dsimp only
    rw [(hc t pos ha hp).1]

/-- The stored demand of every stream outside a list is the highest trunk demand. -/
structure State.DemandHeld (s : State) (ks : List StreamId) : Prop where
  fan : s.fan.wf = true
  held : ∀ k, k ∉ ks → s.sectorDemand k = s.highestDemand k

theorem State.demandHeld_iff {s : State} (h : s.fan.wf = true) : s.DemandHeld [] ↔ s.DemandLaw := by
  refine ⟨fun hs => ⟨fun k => ?_, fun k => ?_⟩, fun hs => ⟨h, fun k _ => Level.eq_of_iff ?_ ?_⟩⟩
  · rw [hs.held k List.not_mem_nil, (s.highestDemand_iff k).1]
  · rw [hs.held k List.not_mem_nil, (s.highestDemand_iff k).2]
  · rw [hs.full k, (s.highestDemand_iff k).1]
  · rw [hs.none k, (s.highestDemand_iff k).2]

/-- What the highest demand rests on. -/
abbrev demandLawViews : List View := [.trunk .state, .cell .load, .cell .accepted, .fan, .demand]

theorem State.crowded_of_touches {F : List View} {s u : State} (t : s.Touches F u) (hl : View.cell .load ∉ F)
    (ha : View.cell .accepted ∉ F) (c : CellId) : u.IsCrowded c ↔ s.IsCrowded c := by
  have load : (u.cell c).load = (s.cell c).load := t.cellView .load c hl
  have accepted : (u.cell c).accepted = (s.cell c).accepted := t.cellView .accepted c ha
  rw [State.IsCrowded, State.IsCrowded, load, accepted]

theorem State.highestDemand_of_touches {F : List View} {s u : State} (t : s.Touches F u)
    (ha : View.apart [.trunk .state, .cell .load, .cell .accepted, .fan] F = true) (k : StreamId) :
    u.highestDemand k = s.highestDemand k := by
  have apart := (View.apart_iff _ _).1 ha
  refine State.highestDemand_congr (fun x => ?_) fun x pos _ _ => ⟨t.counts _ _ (apart _ (View.mem_of (by decide +kernel))),
    fun _ => State.crowded_of_touches t (apart _ (View.mem_of (by decide +kernel)))
      (apart _ (View.mem_of (by decide +kernel))) _⟩
  have state : (u.trunk x).state = (s.trunk x).state := t.trunk .state x (apart _ (View.mem_of (by decide +kernel)))
  rw [state]

namespace State.DemandHeld
variable {s u : State} {ks : List StreamId}

theorem of_touches {F : List View} (t : s.Touches F u) (ha : View.apart demandLawViews F = true) (h : s.DemandHeld ks) :
    u.DemandHeld ks := by
  have apart := (View.apart_iff _ _).1 ha
  refine ⟨t.canon .fan h.fan, fun k hk => ?_⟩
  rw [t.sectorDemand k (apart _ (View.mem_of (by decide +kernel))), h.held k hk]
  refine (State.highestDemand_of_touches t ((View.apart_iff _ _).2 fun v hv => apart v ?_) k).symm
  exact View.subset_of (F := [.trunk .state, .cell .load, .cell .accepted, .fan]) (by decide +kernel) hv

theorem mono {ls : List StreamId} (h : s.DemandHeld ks) (hl : ks ⊆ ls) : s.DemandHeld ls :=
  ⟨h.fan, fun k hk => h.held k fun hk' => hk (hl hk')⟩

/-- A recompute makes the stream current. -/
theorem recompute {k : StreamId} (h : s.DemandHeld (k :: ks)) : (s.recompute k).DemandHeld ks := by
  have touched := s.recompute_touches (G := [.demand, .portV]) k
  refine ⟨touched.canon .fan h.fan, fun j hj => ?_⟩
  rw [State.highestDemand_of_touches touched (by decide +kernel) j, s.sectorDemand_recompute]
  split
  · next e => rw [e]
  · next e => exact h.held j (List.not_mem_cons_of_ne_of_not_mem e hj)

theorem recomputeEach (h : s.DemandHeld ks) : (s.recomputeEach ks).DemandHeld [] := by
  induction ks generalizing s with
  | nil => exact h
  | cons k ks ih => exact ih h.recompute

/-- Recomputed for every stream, the stored demand is current. -/
theorem recomputeAll (h : s.fan.wf = true) : s.recomputeAll.DemandHeld [] :=
  recomputeEach (ks := allStreams) ⟨h, fun k hk => absurd (mem_allStreams k) hk⟩

/-- A change of the counts of the listed streams alone. -/
theorem counted (h : s.DemandHeld ks) (t : s.Touches [.fan] u)
    (hk : ∀ c k, k ∉ ks → u.counts c k = s.counts c k) : u.DemandHeld ks := by
  refine ⟨t.canon .fan h.fan, fun k hk' => ?_⟩
  rw [t.sectorDemand, h.held k hk']
  refine (State.highestDemand_congr (fun x => ?_) fun x pos _ _ => ⟨hk _ k hk', fun _ => ?_⟩).symm
  · rw [t.trunkAll]
  · exact State.crowded_of_touches t (View.not_mem_of (by decide +kernel)) (View.not_mem_of (by decide +kernel)) _

end State.DemandHeld

/-- The counts of a stream that is not in the list are left alone. -/
theorem State.counts_each_ne (c : CellId) (f : Counts → Counts) (ks : List StreamId) {s : State} (h : s.fan.wf = true)
    {k : StreamId} (hk : k ∉ ks) (c' : CellId) :
    (s.each ks fun s k => s.setCounts c k (f (s.counts c k))).counts c' k = s.counts c' k := by
  induction ks generalizing s with
  | nil => rfl
  | cons j ks ih =>
    obtain ⟨hj, hks⟩ := List.ne_and_not_mem_of_not_mem_cons hk
    have first := State.setCounts_touches (G := [.fan]) s c j (f (s.counts c j))
    refine (ih (first.canon .fan h) hks).trans ?_
    rw [s.counts_setCounts c j _ c' k h, if_neg fun g => hj g.2]

theorem State.DemandHeld.leaveCounts {s : State} {ks ls : List StreamId} (h : s.DemandHeld ks) (c : CellId) (l : Level)
    (hl : ls ⊆ ks) : (s.leaveCounts c l ls).DemandHeld ks :=
  h.counted (State.leaveCounts_touches s c l ls) fun c' _ hk =>
    State.counts_each_ne c (Counts.dec · l) ls h.fan (fun hk' => hk (hl hk')) c'

theorem State.DemandHeld.joinCounts {s : State} {ks ls : List StreamId} (h : s.DemandHeld ks) (c : CellId) (l : Level)
    (hl : ls ⊆ ks) : (s.joinCounts c l ls).DemandHeld ks :=
  h.counted (State.joinCounts_touches s c l ls) fun c' _ hk =>
    State.counts_each_ne c (Counts.inc · l) ls h.fan (fun hk' => hk (hl hk')) c'

/-! ### Stations -/

theorem State.DemandHeld.recomputeTier {s : State} (h : s.DemandHeld []) (i : StationIx) :
    (s.recomputeTier i).1.DemandHeld [] := by
  cases hr : s.station? i with
  | none => rw [State.recomputeTier, hr]; exact h
  | some r =>
    by_cases hl : s.tierOf r.binding r.cell = r.tier
    · rw [State.recomputeTier_same hr hl]
      exact h
    · rw [State.recomputeTier_changed hr hl]
      have moved := ((h.mono (List.nil_subset r.subs)).leaveCounts r.cell r.tier (List.Subset.refl _)).joinCounts r.cell
        (s.tierOf r.binding r.cell) (List.Subset.refl _)
      exact (moved.of_touches (State.newStation_touches (G := stationViews) ..) (by decide +kernel)).recomputeEach

theorem State.DemandHeld.told {s u : State} {ks : List StreamId} (h : s.DemandHeld ks) (t : s.Touches messageViews u) :
    u.DemandHeld ks := h.of_touches t (by decide +kernel)

theorem State.DemandHeld.putStation {s : State} {ks : List StreamId} (h : s.DemandHeld ks) (i : StationIx) (r : Station) :
    (s.putStation i r).DemandHeld ks :=
  h.of_touches (State.newStation_touches (G := stationViews) s i r) (by decide +kernel)

theorem State.DemandHeld.retier {s : State} (h : s.DemandHeld []) (i : StationIx) : (s.retier i).DemandHeld [] :=
  (h.recomputeTier i).told (State.tellTier_touches ..)

theorem State.DemandHeld.unbindStation {s : State} (h : s.DemandHeld []) (i : StationIx) :
    (s.unbindStation i).DemandHeld [] := by
  unfold State.unbindStation
  split
  · exact h
  · exact (h.putStation i _).retier i

theorem State.DemandHeld.resettle {s : State} (h : s.DemandHeld []) (a b : CellKind) (i : StationIx) :
    (State.resettle a b s i).DemandHeld [] := by
  unfold State.resettle
  split
  · exact h
  · exact (h.putStation i _).retier i

theorem State.DemandHeld.putTicket {s : State} {ks : List StreamId} (h : s.DemandHeld ks) (k : Token) (t : Ticket) :
    (s.putTicket k t).DemandHeld ks := ⟨h.fan, h.held⟩

theorem State.DemandHeld.bindTicket {s : State} (h : s.DemandHeld []) (x : CellId) (i : StationIx) (r : Station)
    (k : Token) (t : Ticket) : (s.bindTicket x i r k t).DemandHeld [] :=
  ((((h.putTicket k _).putStation i _).recomputeTier i).told (State.ticketResult_touches ..)).told
    (State.tellTier_touches ..)

theorem State.DemandHeld.present {s : State} (h : s.DemandHeld []) (x : CellId) (i : StationIx) (k : Token) :
    (s.present x i k).DemandHeld [] := by
  have note {u : State} (hu : u.DemandHeld []) (n : Notice) : (u.notify .T n).DemandHeld [] :=
    hu.of_touches (State.notify_touches (G := [.portT]) u .T n (View.mem_of rfl)) (by decide +kernel)
  have answered (r : TicketResult) : (s.ticketResult x i r).DemandHeld [] := h.told (State.ticketResult_touches ..)
  cases hr : s.station? i with
  | none => rw [State.present, hr]; exact h
  | some r =>
    cases ht : s.ticket? k with
    | none => rw [State.present, hr, ht]; exact answered _
    | some t =>
      rw [State.present_eq hr ht]
      split
      · exact note (answered _) _
      · exact note (answered _) _
      · exact note (answered _) _
      · split
        · exact answered _
        · exact note (h.bindTicket x i r k t) _
      · next holder _ =>
        split
        · exact answered _
        · split
          · exact answered _
          · split
            · exact note ((h.unbindStation holder).bindTicket x i r k t) _
            · exact note (answered _) _

theorem State.DemandHeld.remove {s : State} (h : s.DemandHeld []) (i : StationIx) (cause : Cause) :
    (s.remove i cause).DemandHeld [] := by
  cases hr : s.station? i with
  | none => rw [State.remove, hr]; exact h
  | some r =>
    have left := (h.mono (List.nil_subset r.subs)).leaveCounts r.cell r.tier (List.Subset.refl _)
    have before := ((left.putStation i { r with subs := [] }).recomputeEach).of_touches
      (State.leaveCells_touches (G := countViews) _ r) (by decide +kernel)
    have released := before.of_touches
      (State.releaseTicket_touches (G := [.tickets, .ticket .state, .portT]) _ i r.binding cause) (by decide +kernel)
    rw [State.remove_eq s i r cause hr]
    exact released.of_touches (State.delStation_touches (G := stationViews) _ i) (by decide +kernel)

theorem State.DemandHeld.countCell {s : State} {ks : List StreamId} (h : s.DemandHeld ks) (c : CellId) {f : Cell → Cell}
    (hf : CountsOnly f) : (s.countCell c f).DemandHeld ks :=
  h.of_touches (State.countCell_touches (G := countViews) s c hf) (by decide +kernel)

theorem State.DemandHeld.completeRoam {s : State} (h : s.DemandHeld []) (i : StationIx) (r : Station) (m : Roam) :
    (s.completeRoam i r m).DemandHeld [] := by
  have left := (h.mono (List.nil_subset r.subs)).leaveCounts r.cell r.tier (List.Subset.refl _)
  have moved := (((left.countCell r.cell countsOnly_lose).countCell m.pending countsOnly_arrive).putStation i
    (s.arrived r m)).joinCounts m.pending (s.arrived r m).tier (List.Subset.refl _)
  unfold State.completeRoam
  dsimp only
  exact (moved.told (State.tellTier_touches ..)).recomputeEach

theorem State.DemandHeld.subscribe {s : State} (h : s.DemandHeld []) (x : CellId) (i : StationIx) (r : Station)
    (n : Nat) : (s.subscribe x i r n).DemandHeld [] := by
  have answered {u : State} (hu : u.DemandHeld []) (e : SubResult) : (u.subResult x i n e).DemandHeld [] :=
    hu.told (State.subResult_touches ..)
  unfold State.subscribe
  split
  · exact answered h _
  · split
    · exact answered h _
    · next k _ =>
      split
      · exact answered h _
      · split
        · exact answered h _
        · split
          · exact answered h _
          · have put := h.putStation i { r with subs := r.subs ++ [k] }
            dsimp only
            split
            · exact answered put _
            · exact answered ((put.mono (List.nil_subset [k])).joinCounts r.cell r.tier (List.Subset.refl _)).recompute _

theorem State.DemandHeld.unsubscribe {s : State} (h : s.DemandHeld []) (x : CellId) (i : StationIx) (r : Station)
    (n : Nat) : (s.unsubscribe x i r n).DemandHeld [] := by
  have answered {u : State} (hu : u.DemandHeld []) (e : SubResult) : (u.subResult x i n e).DemandHeld [] :=
    hu.told (State.subResult_touches ..)
  unfold State.unsubscribe
  split
  · exact answered h _
  · split
    · exact answered h _
    · next k _ =>
      split
      · have put := h.putStation i { r with subs := r.subs.filter (· ≠ k) }
        dsimp only
        split
        · exact answered put _
        · exact answered ((put.mono (List.nil_subset [k])).leaveCounts r.cell r.tier (List.Subset.refl _)).recompute _
      · exact answered h _

theorem demandHeld_rules : StationRules demandLawViews (State.DemandHeld · []) where
  quiet t ha h := h.of_touches t ha
  portW := by decide +kernel
  noted _ i _ _ h _ _ := h.putStation i _
  append s t m h := h.told (State.append_touches s t m)
  taken s t h := h.of_touches (s.taken_touches (G := _) t (fun _ => id)) (by decide +kernel)
  remove _ i c h := h.remove i c
  completeRoam _ i r m h _ _ := h.completeRoam i r m
  create _ x a i h _ _ := (h.putStation i _).countCell x countsOnly_gain
  startRoam _ x i r h _ _ _ _ := (h.putStation i _).countCell x countsOnly_expect
  present _ x i k h := h.present x i k
  subscribe _ x i r n h _ := h.subscribe x i r n
  unsubscribe _ x i r n h _ := h.unsubscribe x i r n

end Sys2Proof.Machine
end


section
/-! PROOF. The law of the stored sector demand (R145, R146) is kept by every step, from a state that also meets Law 1
and the law of the fan-out counts. -/
namespace Sys2Proof.Machine

/-- A law that rests on some views is kept by a step from a state that also meets `Q`, when `Q` is kept by what changes
ports alone. -/
theorem law_step_under {P Q : State → Prop} (V : List View)
    (hV : ∀ {F : List View} {s u : State}, s.Touches F u → View.apart V F = true → P s → P u)
    (hQ : ∀ {s u : State}, s.Touches (.pending :: portViews) u → Q s → Q u)
    (hport : View.apart V (.pending :: portViews) = true)
    (hreset : ∀ s held, P (State.deviceReset s held))
    (hrule : ∀ c b s, View.apart V (Command.footprint c) = false → Q s → P s → P (c.rule b s).state)
    (hevent : ∀ i s u, portCommand i = none → i ≠ .deviceReset → i ≠ .resetLineAsserted →
      View.apart V (rowFootprint i) = false → Q s → P s → exec i s = .next u → P u)
    {s u : State} (hq : Q s) (hs : P s) (h : step s = .next u) : P u := by
  have ports {s u : State} (t : s.Touches portViews u) (hs : P s) : P u :=
    hV (t.mono (List.subset_cons_self _ _)) hport hs
  have next {i : Instr} {s u : State} (hq : Q s) (hs : P s) (h : exec i s = .next u) : P u := by
    by_cases hi : i = .deviceReset ∨ i = .resetLineAsserted
    · exact reset_establishes hreset hi h
    have t := exec_touches (fun e => hi (.inl e)) (fun e => hi (.inr e)) h
    cases ha : View.apart V (rowFootprint i) with
    | true => exact hV t ha hs
    | false =>
      cases hc : portCommand i with
      | none => exact hevent i s u hc (fun e => hi (.inl e)) (fun e => hi (.inr e)) ha hq hs h
      | some x =>
        obtain ⟨p, c⟩ := x
        rw [exec_portCommand hc] at h
        refine live_keeps h hs ?_
        unfold State.act
        split
        · exact hs
        · have begun := ports (State.begin_touches s p) hs
          have open_ := hQ ((State.begin_touches (G := portViews) s p).mono (List.subset_cons_self _ _)) hq
          split
          · split
            · exact ports (State.respond_touches ..) begun
            · refine ports (State.respond_touches ..) ?_
              cases hr : View.apart V c.footprint with
              | true => exact hV (c.rule_touches _ _) hr begun
              | false => exact hrule c _ _ hr open_ begun
          · exact hs
  unfold step at h
  split at h
  · cases h; exact hs
  · next rest _ =>
    have shifted : s.Touches (.pending :: portViews) { s with pending := rest } := by
      refine ⟨fun v hv => ?_, fun c => by cases c <;> exact id⟩
      cases v with
      | pending => simp at hv
      | _ => rfl
    exact next (hQ shifted hq) (hV shifted hport hs) h

/-! ### Trunks -/

theorem trunkOf_cellAt (t : TrunkId) {pos : Nat} (hp : pos < 32) : trunkOf (32 * t.val + pos) = t :=
  trunkOf_of_val (show t.val = (32 * t.val + pos) / 32 by omega)

theorem trunkOf_mem_cellsOf {c : CellId} {t : TrunkId} (h : c ∈ cellsOf t) : trunkOf c = t := by
  obtain ⟨pos, hp, rfl⟩ := List.mem_map.1 h
  exact trunkOf_cellAt t (List.mem_range.1 hp)

/-- A trunk that is not ACTIVE, before or after, and its cells: they are no part of any demand. -/
theorem State.DemandHeld.offStage {s u : State} {ks : List StreamId} (h : s.DemandHeld ks) (t : TrunkId)
    (hs : (s.trunk t).state ≠ .active) (hu : (u.trunk t).state ≠ .active)
    (others : ∀ t', t' ≠ t → (u.trunk t').state = (s.trunk t').state)
    (cells : ∀ c, trunkOf c ≠ t → u.cells.get? c = s.cells.get? c) (hf : u.fan = s.fan) (hd : u.demand = s.demand) :
    u.DemandHeld ks := by
  refine ⟨by rw [hf]; exact h.fan, fun k hk => ?_⟩
  have demand : u.sectorDemand k = s.sectorDemand k := by rw [State.sectorDemand, hd]; rfl
  rw [demand, h.held k hk]
  refine (State.highestDemand_congr (fun x => ?_) fun x pos hx hp => ⟨?_, fun _ => ?_⟩).symm
  · by_cases e : x = t
    · subst e
      exact ⟨fun g => absurd g hu, fun g => absurd g hs⟩
    · rw [others x e]
  · rw [State.counts, hf]
    rfl
  · have apart : trunkOf (32 * x.val + pos) ≠ t := by
      rw [trunkOf_cellAt x hp]
      rintro rfl
      exact hs hx
    have cell : u.cell (32 * x.val + pos) = s.cell (32 * x.val + pos) := by
      rw [State.cell, cells _ apart]
      rfl
    rw [State.IsCrowded, State.IsCrowded, cell]

/-- A trunk's record written, its state ACTIVE neither before nor after. -/
theorem State.DemandHeld.setAway {s : State} {ks : List StreamId} (h : s.DemandHeld ks) (t : TrunkId) (r : Trunk)
    (hs : (s.trunk t).state ≠ .active) (hr : r.state ≠ .active) : (s.setTrunk t r).DemandHeld ks := by
  refine h.offStage t hs ?_ (fun t' ht => ?_) (fun _ _ => rfl) rfl rfl
  · rw [State.trunk_setTrunk, if_pos rfl]
    exact hr
  · rw [State.trunk_setTrunk, if_neg ht]

theorem State.DemandHeld.quitTrunk {s : State} (h : s.DemandHeld []) (t : TrunkId) {dest : TrunkState}
    (hd : dest ≠ .active) (entry : Option Time) : (s.quitTrunk t dest entry).DemandHeld [] := by
  have fan : (((s.setTrunk t ((s.trunk t).quit dest entry)).unhearCells t).flushReplay t).fan.wf = true := by
    have kept : State.Touches (unhearViews ++ unlinkViews) (s.setTrunk t ((s.trunk t).quit dest entry))
        (((s.setTrunk t ((s.trunk t).quit dest entry)).unhearCells t).flushReplay t) :=
      .trans (State.unhearCells_touches ..) (State.flushReplay_touches ..)
    exact kept.canon .fan h.fan
  cases hs : (s.trunk t).state with
  | active =>
    unfold State.quitTrunk
    rw [hs]
    exact State.DemandHeld.recomputeAll fan
  | lost =>
    have away := h.setAway t ((s.trunk t).quit dest entry) (by rw [hs]; decide) hd
    have now : ((s.setTrunk t ((s.trunk t).quit dest entry)).trunk t).state ≠ .active := by
      rw [State.trunk_setTrunk, if_pos rfl]
      exact hd
    unfold State.quitTrunk
    rw [hs]
    generalize s.setTrunk t ((s.trunk t).quit dest entry) = w at away now
    have unheard := w.unhearCells_touches (G := unhearViews) t
    refine away.offStage t now ?_ (fun t' _ => ?_) (fun c hc => ?_) unheard.fan unheard.demand
    · rw [unheard.trunkAll]
      exact now
    · rw [unheard.trunkAll]
    · rw [State.cells_unhearCells, if_neg fun hm => hc (trunkOf_mem_cellsOf hm)]
  | off | standby | waking | aligning =>
    have away := h.setAway t ((s.trunk t).quit dest entry) (by rw [hs]; decide) hd
    unfold State.quitTrunk
    rw [hs]
    exact away

theorem State.DemandHeld.enterActive {s : State} (h : s.fan.wf = true) (t : TrunkId) (why : TrunkReason) :
    (s.enterActive t why).DemandHeld [] := by
  unfold State.enterActive
  dsimp only
  have noted := State.trunkNotice_touches (G := [.portW])
    (s.setTrunk t { s.trunk t with state := .active, entry := none, bad := 0 }) t (s.trunk t).state .active why
  exact (State.DemandHeld.recomputeAll (noted.canon .fan h)).of_touches
    (State.idleUpdate_touches (G := [.trunks, .trunk .idle]) _ t) (by decide +kernel)

theorem State.DemandHeld.enterLost {s : State} (h : s.fan.wf = true) (t : TrunkId) : (s.enterLost t).DemandHeld [] := by
  unfold State.enterLost
  dsimp only
  generalize hw : s.setTrunk t _ = w
  have fan : w.fan.wf = true := by rw [← hw]; exact h
  have kept : State.Touches lostViews w (((w.flushReplay t).trunkNotice t .active .lost .alignLoss).raiseFlag t
      .alignLoss) :=
    .trans (State.flushReplay_touches ..) (.trans (State.trunkNotice_touches ..) (State.raiseFlag_touches ..))
  exact State.DemandHeld.recomputeAll (kept.canon .fan fan)

/-- A trunk's record written with the state it had. -/
theorem State.DemandHeld.sameState {s : State} {ks : List StreamId} (h : s.DemandHeld ks) (t : TrunkId) (r : Trunk)
    (hr : r.state = (s.trunk t).state) : (s.setTrunk t r).DemandHeld ks := by
  refine ⟨h.fan, fun k hk => ?_⟩
  have same : (s.setTrunk t r).highestDemand k = s.highestDemand k :=
    State.highestDemand_congr (fun x => ?_) fun _ _ _ _ => ⟨rfl, fun _ => Iff.rfl⟩
  · exact (h.held k hk).trans same.symm
  rw [State.trunk_setTrunk]
  split
  · next e => rw [hr, e]
  · rfl

theorem State.DemandHeld.judge {s : State} (h : s.DemandHeld []) (t : TrunkId) : (s.judge t).DemandHeld [] := by
  have good (n : Nat) := h.sameState t { s.trunk t with good := n } rfl
  have bad (n : Nat) := h.sameState t { s.trunk t with bad := n } rfl
  unfold State.judge
  split
  · unfold State.judgedGood
    dsimp only
    split
    · split
      · exact good 1
      · exact .enterActive (good 2).fan t _
    · split
      · exact good 1
      · exact .enterActive (good 2).fan t _
    · exact bad 0
    all_goals exact h
  · unfold State.judgedBad
    dsimp only
    split
    · exact good 0
    · exact good 0
    · split
      · exact bad 1
      · exact .enterLost h.fan t
    all_goals exact h

/-! ### The status part of a poll answer -/

/-- One cell's record changes, and with it whether it counts as crowded, for the listed streams at most. -/
theorem State.DemandHeld.modCell {s : State} (h : s.DemandHeld []) (c : CellId) (f : Cell → Cell) (ks : List StreamId)
    (hc : ∀ k, k ∉ ks → 0 < (s.counts c k).full → ((s.modCell c f).IsCrowded c ↔ s.IsCrowded c)) :
    (s.modCell c f).DemandHeld ks := by
  have frame := s.modCell_frame c f
  have cells := s.cells_modCell c f
  generalize s.modCell c f = w at frame cells hc
  have counts (d : CellId) (k : StreamId) : w.counts d k = s.counts d k := by rw [frame]; rfl
  refine ⟨by rw [frame]; exact h.fan, fun k hk => ?_⟩
  have demand : w.sectorDemand k = s.sectorDemand k := by rw [frame]; rfl
  rw [demand, h.held k List.not_mem_nil]
  refine (State.highestDemand_congr (fun x => by rw [frame]; rfl) fun x pos _ _ => ⟨counts _ k, fun hf => ?_⟩).symm
  by_cases he : 32 * x.val + pos = c
  · rw [he] at hf ⊢
    exact hc k hk hf
  · have cell : w.cell (32 * x.val + pos) = s.cell (32 * x.val + pos) := by
      rw [State.cell, cells, if_neg he]
      rfl
    rw [State.IsCrowded, State.IsCrowded, cell]

/-- The streams with no watcher at the cell do not see whether it is crowded. -/
theorem State.DemandHeld.modWatched {s : State} (h : s.DemandHeld []) (c : CellId) (f : Cell → Cell) :
    (s.modCell c f).DemandHeld (allStreams.filter (s.watched c)) :=
  h.modCell c f _ fun k hk hf => absurd (List.mem_filter.2 ⟨mem_allStreams k, decide_eq_true (Nat.add_pos_left hf _)⟩) hk

/-- The record of a cell after a change of it, configured or not. -/
theorem State.cell_modCell (s : State) (c : CellId) (f : Cell → Cell) :
    (s.modCell c f).cell c = f (s.cell c) ∨ (s.modCell c f).cell c = s.cell c := by
  have cells := s.cells_modCell c f c
  rw [if_pos rfl] at cells
  unfold State.cell
  rw [cells]
  cases s.cells.get? c with
  | none => exact .inr rfl
  | some r => exact .inl rfl

theorem State.DemandHeld.modSame {s : State} (h : s.DemandHeld []) (c : CellId) (f : Cell → Cell)
    (hf : (f (s.cell c)).crowded = (s.cell c).crowded) : (s.modCell c f).DemandHeld [] := by
  refine h.modCell c f [] fun k _ _ => ?_
  rw [← State.crowded_iff, ← State.crowded_iff]
  obtain e | e := s.cell_modCell c f
  · rw [e, hf]
  · rw [e]

theorem State.DemandHeld.acceptCode {s : State} (h : s.DemandHeld []) (c : CellId) (x : Condition) :
    (s.acceptCode c x).DemandHeld [] := by
  unfold State.acceptCode
  dsimp only
  have notified (v : State) (n : Notice) := State.notify_touches (G := [.portW]) v .W n (View.mem_of rfl)
  split
  · have watched := h.modWatched c fun r => { r with accepted := x, candidate := some x }
    have frame := s.modCell_frame c fun r => { r with accepted := x, candidate := some x }
    generalize s.modCell c (fun r => { r with accepted := x, candidate := some x }) = w at watched frame ⊢
    have same (n : Notice) (k : StreamId) : (w.notify .W n).watched c k = s.watched c k := by
      unfold State.watched
      rw [(notified w n).counts, frame]
      rfl
    have told := watched.of_touches (notified w (.cellCondition c (s.cell c).accepted x (w.cell c).ceff))
      (by decide +kernel)
    rw [← funext (same _)] at told
    exact told.recomputeEach
  · next hn =>
    refine (h.modSame c _ ?_).of_touches (notified _ _) (by decide +kernel)
    have other : x ≠ .overtemp := fun e => hn (.inr e)
    have was : (s.cell c).accepted ≠ .overtemp := fun e => hn (.inl e)
    rw [Cell.crowded, Cell.crowded, beq_eq_false_iff_ne.2 other, beq_eq_false_iff_ne.2 was]

theorem State.DemandHeld.doubleLook {s : State} (h : s.DemandHeld []) (c : CellId) (n : Nat) :
    (s.doubleLook c n).DemandHeld [] := by
  have looked (o : Option Condition) : (s.modCell c fun r => { r with candidate := o }).DemandHeld [] :=
    h.modSame c _ rfl
  unfold State.doubleLook
  split
  · exact looked _
  · split
    · exact looked _
    · split
      · exact h.acceptCode ..
      · exact looked _

theorem State.DemandHeld.scoreCell {s : State} (h : s.DemandHeld []) (c : CellId) (n : Nat) :
    (s.scoreCell c n).DemandHeld [] := by
  unfold State.scoreCell
  dsimp only
  split
  · next hl =>
    refine h.modSame c _ ?_
    rw [Cell.crowded, hl]
    rfl
  · refine State.DemandHeld.recomputeAll ((State.notify_touches (G := [.portW]) _ .W _ (View.mem_of rfl)).canon .fan ?_)
    exact (h.modWatched c _).fan

theorem State.DemandHeld.takeStatus {s : State} (h : s.DemandHeld []) (c : CellId) (a : PollAnswer) :
    (s.takeStatus c a).DemandHeld [] := by
  have heard : (s.heardCell c).DemandHeld [] := by
    have lived : (s.modCell c fun r => { r with miss := 0, live := .live }).DemandHeld [] := h.modSame c _ rfl
    unfold State.heardCell
    dsimp only
    split
    · exact lived.of_touches (State.notify_touches (G := [.portW]) _ .W _ (View.mem_of rfl)) (by decide +kernel)
    all_goals exact lived
  refine State.each_keeps (State.DemandHeld · []) _ _ _ (fun s i _ hs => ?_) ((heard.doubleLook c _).scoreCell c _)
  unfold State.hearStation
  split
  · split
    · exact hs.putStation ..
    · exact hs
  · exact hs

theorem State.DemandHeld.settlePoll {s : State} (h : s.DemandHeld []) (t : TrunkId) (q : Poll) (f : UpFrame) :
    (s.settlePoll t q f).DemandHeld [] := by
  unfold State.settlePoll
  dsimp only
  split
  · next a _ =>
    have taken : (if (s.configured (cellAt t q.position) && !q.orphan) = true
        then s.takeStatus (cellAt t q.position) a else s).DemandHeld [] := by
      split
      · exact h.takeStatus ..
      · exact h
    generalize (if (s.configured (cellAt t q.position) && !q.orphan) = true
        then s.takeStatus (cellAt t q.position) a else s) = w at taken
    exact (taken.of_touches (State.considerReports_touches (G := placeViews) ..) (by decide +kernel)).of_touches
      (State.setAck_touches (G := [.trunks, .trunk .ack]) ..) (by decide +kernel)
  · have missed : (if (s.configured (cellAt t q.position) && !q.orphan) = true
        then s.pollMissed (cellAt t q.position) else s).DemandHeld [] := by
      split
      · unfold State.pollMissed
        dsimp only
        have counted := h.modSame (cellAt t q.position) Cell.missPoll rfl
        split
        · exact counted
        all_goals
          split
          · exact (counted.modSame _ (fun r => { r with live := .silent }) rfl).of_touches
              (State.notify_touches (G := [.portW]) _ .W _ (View.mem_of rfl)) (by decide +kernel)
          · exact counted
      · exact h
    exact missed.of_touches (State.setAck_touches (G := [.trunks, .trunk .ack]) ..) (by decide +kernel)

theorem State.DemandHeld.takeUpstream {s : State} (h : s.DemandHeld []) (t : TrunkId) (f : UpFrame) :
    (s.takeUpstream t f).DemandHeld [] := by
  have acked {v : State} (hv : v.DemandHeld []) : (v.setAck t 0).DemandHeld [] :=
    hv.of_touches (State.setAck_touches (G := [.trunks, .trunk .ack]) v t 0) (by decide +kernel)
  have polled {v : State} (hv : v.DemandHeld []) : (v.settlePolled t f).DemandHeld [] := by
    unfold State.settlePolled
    split
    · exact hv.settlePoll ..
    · exact acked hv
  have slot : (s.settleSlot t f.slot).DemandHeld [] :=
    h.of_touches (State.settleSlot_touches (G := placeViews) ..) (by decide +kernel)
  have settled : (s.settleFrame t f).DemandHeld [] := by
    unfold State.settleFrame
    split
    · exact polled slot
    · exact polled slot
    · exact acked (h.of_touches (State.setEcho_touches (G := placeViews) ..) (by decide +kernel))
    all_goals exact h
  have tallied := settled.sameState t (((s.settleFrame t f).trunk t).tally f) rfl
  unfold State.takeUpstream
  dsimp only
  split
  · exact tallied.judge t
  · exact tallied

end Sys2Proof.Machine
end


section
/-! PROOF. The law of the stored sector demand (R145, R146), row by row. -/
namespace Sys2Proof.Machine

/-! ### The withdrawal of a stream -/

theorem State.DemandHeld.withdraw {s : State} (h : s.DemandHeld []) (k : StreamId) : (s.withdraw k).DemandHeld [] := by
  have touched := s.dropSubscribers_touches k (G := [.stations, .station .subs, .fan])
  have dropped : (s.dropSubscribers k).DemandHeld [k] := by
    refine ⟨touched.canon .fan h.fan, fun j hj => ?_⟩
    rw [touched.sectorDemand, h.held j List.not_mem_nil]
    refine (State.highestDemand_congr (fun x => by rw [touched.trunkAll]) fun x pos _ _ => ⟨?_, fun _ => ?_⟩).symm
    · rw [State.counts_dropSubscribers, if_neg fun e => hj (List.mem_singleton.2 e)]
    · exact State.crowded_of_touches touched (View.not_mem_of (by decide +kernel)) (View.not_mem_of (by decide +kernel)) _
  exact dropped.recompute.of_touches (F := messageViews) (.each (fun s t => State.tellAll_touches ..) _)
    (by decide +kernel)

theorem State.DemandHeld.closeStream {s : State} (h : s.DemandHeld []) (k : StreamId) :
    (s.closeStream k).DemandHeld [] := by
  unfold State.closeStream
  exact (h.withdraw k).of_touches (F := .release :: freeViews)
    (.trans (State.freeUpload_touches ..) (.trans (State.freeHeld_touches ..) (State.startDrain_touches ..)))
    (by decide +kernel)

theorem State.DemandHeld.withdrawClosed {s : State} (h : s.DemandHeld []) (k : StreamId) :
    (s.withdrawClosed k).DemandHeld [] :=
  (h.withdraw k).of_touches (State.setStreamState_touches (G := [.streams, .stream .state]) ..) (by decide +kernel)

theorem State.DemandHeld.replayClear {s : State} (h : s.DemandHeld []) (b : List Byte) :
    (replayClearRule b s).state.DemandHeld [] := by
  have cleared : s.clearSegments.DemandHeld [] := by
    unfold State.clearSegments
    refine State.each_keeps (State.DemandHeld · []) State.freeCore _ _ (fun s d _ hs => hs.of_touches
      (State.freeCore_touches (G := [.descs, .used, .streams, .stream .inUse]) s d) (by decide +kernel)) ?_
    have queues := State.each_keeps (State.DemandHeld · []) (fun s t => s.setTrunk t (s.trunk t).clearReplay) allTrunks
      s (fun _ t _ hs => hs.sameState t _ rfl) h
    exact queues.of_touches (State.setRelease_touches (G := [.release]) _ []) (by decide +kernel)
  unfold replayClearRule
  dsimp only
  refine State.each_keeps (State.DemandHeld · []) State.closeDraining allStreams _ (fun v k _ hs => ?_)
    (State.each_keeps (State.DemandHeld · []) State.withdrawClosed _ _ (fun _ k _ hs => hs.withdrawClosed k) cleared)
  unfold State.closeDraining
  split
  · exact hs.of_touches (State.setStreamState_touches (G := [.streams, .stream .state]) ..) (by decide +kernel)
  all_goals exact hs

/-! ### CELL_SET -/

/-- A cell that no station stands at has no watcher of any stream. -/
theorem State.FanoutLaw.unwatched {s : State} (hf : s.FanoutLaw) (hc : s.CountLaw) {c : CellId} {x : Cell}
    (hx : s.cells.get? c = some x) (ha : x.attached = 0) (k : StreamId) : (s.counts c k).full = 0 := by
  have full : (s.counts c k).full = s.stationsWith (Station.watches c k .full) :=
    hf.at c k (l := .full) nofun
  rw [full]
  refine State.stationsWith_zero hc.stations fun i r hr => ?_
  have away : (r.cell == c) = false := by
    refine beq_eq_false_iff_ne.2 fun e => ?_
    have counted := hc.attached_pos hr (e ▸ hx)
    omega
  rw [Station.watches, away]
  rfl

/-- A cell's record put, or taken away, where its crowdedness does not tell. -/
theorem State.DemandHeld.setCells {s : State} (h : s.DemandHeld []) (c : CellId) (x : Table Cell)
    (others : ∀ d, d ≠ c → x.get? d = s.cells.get? d)
    (hc : ∀ k, 0 < (s.counts c k).full → (State.IsCrowded { s with cells := x } c ↔ s.IsCrowded c)) :
    State.DemandHeld { s with cells := x } [] := by
  refine ⟨h.fan, fun k _ => ?_⟩
  have same : State.highestDemand { s with cells := x } k = s.highestDemand k :=
    State.highestDemand_congr (fun _ => Iff.rfl) fun t pos _ _ => ⟨rfl, fun hf => ?_⟩
  · exact (h.held k List.not_mem_nil).trans same.symm
  by_cases he : 32 * t.val + pos = c
  · rw [he] at hf ⊢
    exact hc k hf
  · have cell : State.cell { s with cells := x } (32 * t.val + pos) = s.cell (32 * t.val + pos) := by
      rw [State.cell, others _ he]
      rfl
    rw [State.IsCrowded, State.IsCrowded, cell]

theorem State.DemandHeld.cellSet {s : State} (h : s.DemandHeld []) (hc : s.CountLaw) (hf : s.FanoutLaw) (b : List Byte) :
    (cellSetRule b s).state.DemandHeld [] := by
  have put (x : Cell) (hx : x.crowded = (s.cell (byteAt b 0)).crowded) :
      State.DemandHeld { s with cells := s.cells.put (byteAt b 0) x } [] := by
    refine h.setCells (byteAt b 0) _ (fun d hd => by rw [Table.get?_put, if_neg hd]) fun k _ => ?_
    have cell : State.cell { s with cells := s.cells.put (byteAt b 0) x } (byteAt b 0) = x := by
      rw [State.cell, Table.get?_put, if_pos rfl]
      rfl
    rw [← State.crowded_iff, ← State.crowded_iff, cell, hx]
  unfold cellSetRule
  dsimp only
  split
  · exact h
  · split
    · next hn _ =>
      refine put _ ?_
      rw [State.cell, hn]
      rfl
    · next old ho _ =>
      have rewritten := put (old.configure (byteAt b 0) b) (by rw [State.cell, ho]; rfl)
      unfold State.rewriteCell
      dsimp only
      split
      · exact rewritten
      · exact State.each_keeps (State.DemandHeld · []) _ _ _ (fun s i _ hs => hs.resettle ..) rewritten
    · exact h
    · next old ho _ =>
      split
      · exact h
      · next hz =>
        have gone : State.DemandHeld { s with cells := s.cells.del (byteAt b 0) } [] := by
          refine h.setCells (byteAt b 0) _ (fun d hd => by rw [Table.get?_del _ _ _ hc.cells, if_neg hd]) fun k hk => ?_
          have unwatched := hf.unwatched hc ho (by omega) k
          omega
        exact gone.sameState _ _ rfl

/-! ### The rows -/

theorem State.DemandHeld.enable {s : State} (h : s.DemandHeld []) (t : TrunkId) : (s.enable t).DemandHeld [] := by
  unfold State.enable
  split
  · next ho =>
    exact h.setAway t { s.trunk t with state := .standby } (by rw [ho]; decide)
      (show TrunkState.standby ≠ .active by decide)
  all_goals exact h

theorem State.DemandHeld.disable {s : State} (h : s.DemandHeld []) (t : TrunkId) : (s.disable t).DemandHeld [] := by
  unfold State.disable
  split
  · exact h
  all_goals exact (h.quitTrunk t (by decide) none).sameState t _ rfl

theorem State.DemandHeld.trunkSet {s : State} (h : s.DemandHeld []) (b : List Byte) :
    (trunkSetRule b s).state.DemandHeld [] := by
  refine onTrunk_keeps (P := (State.DemandHeld · [])) b s _ h fun t => ?_
  split
  · next en aw mc _ _ _ =>
    have stored := h.of_touches (F := storeViews) (.trans
      (State.store_touches s t s.now en aw (min 3600 (numAt b 4 2)) mc (min 320 (numAt b 8 2)))
      (State.idleUpdate_touches _ t)) (by decide +kernel)
    dsimp only
    split
    · exact stored.enable t
    · exact stored.disable t
  · exact h

theorem State.DemandHeld.standDown {s : State} (h : s.DemandHeld []) (t : TrunkId) : (s.standDown t).DemandHeld [] := by
  unfold State.standDown
  split
  · exact h
  · exact h
  all_goals exact h.quitTrunk t (by decide) none

theorem demandHeld_rule (c : Command) (b : List Byte) (s : State)
    (hv : View.apart demandLawViews (Command.footprint c) = false) (hq : s.CountLaw ∧ s.FanoutLaw) (h : s.DemandHeld []) :
    (c.rule b s).state.DemandHeld [] := by
  cases c with
  | cellSet => exact h.cellSet hq.1 hq.2 b
  | stationDetach => exact demandHeld_rules.stationDetach h b
  | stationClear => exact demandHeld_rules.stationClear h b
  | trunkSet => exact h.trunkSet b
  | trunkStart =>
    refine onTrunk_keeps (P := (State.DemandHeld · [])) b s _ h fun t => ?_
    split
    · exact h
    · next hs => exact h.setAway t _ (by rw [hs]; decide) (show TrunkState.waking ≠ .active by decide)
    all_goals exact h
  | trunkStandby =>
    refine onTrunk_keeps (P := (State.DemandHeld · [])) b s _ h fun t => ?_
    split
    · exact h
    all_goals exact h.standDown t
  | trunkReset =>
    refine onTrunk_keeps (P := (State.DemandHeld · [])) b s _ h fun t => ?_
    split
    · exact h
    all_goals exact (h.standDown t).sameState t _ rfl
  | gateAdmit =>
    refine onTicket_keeps (P := (State.DemandHeld · [])) b s _ h fun k t _ => ?_
    split
    · exact h.putTicket ..
    · exact h.putTicket ..
    · exact h
    · split
      · exact (h.putTicket ..).unbindStation _
      · exact h
    · exact h
  | gateExit =>
    refine onTicket_keeps (P := (State.DemandHeld · [])) b s _ h fun k t _ => ?_
    split
    · exact h.putTicket ..
    · exact (h.putTicket ..).unbindStation _
    all_goals exact h
  | ticketVoid =>
    refine onTicket_keeps (P := (State.DemandHeld · [])) b s _ h fun k t _ => ?_
    split
    · exact (h.putTicket ..).unbindStation _
    · exact h.putTicket ..
    · exact h.putTicket ..
    · exact h.putTicket ..
    · exact h
  | ticketClear =>
    have unbound := State.each_keeps (State.DemandHeld · []) State.unbindStation s.boundStations s
      (fun s i _ hs => hs.unbindStation i) h
    exact ⟨unbound.fan, unbound.held⟩
  | streamClose =>
    refine onStream_keeps (P := (State.DemandHeld · [])) b s _ h fun k => ?_
    split
    · dsimp only
      exact h.closeStream k
    all_goals exact h
  | replayClear => exact h.replayClear b
  | _ => exact absurd hv (by decide +kernel)

theorem demandHeld_event (i : Instr) (s u : State) (hc : portCommand i = none) (hd : i ≠ .deviceReset)
    (hl : i ≠ .resetLineAsserted) (ha : View.apart demandLawViews (rowFootprint i) = false)
    (hq : s.CountLaw ∧ s.FanoutLaw) (h : s.DemandHeld []) (hx : exec i s = .next u) : u.DemandHeld [] := by
  have noted {v : State} (hv : v.DemandHeld []) (t : TrunkId) (a b : TrunkState) (why : TrunkReason) :
      (v.trunkNotice t a b why).DemandHeld [] :=
    hv.of_touches (State.trunkNotice_touches (G := [.portW]) v t a b why) (by decide +kernel)
  cases i with
  | deviceReset => exact absurd rfl hd
  | resetLineAsserted => exact absurd rfl hl
  | reportTake => exact demandHeld_rules.reportTake h hx
  | roamTimeout i => exact demandHeld_rules.roamTimeout h hx
  | ageExpiry i => exact demandHeld_rules.ageExpiry h hx
  | wakeSignal t =>
    change execWakeSignal t s = _ at hx
    refine live_keeps (P := (State.DemandHeld · [])) hx h ?_
    split
    · next hs =>
      split
      · exact noted (h.setAway t _ (by rw [hs]; decide) (show TrunkState.waking ≠ .active by decide)) ..
      · exact h
    all_goals exact h
  | upstreamSignalDetected t =>
    change execUpstreamSignalDetected t s = _ at hx
    refine live_keeps (P := (State.DemandHeld · [])) hx h ?_
    split
    · next hs => exact noted (h.setAway t _ (by rw [hs]; decide) (show TrunkState.aligning ≠ .active by decide)) ..
    all_goals exact h
  | wakeTimeout t =>
    change execWakeTimeout t s = _ at hx
    refine live_keeps (P := (State.DemandHeld · [])) hx h ?_
    split
    · split
      · exact noted (h.quitTrunk t (by decide) _) ..
      · exact h
    all_goals exact h
  | alignTimeout t =>
    change execAlignTimeout t s = _ at hx
    refine live_keeps (P := (State.DemandHeld · [])) hx h ?_
    split
    · split
      · exact noted (h.quitTrunk t (by decide) _) ..
      · exact h
    all_goals exact h
  | lostGiveUp t =>
    change execLostGiveUp t s = _ at hx
    refine live_keeps (P := (State.DemandHeld · [])) hx h ?_
    split
    · split
      · exact noted (h.quitTrunk t (by decide) _) ..
      · exact h
    all_goals exact h
  | idleTimerExpiry t =>
    change execIdleTimerExpiry t s = _ at hx
    refine live_keeps (P := (State.DemandHeld · [])) hx h ?_
    split
    · split
      · exact noted (h.quitTrunk t (by decide) _) ..
      · exact h
    all_goals exact h
  | upstreamFrameReceived t f =>
    change execUpstreamFrameReceived t f s = _ at hx
    refine live_keeps (P := (State.DemandHeld · [])) hx h ?_
    split
    · exact h.takeUpstream t f
    · exact h
  | seatGraceExpiry i =>
    change execSeatGraceExpiry i s = _ at hx
    refine live_keeps (P := (State.DemandHeld · [])) hx h ?_
    split
    · exact h
    · split
      · exact h
      · split
        · exact ((h.putStation ..).retier i).told (State.fenceSteer_touches ..)
        · exact h
  | portVGraceExpiry =>
    change execPortVGraceExpiry s = _ at hx
    refine live_keeps (P := (State.DemandHeld · [])) hx h ?_
    split
    · exact h
    · split
      · exact State.each_keeps (State.DemandHeld · []) State.closeStream s.openStreams { s with grace := none }
          (fun _ k _ hs => hs.closeStream k) ⟨h.fan, h.held⟩
      · exact h
  | _ => first | exact absurd hc (Option.some_ne_none _) | exact absurd (ha.symm.trans rfl) Bool.false_ne_true

theorem demandLaw_kept {s u : State} (hc : s.CountLaw) (hf : s.FanoutLaw) (h : s.DemandLaw) (hx : step s = .next u) :
    u.DemandLaw := by
  have reset (s : State) (held : Bool) : (s.deviceReset held).DemandHeld [] := by
    have current := (State.demandHeld_iff (s := State.reset) rfl).2 State.demandLaw_reset
    exact ⟨rfl, current.held⟩
  have kept := law_step_under (P := (State.DemandHeld · [])) (Q := fun s => s.CountLaw ∧ s.FanoutLaw) demandLawViews
    (fun t ha h => h.of_touches t ha)
    (fun t hq => ⟨hq.1.of_touches t (by decide +kernel), hq.2.quiet t (by decide +kernel)⟩) (by decide +kernel)
    reset demandHeld_rule demandHeld_event ⟨hc, hf⟩ ((State.demandHeld_iff hf.fan).2 h) hx
  exact (State.demandHeld_iff kept.fan).1 kept

end Sys2Proof.Machine
end


section
/-! PROOF. The law of the stored tiers (R139, R140) is kept by every step, from a state that also meets the laws of the
tickets and of the cells' counts. -/
namespace Sys2Proof.Machine

/-- Every station but the listed ones has the tier that its binding gives at its cell. -/
structure State.TierHeld (s : State) (is : List StationIx) : Prop where
  held : ∀ i r, s.station? i = some r → i ∉ is → r.tier = s.tierOf r.binding r.cell

theorem State.tierHeld_iff {s : State} (h : s.TicketLaw) : s.TierHeld [] ↔ s.TierLaw := by
  have unbound (c : CellId) : s.tierOf .unbound c = if (s.cell c).kind = .seat then .none else .lean :=
    s.tierOf_unbound c
  refine ⟨fun hs => ⟨fun i r hr hb => ?_, fun i r hr hb => ?_, fun i r k t hr hb ht => ?_⟩, fun hs => ⟨fun i r hr _ => ?_⟩⟩
  · rw [hs.held i r hr List.not_mem_nil, hb, State.tierOf_fenced]
  · rw [hs.held i r hr List.not_mem_nil, hb, unbound]
  · rw [hs.held i r hr List.not_mem_nil, hb, State.tierOf_bound ht]
  · cases hb : r.binding with
    | fenced => rw [hs.fenced i r hr hb, State.tierOf_fenced]
    | unbound => rw [hs.unbound i r hr hb, unbound]
    | bound k =>
      obtain ⟨-, t, ht, -⟩ := h.bound i r k hr hb
      rw [hs.bound i r k t hr hb ht, State.tierOf_bound ht]

/-- The views that the law rests on. -/
abbrev tierLawViews : List View := [.station .binding, .station .tier, .station .cell, .ticket .section_, .ticket .tier,
  .cell .kind, .cell .section_]

/-- The tier that a binding gives at a cell, by the records of the ticket and the cell. -/
theorem State.tierOf_congr {s u : State} {b : Binding} {c : CellId} (hk : (u.cell c).kind = (s.cell c).kind)
    (hs : (u.cell c).section_ = (s.cell c).section_)
    (ht : ∀ k, b = .bound k → (u.ticket? k).map (fun t => (t.section_, t.tier)) =
      (s.ticket? k).map fun t => (t.section_, t.tier)) : u.tierOf b c = s.tierOf b c := by
  unfold State.tierOf
  dsimp only
  rw [hk, hs]
  cases b with
  | unbound | fenced => cases (s.cell c).kind <;> rfl
  | bound k =>
    have same := ht k rfl
    cases hu : u.ticket? k with
    | none =>
      rw [hu] at same
      have hn := Option.map_eq_none_iff.1 same.symm
      cases (s.cell c).kind <;> simp only [hu, hn]
    | some t =>
      rw [hu] at same
      obtain ⟨q, hq, e⟩ := Option.map_eq_some_iff.1 same.symm
      obtain ⟨hsec, htier⟩ := Prod.mk.injEq .. ▸ e
      cases (s.cell c).kind <;> simp only [hu, hq, hsec, htier]

theorem State.tierOf_of_touches {F : List View} {s u : State} (t : s.Touches F u)
    (ha : View.apart [.ticket .section_, .ticket .tier, .cell .kind, .cell .section_] F = true) (b : Binding)
    (c : CellId) : u.tierOf b c = s.tierOf b c := by
  have apart := (View.apart_iff _ _).1 ha
  refine State.tierOf_congr (t.cellView .kind c (apart _ (View.mem_of (by decide +kernel))))
    (t.cellView .section_ c (apart _ (View.mem_of (by decide +kernel)))) fun k _ => ?_
  have sec := t.ticket .section_ k (apart _ (View.mem_of (by decide +kernel)))
  have tier := t.ticket .tier k (apart _ (View.mem_of (by decide +kernel)))
  cases hu : u.ticket? k with
  | none =>
    rw [hu] at sec
    rw [Option.map_eq_none_iff.1 sec.symm]
  | some x =>
    rw [hu] at sec tier
    obtain ⟨q, hq, hsec⟩ := Option.map_eq_some_iff.1 sec.symm
    rw [hq] at tier ⊢
    exact congrArg some (Prod.ext hsec.symm (Option.some.inj tier))

namespace State.TierHeld
variable {s u : State} {is : List StationIx}

/-- Stations with the bindings, cells and tiers they had, or left out. -/
theorem congr (h : s.TierHeld is) {js : List StationIx} (hj : ∀ i, i ∉ js → i ∉ is)
    (same : ∀ i r, u.station? i = some r → i ∉ js → ∃ q, s.station? i = some q ∧ q.binding = r.binding ∧ q.tier = r.tier
      ∧ q.cell = r.cell ∧ u.tierOf r.binding r.cell = s.tierOf r.binding r.cell) : u.TierHeld js := by
  refine ⟨fun i r hr hi => ?_⟩
  obtain ⟨q, hq, hb, ht, hc, tier⟩ := same i r hr hi
  rw [tier, ← ht, ← hb, ← hc]
  exact h.held i q hq (hj i hi)

theorem of_touches {F : List View} (t : s.Touches F u) (ha : View.apart tierLawViews F = true) (h : s.TierHeld is) :
    u.TierHeld is := by
  have apart := (View.apart_iff _ _).1 ha
  refine h.congr (fun _ => id) fun i r hr _ => ?_
  have binding := t.station .binding i (apart _ (View.mem_of (by decide +kernel)))
  have tier := t.station .tier i (apart _ (View.mem_of (by decide +kernel)))
  have cell := t.station .cell i (apart _ (View.mem_of (by decide +kernel)))
  rw [hr] at binding tier cell
  obtain ⟨q, hq, hb⟩ := Option.map_eq_some_iff.1 binding.symm
  rw [hq] at tier cell
  refine ⟨q, hq, hb, (Option.some.inj tier).symm, (Option.some.inj cell).symm, State.tierOf_of_touches t
    ((View.apart_iff _ _).2 fun v hv => apart v ?_) ..⟩
  exact View.subset_of (F := [.ticket .section_, .ticket .tier, .cell .kind, .cell .section_]) (by decide +kernel) hv

theorem mono {js : List StationIx} (h : s.TierHeld is) (hj : is ⊆ js) : s.TierHeld js :=
  ⟨fun i r hr hi => h.held i r hr fun hi' => hi (hj hi')⟩

/-- A recompute gives the station the tier of its binding. -/
theorem retier {i : StationIx} (h : s.TierHeld (i :: is)) : (s.retier i).TierHeld is := by
  have recomputed : (s.recomputeTier i).1.TierHeld is := by
    have touched := s.recomputeTier_touches (G := retierViews) i
    refine ⟨fun j r hr hj => ?_⟩
    rw [State.tierOf_of_touches touched (by decide +kernel)]
    cases hi : s.station? i with
    | none =>
      have same : s.recomputeTier i = (s, none) := by rw [State.recomputeTier, hi]
      rw [same] at hr
      refine h.held j r hr (List.not_mem_cons_of_ne_of_not_mem ?_ hj)
      rintro rfl
      rw [hi] at hr
      cases hr
    | some q =>
      rw [State.station?_recomputeTier hi] at hr
      split at hr
      · cases hr
        rfl
      · next hne => exact h.held j r hr (List.not_mem_cons_of_ne_of_not_mem hne hj)
  exact recomputed.of_touches (State.tellTier_touches (G := messageViews) ..) (by decide +kernel)

/-- A record rewritten, its tier to be recomputed. -/
theorem putStation (h : s.TierHeld is) (i : StationIx) (r : Station) : (s.putStation i r).TierHeld (i :: is) := by
  refine h.congr (fun j hj => (List.ne_and_not_mem_of_not_mem_cons hj).2) fun j q hq hj => ?_
  rw [State.station?_putStation, if_neg (List.ne_and_not_mem_of_not_mem_cons hj).1] at hq
  exact ⟨q, hq, rfl, rfl, rfl, rfl⟩

/-- A record put that has the tier of its binding. -/
theorem putCurrent (h : s.TierHeld is) (i : StationIx) {r : Station} (hr : r.tier = s.tierOf r.binding r.cell) :
    (s.putStation i r).TierHeld is := by
  refine ⟨fun j q hq hj => ?_⟩
  rw [State.station?_putStation] at hq
  split at hq
  · cases hq
    exact hr
  · exact h.held j q hq hj

theorem unbindStation (h : s.TierHeld is) (i : StationIx) : (s.unbindStation i).TierHeld is := by
  unfold State.unbindStation
  split
  · exact h
  · exact (h.putStation i _).retier

theorem resettle {i : StationIx} (h : s.TierHeld (i :: is)) (a b : CellKind) : (State.resettle a b s i).TierHeld is := by
  unfold State.resettle
  split
  · next hn =>
    refine ⟨fun j r hr hj => h.held j r hr (List.not_mem_cons_of_ne_of_not_mem ?_ hj)⟩
    rintro rfl
    rw [hn] at hr
    cases hr
  · have put := h.putStation i
    exact ((put _).congr (js := i :: is) (fun j hj hm => hj (List.mem_cons.1 hm |>.elim (fun e => e ▸ List.mem_cons_self) id))
      fun j q hq _ => ⟨q, hq, rfl, rfl, rfl, rfl⟩).retier

theorem resettleEach (a b : CellKind) : ∀ {s : State}, s.TierHeld is → (s.each is (State.resettle a b)).TierHeld [] := by
  induction is with
  | nil => exact id
  | cons i is ih => exact fun h => ih (h.resettle a b)

/-- A ticket rewritten with the section and the tier it had. -/
theorem putTicket (h : s.TierHeld is) {k : Token} {t t' : Ticket} (ht : s.ticket? k = some t)
    (hs : t'.section_ = t.section_) (hl : t'.tier = t.tier) : (s.putTicket k t').TierHeld is := by
  refine h.congr (fun _ => id) fun i r hr _ => ⟨r, hr, rfl, rfl, rfl, State.tierOf_congr rfl rfl fun j _ => ?_⟩
  rw [State.ticket?_putTicket]
  split
  · next e => rw [e, ht]; exact congrArg some (Prod.ext hs hl)
  · rfl

theorem bindTicket (h : s.TierHeld []) (x : CellId) (i : StationIx) (r : Station) {k : Token} {t : Ticket}
    (ht : s.ticket? k = some t) : (s.bindTicket x i r k t).TierHeld [] := by
  have joined : (s.join i r k t).TierHeld [i] :=
    (h.putTicket (t' := { t with state := .seated i }) ht rfl rfl).putStation i _
  have recomputed : ((s.join i r k t).recomputeTier i).1.TierHeld [] := by
    refine (joined.retier (is := [])).congr (fun _ => id) fun j q hq _ => ?_
    have told := State.tellTier_touches (G := messageViews) ((s.join i r k t).recomputeTier i).1 i
      ((s.join i r k t).recomputeTier i).2
    exact ⟨q, (told.station? j).trans hq, rfl, rfl, rfl, (State.tierOf_of_touches told (by decide +kernel) ..).symm⟩
  exact (recomputed.of_touches (State.ticketResult_touches (G := messageViews) ..) (by decide +kernel)).of_touches
    (State.tellTier_touches (G := messageViews) ..) (by decide +kernel)

theorem present (h : s.TierHeld []) (x : CellId) (i : StationIx) (k : Token) : (s.present x i k).TierHeld [] := by
  have note {u : State} (hu : u.TierHeld []) (n : Notice) : (u.notify .T n).TierHeld [] :=
    hu.of_touches (State.notify_touches (G := [.portT]) u .T n (View.mem_of rfl)) (by decide +kernel)
  have answered (r : TicketResult) : (s.ticketResult x i r).TierHeld [] :=
    h.of_touches (State.ticketResult_touches (G := messageViews) ..) (by decide +kernel)
  cases hr : s.station? i with
  | none => rw [State.present, hr]; exact h
  | some r =>
    cases ht : s.ticket? k with
    | none => rw [State.present, hr, ht]; exact answered _
    | some t =>
      rw [State.present_eq hr ht]
      split
      · exact note (answered _) _
      · exact note (answered _) _
      · exact note (answered _) _
      · split
        · exact answered _
        · exact note (h.bindTicket x i r ht) _
      · next holder _ =>
        split
        · exact answered _
        · split
          · exact answered _
          · split
            · have same := ((State.unbindStation_touches (G := unbindViews) s holder).ticket? k).trans ht
              exact note ((h.unbindStation holder).bindTicket x i r same) _
            · exact note (answered _) _

theorem remove (h : s.TierHeld []) (hwf : s.stations.wf = true) (i : StationIx) (cause : Cause) :
    (s.remove i cause).TierHeld [] := by
  have touched := s.remove_touches (G := removeViews) i cause
  refine h.congr (fun _ => id) fun j r hr _ => ?_
  rw [State.station?_remove hwf] at hr
  split at hr
  · cases hr
  · exact ⟨r, hr, rfl, rfl, rfl, State.tierOf_of_touches touched (by decide +kernel) ..⟩

theorem completeRoam (h : s.TierHeld []) (i : StationIx) (r : Station) (m : Roam) :
    (s.completeRoam i r m).TierHeld [] := by
  have touched := s.completeRoam_touches (G := roamViews) i r m
  have told := State.tierTold_touches (G := messageViews) (s.roamMoved i r m) i m.pending r.tier (s.arrived r m).tier
  rw [← State.completeRoam_eq] at told
  refine ⟨fun j q hq _ => ?_⟩
  rw [State.tierOf_of_touches touched (by decide +kernel)]
  rw [told.station?, State.station?_roamMoved] at hq
  split at hq
  · cases hq
    have cell : (s.arrived r m).cell = m.pending := by rw [State.arrived_eq]
    rw [cell]
    rfl
  · exact h.held j q hq List.not_mem_nil

end State.TierHeld

/-- The law with the canonical form of the Station Table. -/
def State.TiersKept (s : State) : Prop := s.stations.wf = true ∧ s.TierHeld []

theorem tiersKept_rules : StationRules tierLawViews State.TiersKept where
  quiet t ha h := ⟨t.canon .stations h.1, h.2.of_touches t ha⟩
  portW := by decide +kernel
  noted s i r q h hr hq :=
    have touched := s.noted_touches (hr h.1) hq
    ⟨touched.canon .stations h.1, h.2.of_touches touched (by decide +kernel)⟩
  append s t m h :=
    have touched := State.append_touches (G := messageViews) s t m
    ⟨touched.canon .stations h.1, h.2.of_touches touched (by decide +kernel)⟩
  taken s t h := ⟨h.1, h.2.of_touches (s.taken_touches (G := _) t (fun _ => id)) (by decide +kernel)⟩
  remove s i c h := ⟨(State.remove_touches (G := removeViews) s i c).canon .stations h.1, h.2.remove h.1 i c⟩
  completeRoam s i r m h _ _ :=
    ⟨(State.completeRoam_touches (G := roamViews) s i r m).canon .stations h.1, h.2.completeRoam i r m⟩
  create s x a i h _ _ := by
    have put := h.2.putCurrent i (r := newStation s x a) rfl
    have counted := (s.putStation i (newStation s x a)).countCell_touches (G := countViews) x countsOnly_gain
    exact ⟨counted.canon .stations (Table.wf_put _ _ _ h.1), put.of_touches counted (by decide +kernel)⟩
  startRoam s x i r h _ hr _ _ := by
    have put := h.2.putCurrent i (r := { r with roam := some ⟨x, s.now⟩ }) (h.2.held i r (hr h.1) List.not_mem_nil)
    have counted := (s.putStation i { r with roam := some ⟨x, s.now⟩ }).countCell_touches (G := countViews) x
      countsOnly_expect
    exact ⟨counted.canon .stations (Table.wf_put _ _ _ h.1), put.of_touches counted (by decide +kernel)⟩
  present s x i k h :=
    ⟨(State.present_touches (G := presentViews) s x i k).canon .stations h.1, h.2.present x i k⟩
  subscribe s x i r n h hr :=
    have t := State.subscribe_touches s x i r n hr
    ⟨t.canon .stations h.1, h.2.of_touches t (by decide +kernel)⟩
  unsubscribe s x i r n h hr :=
    have t := State.unsubscribe_touches s x i r n hr
    ⟨t.canon .stations h.1, h.2.of_touches t (by decide +kernel)⟩

/-! ### The rows -/

/-- A ticket that is loaded is new, and so no station is bound to it. -/
theorem State.TierHeld.loadEntry {s : State} (h : s.TierHeld []) (ht : s.TicketLaw) (b : List Byte) (n : Nat) :
    (s.loadEntry b n).1.TierHeld [] := by
  rw [State.loadEntry]
  split
  · exact h
  · split
    · exact h
    · split
      · exact h
      · next hk =>
        split
        · exact h
        · refine h.congr (fun _ => id) fun i r hr _ => ⟨r, hr, rfl, rfl, rfl, State.tierOf_congr rfl rfl fun k hb => ?_⟩
          obtain ⟨-, t, hlive, -⟩ := ht.bound i r k hr hb
          rw [State.ticket?_putTicket, if_neg]
          rintro rfl
          rw [hlive] at hk
          exact hk rfl

theorem State.TierHeld.loadEntries (b : List Byte) (left : Nat) :
    ∀ {s : State} (n : Nat), s.TierHeld [] → s.TicketLaw → (s.loadEntries b n left).1.TierHeld [] := by
  induction left with
  | zero => exact fun _ h _ => h
  | succ left ih => exact fun n h ht => ih (n + 1) (h.loadEntry ht b _) (ht.loadEntry b _)

theorem State.TierHeld.ticketClear {s : State} (h : s.TierHeld []) (b : List Byte) :
    (ticketClearRule b s).state.TierHeld [] := by
  have unbound : (s.each s.boundStations State.unbindStation).TierHeld [] :=
    State.each_keeps (State.TierHeld · []) State.unbindStation s.boundStations s (fun s i _ hs => hs.unbindStation i) h
  have free (i : StationIx) (k : Token) : (s.each s.boundStations State.unbindStation).bindingAt i ≠ some (.bound k) :=
    fun e =>
      have ⟨hn, hb⟩ := State.bindingAt_each_unbind s.boundStations s i k e
      hn (s.mem_boundStations i k hb)
  refine unbound.congr (fun _ => id) fun i r hr _ => ⟨r, hr, rfl, rfl, rfl, State.tierOf_congr rfl rfl fun k hb => ?_⟩
  refine absurd ?_ (free i k)
  have live : (s.each s.boundStations State.unbindStation).station? i = some r := hr
  rw [State.bindingAt, live, Option.map_some, hb]

/-- Cells rewritten with the kinds and sections they had. -/
theorem State.TierHeld.setCells {s : State} {is : List StationIx} (h : s.TierHeld is) (x : Table Cell)
    (hx : ∀ d, (x.get? d).map (fun r => (r.kind, r.section_)) = (s.cells.get? d).map fun r => (r.kind, r.section_)) :
    State.TierHeld { s with cells := x } is := by
  have read (d : CellId) : ((State.cell { s with cells := x } d).kind, (State.cell { s with cells := x } d).section_) =
      ((s.cell d).kind, (s.cell d).section_) := by
    have same := congrArg (·.getD (Cell.reset.kind, Cell.reset.section_)) (hx d)
    rw [Option.getD_map (fun r : Cell => (r.kind, r.section_)), Option.getD_map (fun r : Cell => (r.kind, r.section_))]
      at same
    exact same
  refine h.congr (fun _ => id) fun i r hr _ => ⟨r, hr, rfl, rfl, rfl, ?_⟩
  exact State.tierOf_congr (congrArg Prod.fst (read r.cell)) (congrArg Prod.snd (read r.cell)) fun _ _ => rfl

theorem State.TierHeld.cellSet {s : State} (h : s.TierHeld []) (hc : s.CountLaw) (b : List Byte) :
    (cellSetRule b s).state.TierHeld [] := by
  have elsewhere (x : Table Cell) (hx : ∀ d, d ≠ byteAt b 0 → x.get? d = s.cells.get? d) (js : List StationIx)
      (hj : ∀ i r, s.station? i = some r → i ∉ js → r.cell ≠ byteAt b 0) :
      State.TierHeld { s with cells := x } js := by
    refine h.congr (fun _ _ => List.not_mem_nil) fun i r hr hi => ⟨r, hr, rfl, rfl, rfl, ?_⟩
    have cell : State.cell { s with cells := x } r.cell = s.cell r.cell := by
      rw [State.cell, hx _ (hj i r hr hi)]
      rfl
    exact State.tierOf_congr (by rw [cell]) (by rw [cell]) fun _ _ => rfl
  unfold cellSetRule
  dsimp only
  split
  · exact h
  · split
    · next hn _ =>
      refine elsewhere _ (fun d hd => by rw [Table.get?_put, if_neg hd]) [] fun i r hr _ e => ?_
      have configured := hc.current i r hr
      rw [e, State.configured, hn] at configured
      cases configured
    · next old ho _ =>
      unfold State.rewriteCell
      dsimp only
      split
      · next same =>
        refine h.setCells _ fun d => ?_
        rw [Table.get?_put]
        split
        · next e =>
          rw [e, ho]
          exact congrArg some (Prod.ext same.1.symm same.2.symm)
        · rfl
      · refine State.TierHeld.resettleEach _ _ (elsewhere _ (fun d hd => by rw [Table.get?_put, if_neg hd]) _
          fun i r hr hi e => hi ?_)
        exact List.mem_map.2 ⟨(i, r), List.mem_filter.2 ⟨State.mem_of_station? hr, beq_iff_eq.2 e⟩, rfl⟩
    · exact h
    · next old ho _ =>
      split
      · exact h
      · next hz =>
        have gone := elsewhere (s.cells.del (byteAt b 0))
          (fun d hd => by rw [Table.get?_del _ _ _ hc.cells, if_neg hd]) [] fun i r hr _ e => ?_
        · exact gone.congr (fun _ => id) fun i r hr _ => ⟨r, hr, rfl, rfl, rfl, rfl⟩
        · have counted := hc.attached_pos hr (e ▸ ho)
          omega

theorem tiersKept_rule (c : Command) (b : List Byte) (s : State)
    (hv : View.apart tierLawViews (Command.footprint c) = false) (hq : s.TicketLaw ∧ s.CountLaw) (h : s.TiersKept) :
    (c.rule b s).state.TiersKept := by
  refine ⟨(c.rule_touches b s).canon .stations h.1, ?_⟩
  have held := h.2
  cases c with
  | cellSet => exact held.cellSet hq.2 b
  | stationDetach => exact (tiersKept_rules.stationDetach h b).2
  | stationClear => exact (tiersKept_rules.stationClear h b).2
  | ticketLoad =>
    change (ticketLoadRule b s).state.TierHeld []
    unfold ticketLoadRule
    split
    · exact held
    · exact held.loadEntries b _ 0 hq.1
  | gateAdmit =>
    refine onTicket_keeps (P := (State.TierHeld · [])) b s _ held fun k t ht => ?_
    have entered := held.putTicket (t' := t.enter) ht rfl rfl
    split
    · exact entered
    · exact entered
    · exact held
    · split
      · exact entered.unbindStation _
      · exact held
    · exact held
  | gateExit =>
    refine onTicket_keeps (P := (State.TierHeld · [])) b s _ held fun k t ht => ?_
    have exited := held.putTicket (t' := { t with state := .exited }) ht rfl rfl
    split
    · exact exited
    · exact exited.unbindStation _
    all_goals exact held
  | ticketVoid =>
    refine onTicket_keeps (P := (State.TierHeld · [])) b s _ held fun k t ht => ?_
    have voided := held.putTicket (t' := { t with state := .void }) ht rfl rfl
    split
    · exact voided.unbindStation _
    · exact voided
    · exact voided
    · exact voided
    · exact held
  | ticketClear => exact held.ticketClear b
  | _ => exact absurd hv (by decide +kernel)

theorem tiersKept_event (i : Instr) (s u : State) (hc : portCommand i = none) (hd : i ≠ .deviceReset)
    (hl : i ≠ .resetLineAsserted) (ha : View.apart tierLawViews (rowFootprint i) = false)
    (_ : s.TicketLaw ∧ s.CountLaw) (h : s.TiersKept) (hx : exec i s = .next u) : u.TiersKept := by
  cases i with
  | deviceReset => exact absurd rfl hd
  | resetLineAsserted => exact absurd rfl hl
  | reportTake => exact tiersKept_rules.reportTake h hx
  | roamTimeout i => exact tiersKept_rules.roamTimeout h hx
  | ageExpiry i => exact tiersKept_rules.ageExpiry h hx
  | seatGraceExpiry i =>
    refine ⟨(exec_touches hd hl hx).canon .stations h.1, ?_⟩
    change execSeatGraceExpiry i s = _ at hx
    refine live_keeps (P := (State.TierHeld · [])) hx h.2 ?_
    split
    · exact h.2
    · split
      · exact h.2
      · split
        · exact (h.2.putStation i _).retier.of_touches (State.fenceSteer_touches (G := messageViews) ..)
            (by decide +kernel)
        · exact h.2
  | _ => first | exact absurd hc (Option.some_ne_none _) | exact absurd (ha.symm.trans rfl) Bool.false_ne_true

theorem tierLaw_kept {s u : State} (ht : s.TicketLaw) (hc : s.CountLaw) (h : s.TierLaw) (hx : step s = .next u) :
    u.TierLaw := by
  have kept := law_step_under (P := State.TiersKept) (Q := fun s => s.TicketLaw ∧ s.CountLaw) tierLawViews
    tiersKept_rules.quiet
    (fun t hq => ⟨ticketLaw_of_touches t (by decide +kernel) hq.1, hq.2.of_touches t (by decide +kernel)⟩)
    (by decide +kernel) (fun _ _ => ⟨rfl, ⟨nofun⟩⟩) tiersKept_rule tiersKept_event ⟨ht, hc⟩
    ⟨ht.stations, (State.tierHeld_iff ht).2 h⟩ hx
  exact (State.tierHeld_iff (ticketLawKept s u ht hx)).1 kept.2

/-- Settles O59: the three laws, each through the rows that touch its views. -/
theorem fanoutLawKept : Obligations.FanoutLawKept :=
  ⟨fun _ _ => fanoutLaw_kept, fun _ _ => demandLaw_kept, fun _ _ => tierLaw_kept⟩

end Sys2Proof.Machine
end


section
/-! PROOF. The law of the auto-standby idle timers (R30) is kept by every step, and a timer that runs after a step runs
on from its stamp or has started now. -/
namespace Sys2Proof.Machine

/-- The idle timer of a trunk runs where R30 says so, from a stamp of `base` or from now. -/
structure State.IdleAt (base : TrunkId → Option Time) (s : State) (t : TrunkId) : Prop where
  timer : (s.trunk t).idle.isSome = true ↔ (s.trunk t).state = .active ∧ (s.trunk t).idlePeriod ≠ 0 ∧ s.Deserted t
  stamp : ∀ stamp, (s.trunk t).idle = some stamp → base t = some stamp ∨ stamp = s.now

/-- The law of the idle timers, with the origin of every stamp. -/
structure State.IdleHeld (base : TrunkId → Option Time) (s : State) : Prop where
  cells : s.cells.wf = true
  timers : ∀ t, s.IdleAt base t

/-- A trunk is deserted by the counts of its own cells. -/
theorem State.deserted_congr {s u : State} {t : TrunkId}
    (h : ∀ c, trunkOf c = t → (u.cell c).attached = (s.cell c).attached ∧ (u.cell c).incoming = (s.cell c).incoming) :
    u.Deserted t ↔ s.Deserted t := by
  refine forall_congr' fun pos => forall_congr' fun hp => ?_
  obtain ⟨attached, incoming⟩ := h _ (trunkOf_cellAt t hp)
  rw [attached, incoming]

namespace State.IdleAt
variable {base : TrunkId → Option Time} {s u : State} {t : TrunkId}

/-- A trunk whose state, period, timer and counts stay. -/
theorem same (h : s.IdleAt base t) (hn : u.now = s.now) (hs : (u.trunk t).state = (s.trunk t).state)
    (hp : (u.trunk t).idlePeriod = (s.trunk t).idlePeriod) (hi : (u.trunk t).idle = (s.trunk t).idle)
    (hd : u.Deserted t ↔ s.Deserted t) : u.IdleAt base t :=
  ⟨by rw [hs, hp, hi, hd]; exact h.timer, by rw [hi, hn]; exact h.stamp⟩

/-- A trunk that is not ACTIVE, with its timer stopped. -/
theorem stopped (hs : (s.trunk t).state ≠ .active) (hi : (s.trunk t).idle = none) : s.IdleAt base t :=
  ⟨by rw [hi]; exact ⟨nofun, fun h => absurd h.1 hs⟩, by rw [hi]; nofun⟩

/-- The timer of a trunk that is not ACTIVE is stopped. -/
theorem idle_none (h : s.IdleAt base t) (hs : (s.trunk t).state ≠ .active) : (s.trunk t).idle = none := by
  cases hi : (s.trunk t).idle with
  | none => rfl
  | some stamp => exact absurd (h.timer.1 (by rw [hi]; rfl)).1 hs

/-- The update settles the timer of its trunk. -/
theorem updated (h : ∀ stamp, (s.trunk t).idle = some stamp → base t = some stamp ∨ stamp = s.now) :
    (s.idleUpdate t).IdleAt base t := by
  have touched := s.idleUpdate_touches t (G := [.trunks, .trunk .idle])
  have record := congrArg (fun v : State => v.trunk t) (s.idleUpdate_eq t)
  dsimp only at record
  rw [State.trunk_setTrunk, if_pos rfl] at record
  have deserted : (s.idleUpdate t).Deserted t ↔ s.Deserted t :=
    State.deserted_congr fun c _ => by rw [touched.cellAll]; exact ⟨rfl, rfl⟩
  refine ⟨?_, fun stamp hs => ?_⟩
  · rw [deserted, record]
    dsimp only
    rw [← s.idleHolds_iff t]
    cases s.idleHolds t <;> simp
  · rw [record] at hs
    dsimp only at hs
    rw [touched.now]
    split at hs
    · cases hi : (s.trunk t).idle with
      | none =>
        rw [hi] at hs
        exact .inr (Option.some.inj hs).symm
      | some old =>
        rw [hi] at hs
        exact h stamp (hi.trans hs)
    · cases hs

end State.IdleAt

/-- The views that the law rests on. -/
abbrev idleLawViews : List View := [.now, .trunk .state, .trunk .idlePeriod, .trunk .idle, .cell .attached,
  .cell .incoming]

namespace State.IdleHeld
variable {base : TrunkId → Option Time} {s u : State}

theorem of_touches {F : List View} (t : s.Touches F u) (ha : View.apart idleLawViews F = true)
    (h : s.IdleHeld base) : u.IdleHeld base := by
  have apart := (View.apart_iff _ _).1 ha
  refine ⟨t.canon .cells h.cells, fun x => (h.timers x).same (t.now (apart _ (View.mem_of (by decide +kernel))))
    (t.trunk .state x (apart _ (View.mem_of (by decide +kernel))))
    (t.trunk .idlePeriod x (apart _ (View.mem_of (by decide +kernel))))
    (t.trunk .idle x (apart _ (View.mem_of (by decide +kernel)))) (State.deserted_congr fun c _ => ?_)⟩
  exact ⟨t.cellView .attached c (apart _ (View.mem_of (by decide +kernel))),
    t.cellView .incoming c (apart _ (View.mem_of (by decide +kernel)))⟩

/-- The counts of a cell change, and the timer of its trunk is settled. -/
theorem countCell (h : s.IdleHeld base) (c : CellId) {f : Cell → Cell} (hf : CountsOnly f) :
    (s.countCell c f).IdleHeld base := by
  have touched := s.countCell_touches (G := countViews) c hf
  have frame := s.modCell_frame c f
  refine ⟨touched.canon .cells h.cells, fun t => ?_⟩
  have record (t : TrunkId) : (s.modCell c f).trunk t = s.trunk t := by rw [frame]; rfl
  by_cases ht : t = trunkOf c
  · rw [ht]
    refine State.IdleAt.updated fun stamp hs => ?_
    have now : (s.modCell c f).now = s.now := by rw [frame]
    rw [record] at hs
    rw [now]
    exact (h.timers _).stamp stamp hs
  · have kept : (s.countCell c f).trunk t = s.trunk t := by
      rw [State.countCell, State.trunk_idleUpdate, if_neg ht, record]
    refine (h.timers t).same touched.now (by rw [kept]) (by rw [kept]) (by rw [kept]) (State.deserted_congr fun d hd => ?_)
    have away : d ≠ c := by
      rintro rfl
      exact ht hd.symm
    have cell : (s.countCell c f).cell d = s.cell d := by
      rw [State.cell, State.cells_countCell, if_neg away]
      rfl
    rw [cell]
    exact ⟨rfl, rfl⟩

/-- One trunk's record changes; no count does. -/
theorem changed {F : List View} (h : s.IdleHeld base) (x : s.Touches F u) (hn : View.now ∉ F)
    (ha : View.cell .attached ∉ F) (hi : View.cell .incoming ∉ F) (t : TrunkId)
    (others : ∀ t', t' ≠ t → (u.trunk t').state = (s.trunk t').state
      ∧ (u.trunk t').idlePeriod = (s.trunk t').idlePeriod ∧ (u.trunk t').idle = (s.trunk t').idle)
    (here : u.IdleAt base t) : u.IdleHeld base := by
  refine ⟨x.canon .cells h.cells, fun t' => ?_⟩
  by_cases ht : t' = t
  · rw [ht]
    exact here
  · obtain ⟨hs, hp, hidle⟩ := others t' ht
    exact (h.timers t').same (x.now hn) hs hp hidle
      (State.deserted_congr fun c _ => ⟨x.cellView .attached c ha, x.cellView .incoming c hi⟩)

theorem quitTrunk (h : s.IdleHeld base) (t : TrunkId) {dest : TrunkState} (hd : dest ≠ .active) (entry : Option Time) :
    (s.quitTrunk t dest entry).IdleHeld base := by
  have record := s.trunk_quitTrunk t dest entry
  refine h.changed (s.quitTrunk_touches (G := quitViews) t dest entry) (View.not_mem_of (by decide +kernel))
    (View.not_mem_of (by decide +kernel)) (View.not_mem_of (by decide +kernel)) t (fun t' ht => ?_) (.stopped ?_ ?_)
  · rw [record, if_neg ht]
    exact ⟨rfl, rfl, rfl⟩
  · rw [record, if_pos rfl]
    exact hd
  · rw [record, if_pos rfl]
    rfl

/-- A record written with the state, the period and the timer it had. -/
theorem setSame (h : s.IdleHeld base) (t : TrunkId) (r : Trunk) (hs : r.state = (s.trunk t).state)
    (hp : r.idlePeriod = (s.trunk t).idlePeriod) (hi : r.idle = (s.trunk t).idle) : (s.setTrunk t r).IdleHeld base := by
  have record := s.trunk_setTrunk t r
  refine ⟨h.cells, fun t' => (h.timers t').same rfl ?_ ?_ ?_ Iff.rfl⟩
  all_goals
    rw [record]
    split
    · next e => rw [e]; assumption
    · rfl

/-- A record written of a trunk that is ACTIVE neither before nor after. -/
theorem setAway (h : s.IdleHeld base) (t : TrunkId) (r : Trunk) (hs : (s.trunk t).state ≠ .active)
    (hr : r.state ≠ .active) (hi : r.idle = (s.trunk t).idle) : (s.setTrunk t r).IdleHeld base := by
  have record := s.trunk_setTrunk t r
  refine ⟨h.cells, fun t' => ?_⟩
  by_cases ht : t' = t
  · subst ht
    refine .stopped ?_ ?_
    · rw [record, if_pos rfl]
      exact hr
    · rw [record, if_pos rfl, hi]
      exact (h.timers t').idle_none hs
  · have kept := (record t').trans (if_neg ht)
    exact (h.timers t').same rfl (by rw [kept]) (by rw [kept]) (by rw [kept]) Iff.rfl

theorem enterActive (h : s.IdleHeld base) (t : TrunkId) (why : TrunkReason) : (s.enterActive t why).IdleHeld base := by
  have record := s.trunk_enterActive t why
  refine h.changed (s.enterActive_touches (G := activeViews) t why) (View.not_mem_of (by decide +kernel))
    (View.not_mem_of (by decide +kernel)) (View.not_mem_of (by decide +kernel)) t (fun t' ht => ?_) ?_
  · rw [record, if_neg ht]
    exact ⟨rfl, rfl, rfl⟩
  · unfold State.enterActive
    dsimp only
    refine State.IdleAt.updated fun stamp hs => ?_
    have before : State.Touches [.demand, .portW, .portV]
        (s.setTrunk t { s.trunk t with state := .active, entry := none, bad := 0 })
        (State.recomputeAll ((s.setTrunk t { s.trunk t with state := .active, entry := none, bad := 0 }).trunkNotice t
          (s.trunk t).state .active why)) :=
      .trans (State.trunkNotice_touches ..) (State.recomputeAll_touches ..)
    rw [before.trunkAll, State.trunk_setTrunk, if_pos rfl] at hs
    rw [before.now]
    exact (h.timers t).stamp stamp hs

theorem enterLost (h : s.IdleHeld base) (t : TrunkId) : (s.enterLost t).IdleHeld base := by
  have record := s.trunk_enterLost t
  refine h.changed (s.enterLost_touches (G := lostViews) t) (View.not_mem_of (by decide +kernel))
    (View.not_mem_of (by decide +kernel)) (View.not_mem_of (by decide +kernel)) t (fun t' ht => ?_) (.stopped ?_ ?_)
  · rw [record, if_neg ht]
    exact ⟨rfl, rfl, rfl⟩
  · rw [record, if_pos rfl]
    exact TrunkState.noConfusion
  · rw [record, if_pos rfl]

theorem judge (h : s.IdleHeld base) (t : TrunkId) : (s.judge t).IdleHeld base := by
  have good (n : Nat) := h.setSame t { s.trunk t with good := n } rfl rfl rfl
  have bad (n : Nat) := h.setSame t { s.trunk t with bad := n } rfl rfl rfl
  unfold State.judge
  split
  · unfold State.judgedGood
    dsimp only
    split
    · split
      · exact good 1
      · exact (good 2).enterActive t _
    · split
      · exact good 1
      · exact (good 2).enterActive t _
    · exact bad 0
    all_goals exact h
  · unfold State.judgedBad
    dsimp only
    split
    · exact good 0
    · exact good 0
    · split
      · exact bad 1
      · exact h.enterLost t
    all_goals exact h

/-! ### Stations -/

theorem putStation (h : s.IdleHeld base) (i : StationIx) (r : Station) : (s.putStation i r).IdleHeld base :=
  h.of_touches (State.newStation_touches (G := stationViews) s i r) (by decide +kernel)

theorem leaveCells (h : s.IdleHeld base) (r : Station) : (s.leaveCells r).IdleHeld base := by
  unfold State.leaveCells
  dsimp only
  split
  · exact (h.countCell r.cell countsOnly_lose).countCell _ countsOnly_unexpect
  · exact h.countCell r.cell countsOnly_lose

theorem remove (h : s.IdleHeld base) (i : StationIx) (cause : Cause) : (s.remove i cause).IdleHeld base := by
  cases hr : s.station? i with
  | none => rw [State.remove, hr]; exact h
  | some r =>
    have left := h.of_touches (State.leaveCounts_touches (G := [.fan]) s r.cell r.tier r.subs) (by decide +kernel)
    have told := (left.putStation i { r with subs := [] }).of_touches
      (State.recomputeEach_touches (G := [.demand, .portV]) _ r.subs) (by decide +kernel)
    have released := (told.leaveCells r).of_touches
      (State.releaseTicket_touches (G := [.tickets, .ticket .state, .portT]) _ i r.binding cause) (by decide +kernel)
    rw [State.remove_eq s i r cause hr]
    exact released.of_touches (State.delStation_touches (G := stationViews) _ i) (by decide +kernel)

theorem completeRoam (h : s.IdleHeld base) (i : StationIx) (r : Station) (m : Roam) :
    (s.completeRoam i r m).IdleHeld base := by
  have left := h.of_touches (State.leaveCounts_touches (G := [.fan]) s r.cell r.tier r.subs) (by decide +kernel)
  have moved := ((left.countCell r.cell countsOnly_lose).countCell m.pending countsOnly_arrive).putStation i (s.arrived r m)
  unfold State.completeRoam
  dsimp only
  exact moved.of_touches (F := [.fan, .demand, .portV] ++ messageViews)
    (.trans (State.joinCounts_touches ..) (.trans (State.tellTier_touches ..) (State.recomputeEach_touches ..)))
    (by decide +kernel)

end State.IdleHeld

theorem idleHeld_rules (base : TrunkId → Option Time) : StationRules idleLawViews (State.IdleHeld base) where
  quiet t ha h := h.of_touches t ha
  portW := by decide +kernel
  noted _ i _ _ h _ _ := h.putStation i _
  append s t m h := h.of_touches (State.append_touches (G := messageViews) s t m) (by decide +kernel)
  taken s t h := h.of_touches (s.taken_touches (G := _) t (fun _ => id)) (by decide +kernel)
  remove _ i c h := h.remove i c
  completeRoam _ i r m h _ _ := h.completeRoam i r m
  create _ x a i h _ _ := (h.putStation i _).countCell x countsOnly_gain
  startRoam _ x i r h _ _ _ _ := (h.putStation i _).countCell x countsOnly_expect
  present s x i k h := h.of_touches (State.present_touches (G := presentViews) s x i k) (by decide +kernel)
  subscribe s x i r n h hr := h.of_touches (State.subscribe_touches s x i r n hr) (by decide +kernel)
  unsubscribe s x i r n h hr := h.of_touches (State.unsubscribe_touches s x i r n hr) (by decide +kernel)

/-! ### The rows -/

section
variable {base : TrunkId → Option Time} {s u : State}

/-- Cells written with the counts they had, a cell that is not configured counting none. -/
theorem State.IdleHeld.setCells (h : s.IdleHeld base) {x : Table Cell} (hx : x.wf = true)
    (hc : ∀ c, (State.cell { s with cells := x } c).attached = (s.cell c).attached
      ∧ (State.cell { s with cells := x } c).incoming = (s.cell c).incoming) :
    State.IdleHeld base { s with cells := x } :=
  ⟨hx, fun t => (h.timers t).same rfl rfl rfl rfl (State.deserted_congr fun c _ => hc c)⟩

theorem State.IdleHeld.cellSet (h : s.IdleHeld base) (b : List Byte) : (cellSetRule b s).state.IdleHeld base := by
  have put (y : Cell) (ha : y.attached = (s.cell (byteAt b 0)).attached) (hi : y.incoming = (s.cell (byteAt b 0)).incoming) :
      State.IdleHeld base { s with cells := s.cells.put (byteAt b 0) y } := by
    refine h.setCells (Table.wf_put _ _ _ h.cells) fun c => ?_
    by_cases hc : c = byteAt b 0
    · have cell : State.cell { s with cells := s.cells.put (byteAt b 0) y } c = y := by
        rw [State.cell, Table.get?_put, if_pos hc]
        rfl
      rw [cell, hc]
      exact ⟨ha, hi⟩
    · have cell : State.cell { s with cells := s.cells.put (byteAt b 0) y } c = s.cell c := by
        rw [State.cell, Table.get?_put, if_neg hc]
        rfl
      rw [cell]
      exact ⟨rfl, rfl⟩
  unfold cellSetRule
  dsimp only
  split
  · exact h
  · split
    · next hn _ =>
      have reset : s.cell (byteAt b 0) = Cell.reset := by rw [State.cell, hn]; rfl
      exact put _ (by rw [reset]; rfl) (by rw [reset]; rfl)
    · next old ho _ =>
      have live : s.cell (byteAt b 0) = old := by rw [State.cell, ho]; rfl
      have rewritten := put (old.configure (byteAt b 0) b) (by rw [live]; rfl) (by rw [live]; rfl)
      unfold State.rewriteCell
      dsimp only
      split
      · exact rewritten
      · exact rewritten.of_touches (F := unbindViews) (.each (fun s i => State.resettle_touches ..) _) (by decide +kernel)
    · exact h
    · next old ho _ =>
      split
      · exact h
      · next hz =>
        have live : s.cell (byteAt b 0) = old := by rw [State.cell, ho]; rfl
        have gone : State.IdleHeld base { s with cells := s.cells.del (byteAt b 0) } := by
          refine h.setCells (Table.wf_del _ _ h.cells) fun c => ?_
          by_cases hc : c = byteAt b 0
          · have cell : State.cell { s with cells := s.cells.del (byteAt b 0) } c = Cell.reset := by
              rw [State.cell, Table.get?_del _ _ _ h.cells, if_pos hc]
              rfl
            have none_ : old.attached = 0 ∧ old.incoming = 0 := by omega
            rw [cell, hc, live, none_.1, none_.2]
            exact ⟨rfl, rfl⟩
          · have cell : State.cell { s with cells := s.cells.del (byteAt b 0) } c = s.cell c := by
              rw [State.cell, Table.get?_del _ _ _ h.cells, if_neg hc]
              rfl
            rw [cell]
            exact ⟨rfl, rfl⟩
        exact gone.setSame _ _ rfl rfl rfl

theorem State.IdleHeld.trunkSet (h : s.IdleHeld base) (b : List Byte) : (trunkSetRule b s).state.IdleHeld base := by
  refine onTrunk_keeps (P := State.IdleHeld base) b s _ h fun t => ?_
  split
  · next en aw mc _ _ _ =>
    have stored : State.IdleHeld base ((s.setTrunk t ((s.trunk t).store s.now en aw (min 3600 (numAt b 4 2)) mc
        (min 320 (numAt b 8 2)))).idleUpdate t) := by
      have touched : s.Touches storeViews ((s.setTrunk t ((s.trunk t).store s.now en aw (min 3600 (numAt b 4 2)) mc
          (min 320 (numAt b 8 2)))).idleUpdate t) :=
        .trans (State.store_touches ..) (State.idleUpdate_touches ..)
      refine h.changed touched (View.not_mem_of (by decide +kernel)) (View.not_mem_of (by decide +kernel))
        (View.not_mem_of (by decide +kernel)) t (fun t' ht => ?_) (State.IdleAt.updated fun stamp hs => ?_)
      · rw [State.trunk_idleUpdate, if_neg ht, State.trunk_setTrunk, if_neg ht]
        exact ⟨rfl, rfl, rfl⟩
      · rw [State.trunk_setTrunk, if_pos rfl, Trunk.store] at hs
        dsimp only at hs
        split at hs
        · obtain ⟨_, _, e⟩ := Option.map_eq_some_iff.1 hs
          exact .inr e.symm
        · exact (h.timers t).stamp stamp hs
    dsimp only
    split
    · unfold State.enable
      split
      · next ho => exact stored.setAway t _ (by rw [ho]; decide) TrunkState.noConfusion rfl
      all_goals exact stored
    · unfold State.disable
      split
      · exact stored
      all_goals exact (stored.quitTrunk t (by decide) none).setSame t _ rfl rfl rfl
  · exact h

theorem State.IdleHeld.standDown (h : s.IdleHeld base) (t : TrunkId) : (s.standDown t).IdleHeld base := by
  unfold State.standDown
  split
  · exact h
  · exact h
  all_goals exact h.quitTrunk t (by decide) none

theorem idleHeld_rule (c : Command) (b : List Byte) (s : State)
    (hv : View.apart idleLawViews (Command.footprint c) = false) (h : s.IdleHeld base) :
    (c.rule b s).state.IdleHeld base := by
  cases c with
  | cellSet => exact h.cellSet b
  | stationDetach => exact (idleHeld_rules base).stationDetach h b
  | stationClear => exact (idleHeld_rules base).stationClear h b
  | trunkSet => exact h.trunkSet b
  | trunkStart =>
    refine onTrunk_keeps (P := State.IdleHeld base) b s _ h fun t => ?_
    split
    · exact h
    · next hs => exact h.setAway t _ (by rw [hs]; decide) TrunkState.noConfusion rfl
    all_goals exact h
  | trunkStandby =>
    refine onTrunk_keeps (P := State.IdleHeld base) b s _ h fun t => ?_
    split
    · exact h
    all_goals exact h.standDown t
  | trunkReset =>
    refine onTrunk_keeps (P := State.IdleHeld base) b s _ h fun t => ?_
    split
    · exact h
    all_goals exact (h.standDown t).setSame t _ rfl rfl rfl
  | _ => exact absurd hv (by decide +kernel)

theorem idleHeld_event (i : Instr) (s u : State) (hc : portCommand i = none) (hd : i ≠ .deviceReset)
    (hl : i ≠ .resetLineAsserted) (ha : View.apart idleLawViews (rowFootprint i) = false)
    (hq : ∀ t, (s.trunk t).idle = base t) (h : s.IdleHeld base) (hx : exec i s = .next u) : u.IdleHeld base := by
  have noted {v : State} (hv : v.IdleHeld base) (t : TrunkId) (a b : TrunkState) (why : TrunkReason) :
      (v.trunkNotice t a b why).IdleHeld base :=
    hv.of_touches (State.trunkNotice_touches (G := [.portW]) v t a b why) (by decide +kernel)
  cases i with
  | deviceReset => exact absurd rfl hd
  | resetLineAsserted => exact absurd rfl hl
  | sectorTimeTick =>
    change execSectorTimeTick s = _ at hx
    refine live_keeps (P := State.IdleHeld base) hx h ⟨h.cells, fun t => ⟨(h.timers t).timer, fun stamp hs => ?_⟩⟩
    exact .inl ((hq t).symm.trans hs)
  | reportTake => exact (idleHeld_rules base).reportTake h hx
  | roamTimeout i => exact (idleHeld_rules base).roamTimeout h hx
  | ageExpiry i => exact (idleHeld_rules base).ageExpiry h hx
  | wakeSignal t =>
    change execWakeSignal t s = _ at hx
    refine live_keeps (P := State.IdleHeld base) hx h ?_
    split
    · next hs =>
      split
      · exact noted (h.setAway t { s.trunk t with state := .waking, entry := some s.now } (by rw [hs]; decide)
          TrunkState.noConfusion rfl) ..
      · exact h
    all_goals exact h
  | upstreamSignalDetected t =>
    change execUpstreamSignalDetected t s = _ at hx
    refine live_keeps (P := State.IdleHeld base) hx h ?_
    split
    · next hs => exact noted (h.setAway t { (s.trunk t).stopFraming with state := .aligning, entry := some s.now, good := 0 }
        (by rw [hs]; decide) TrunkState.noConfusion rfl) ..
    all_goals exact h
  | wakeTimeout t =>
    change execWakeTimeout t s = _ at hx
    refine live_keeps (P := State.IdleHeld base) hx h ?_
    split
    · split
      · exact noted (h.quitTrunk t (by decide) _) ..
      · exact h
    all_goals exact h
  | alignTimeout t =>
    change execAlignTimeout t s = _ at hx
    refine live_keeps (P := State.IdleHeld base) hx h ?_
    split
    · split
      · exact noted (h.quitTrunk t (by decide) _) ..
      · exact h
    all_goals exact h
  | lostGiveUp t =>
    change execLostGiveUp t s = _ at hx
    refine live_keeps (P := State.IdleHeld base) hx h ?_
    split
    · split
      · exact noted (h.quitTrunk t (by decide) _) ..
      · exact h
    all_goals exact h
  | idleTimerExpiry t =>
    change execIdleTimerExpiry t s = _ at hx
    refine live_keeps (P := State.IdleHeld base) hx h ?_
    split
    · split
      · exact noted (h.quitTrunk t (by decide) _) ..
      · exact h
    all_goals exact h
  | upstreamFrameReceived t f =>
    change execUpstreamFrameReceived t f s = _ at hx
    refine live_keeps (P := State.IdleHeld base) hx h ?_
    split
    · have settled := h.of_touches (State.settleFrame_touches (G := settleViews) s t f) (by decide +kernel)
      have tallied := settled.setSame t (((s.settleFrame t f).trunk t).tally f) rfl rfl rfl
      unfold State.takeUpstream
      dsimp only
      split
      · exact tallied.judge t
      · exact tallied
    · exact h
  | _ => first | exact absurd hc (Option.some_ne_none _) | exact absurd (ha.symm.trans rfl) Bool.false_ne_true

end

theorem idleLaw_kept {s u : State} (h : s.IdleLaw) (hx : step s = .next u) :
    u.IdleHeld fun t => (s.trunk t).idle := by
  have reset (base : TrunkId → Option Time) (s : State) (held : Bool) : (s.deviceReset held).IdleHeld base :=
    by
    refine ⟨rfl, fun t => ?_⟩
    have record : (s.deviceReset held).trunk t = .reset := State.trunk_reset t
    exact .stopped (by rw [record]; decide) (by rw [record]; rfl)
  exact law_step_under (P := State.IdleHeld fun t => (s.trunk t).idle)
    (Q := fun v => ∀ t, (v.trunk t).idle = (s.trunk t).idle) idleLawViews
    (fun t ha h => h.of_touches t ha)
    (fun x hq t => (x.trunk .idle t (View.not_mem_of (by decide +kernel))).trans (hq t)) (by decide +kernel)
    (reset _) (fun c b s hv _ => idleHeld_rule c b s hv) idleHeld_event (fun _ => rfl)
    ⟨h.cells, fun t => ⟨h.timers t, fun _ hs => .inl hs⟩⟩ hx

end Sys2Proof.Machine
end


section
/-! PROOF. The laws of a trunk's record (R21, R22, R33, R45, R61, R63, R170, R175) are kept by every step. -/
namespace Sys2Proof.Machine

/-- The parts of a trunk's record that its laws speak of. -/
abbrev soundViews : List View := [.trunk .intake, .trunk .control, .trunk .urgent, .trunk .pollList, .trunk .regular,
  .trunk .rmin, .trunk .idlePeriod, .trunk .good, .trunk .bad, .trunk .nextFrame, .trunk .state, .trunk .frame,
  .trunk .echo, .trunk .ack, .trunk .replay, .trunk .allocation]

/-! ### One record -/

namespace Trunk.Sound
variable {r q : Trunk}

theorem of_views (h : r.Sound) (hv : ∀ x, View.trunk x ∈ soundViews → q.view x = r.view x) : q.Sound := by
  have intake : q.intake = r.intake := hv .intake (View.mem_of (by decide +kernel))
  have control : q.control = r.control := hv .control (View.mem_of (by decide +kernel))
  have urgent : q.urgent = r.urgent := hv .urgent (View.mem_of (by decide +kernel))
  have list : q.pollList = r.pollList := hv .pollList (View.mem_of (by decide +kernel))
  have regular : q.regular = r.regular := hv .regular (View.mem_of (by decide +kernel))
  have rmin : q.rmin = r.rmin := hv .rmin (View.mem_of (by decide +kernel))
  have period : q.idlePeriod = r.idlePeriod := hv .idlePeriod (View.mem_of (by decide +kernel))
  have good : q.good = r.good := hv .good (View.mem_of (by decide +kernel))
  have bad : q.bad = r.bad := hv .bad (View.mem_of (by decide +kernel))
  have number : q.nextFrame = r.nextFrame := hv .nextFrame (View.mem_of (by decide +kernel))
  have state : q.state = r.state := hv .state (View.mem_of (by decide +kernel))
  have frame : q.frame = r.frame := hv .frame (View.mem_of (by decide +kernel))
  have echo : q.echo = r.echo := hv .echo (View.mem_of (by decide +kernel))
  have ack : q.ack = r.ack := hv .ack (View.mem_of (by decide +kernel))
  have replay : q.replay = r.replay := hv .replay (View.mem_of (by decide +kernel))
  have allocation : q.allocation = r.allocation := hv .allocation (View.mem_of (by decide +kernel))
  exact
    { intake := by rw [intake]; exact h.intake
      control := by rw [control]; exact h.control
      urgent := by rw [urgent]; exact h.urgent
      list := by rw [list]; exact h.list
      regular := by rw [regular, list]; exact h.regular
      settings := by rw [rmin, period]; exact h.settings
      judged := by rw [good, bad]; exact h.judged
      number := by rw [number]; exact h.number
      silent := by rw [state, frame, echo, ack]; exact h.silent
      idle := by rw [state, control]; exact h.idle
      bare := by rw [state, replay, allocation]; exact h.bare
      off := by rw [state, intake, urgent]; exact h.off }

theorem taken (h : r.Sound) : Trunk.Sound { r with intake := r.intake.tail } :=
  { h with
    intake := Nat.le_trans (List.length_tail ▸ Nat.sub_le ..) h.intake
    off := fun ho => ⟨by rw [(h.off ho).1]; rfl, (h.off ho).2⟩ }

theorem appended (h : r.Sound) (m : Ctl) (hs : r.state.serving = true) (hc : r.control.length < 512) :
    Trunk.Sound { r with control := r.control ++ [m] } :=
  { h with
    control := by rw [List.length_append]; exact hc
    idle := fun hn => absurd hs (ne_true_of_eq_false hn) }

theorem left (h : r.Sound) {dest : TrunkState} (hf : dest.framing = false) (ho : dest ≠ .off) (entry : Option Time) :
    (r.left dest entry).Sound := by
  have state : (r.left dest entry).state = dest := rfl
  have serving : dest.serving = false := by cases dest <;> first | rfl | cases hf
  exact
    { h with
      control := Nat.zero_le _
      number := (by decide : 0 < 16)
      silent := fun _ => ⟨rfl, rfl, rfl⟩
      idle := fun _ => rfl
      bare := fun _ => ⟨by
        unfold Trunk.left
        by_cases ha : r.state = .active
        · exact if_pos ha
        · exact (if_neg ha).trans (h.bare ha).1, rfl⟩
      off := fun e => absurd e ho }

theorem disabled (h : r.Sound) : r.disabled.Sound :=
  have left := h.left (dest := .standby) rfl (by decide) none
  { left with
    intake := Nat.zero_le _
    urgent := ⟨Nat.zero_le _, .nil⟩
    silent := fun _ => left.silent rfl
    idle := fun _ => rfl
    bare := fun _ => left.bare (show TrunkState.standby ≠ .active by decide)
    off := fun _ => ⟨rfl, rfl⟩ }

theorem enabled (h : r.Sound) (ho : r.state = .off) : Trunk.Sound { r with state := .standby } :=
  { h with
    silent := fun _ => h.silent (by rw [ho]; rfl)
    idle := fun _ => h.idle (by rw [ho]; rfl)
    bare := fun _ => h.bare (by rw [ho]; decide)
    off := nofun }

theorem waking (h : r.Sound) (hs : r.state = .standby) (entry : Option Time) :
    Trunk.Sound { r with state := .waking, entry := entry } :=
  { h with
    silent := fun _ => h.silent (by rw [hs]; rfl)
    idle := fun _ => h.idle (by rw [hs]; rfl)
    bare := fun _ => h.bare (by rw [hs]; decide)
    off := nofun }

theorem aligning (h : r.Sound) (hs : r.state = .waking) (entry : Option Time) :
    Trunk.Sound { r.stopFraming with state := .aligning, entry := entry, good := 0 } :=
  { h with
    judged := ⟨Nat.zero_le _, h.judged.2⟩
    number := (by decide : 0 < 16)
    silent := fun _ => ⟨rfl, rfl, rfl⟩
    idle := fun _ => h.idle (by rw [hs]; rfl)
    bare := fun _ => ⟨(h.bare (by rw [hs]; decide)).1, rfl⟩
    off := nofun }

theorem active (h : r.Sound) (entry idle : Option Time) :
    Trunk.Sound { r with state := .active, entry := entry, bad := 0, idle := idle } :=
  { h with
    judged := ⟨h.judged.1, Nat.zero_le _⟩
    silent := nofun
    idle := nofun
    bare := fun hn => absurd rfl hn
    off := nofun }

theorem lost (h : r.Sound) (entry : Option Time) (flags : ErrorFlags) : Trunk.Sound { r with
    state := .lost, entry := entry, good := 0, bad := 2, allocation := none, idle := none, replay := []
    flags := flags } :=
  { h with
    judged := ⟨Nat.zero_le _, (by decide : 2 ≤ 2)⟩
    silent := nofun
    idle := nofun
    bare := fun _ => ⟨rfl, rfl⟩
    off := nofun }

theorem store (h : r.Sound) (now : Time) (enable autoWake marks : Bool) (period rmin : Nat) :
    (r.store now enable autoWake (min 3600 period) marks (min 320 rmin)).Sound :=
  { h with settings := ⟨Nat.min_le_left .., Nat.min_le_left ..⟩ }

theorem clean (h : r.Sound) : r.clean.Sound :=
  { h with
    intake := Nat.zero_le _
    urgent := ⟨Nat.zero_le _, .nil⟩
    regular := .inr rfl
    off := fun _ => ⟨rfl, rfl⟩ }

theorem good (h : r.Sound) {n : Nat} (hn : n ≤ 2) : Trunk.Sound { r with good := n } :=
  { h with judged := ⟨hn, h.judged.2⟩ }

theorem bad (h : r.Sound) {n : Nat} (hn : n ≤ 2) : Trunk.Sound { r with bad := n } :=
  { h with judged := ⟨h.judged.1, hn⟩ }

/-! ### Polls -/

theorem listed (h : r.Sound) {list : List Nat} (hl : list.length ≤ 32 ∧ ∀ pos ∈ list, pos < 32) :
    Trunk.Sound { r with pollList := list, regular := 0 } :=
  { h with list := hl, regular := .inr rfl }

theorem addUrgent (h : r.Sound) (hs : r.state ≠ .off) (pos : Nat) : (r.addUrgent pos).Sound := by
  unfold Trunk.addUrgent
  split
  · exact h
  · next hn =>
    split
    · next hl =>
      refine { h with urgent := ⟨?_, ?_⟩, off := fun ho => absurd ho hs }
      · rw [List.length_append]
        exact hl
      · exact List.nodup_append.2 ⟨h.urgent.2, List.pairwise_singleton _ _, fun a ha b hb e =>
          hn (List.mem_singleton.1 hb ▸ e ▸ ha)⟩
    · exact h

theorem taken_urgent (h : r.Sound) {pos : Nat} {rest : List Nat} (hu : r.urgent = pos :: rest) :
    Trunk.Sound { r with urgent := rest } :=
  { h with
    urgent := by
      have all := h.urgent
      rw [hu] at all
      exact ⟨Nat.le_of_succ_le all.1, all.2.of_cons⟩
    off := fun ho => by
      have empty := (h.off ho).2
      rw [hu] at empty
      cases empty }

theorem advance (h : r.Sound) : r.advance.Sound := by
  refine { h with regular := ?_ }
  unfold Trunk.advance
  dsimp only
  split
  · next hl => exact .inl hl
  · exact .inr rfl

/-! ### Cells and reports -/

theorem withoutCell (h : r.Sound) (pos : Nat) (f : Report → Report) (g : Poll → Poll) : Trunk.Sound
    { r with urgent := r.urgent.filter (· ≠ pos), intake := r.intake.map f, polled := r.polled.map g } :=
  { h with
    intake := (List.length_map f).symm ▸ h.intake
    urgent := ⟨Nat.le_trans (List.length_filter_le ..) h.urgent.1, h.urgent.2.filter _⟩
    off := fun ho => by
      obtain ⟨intake, urgent⟩ := h.off ho
      exact ⟨by rw [intake]; rfl, by rw [urgent]; rfl⟩ }

theorem placed (h : r.Sound) (hs : r.state ≠ .off) (x : Report) (hl : r.intake.length < 32) :
    Trunk.Sound { r with intake := r.intake ++ [x] } :=
  { h with
    intake := by rw [List.length_append]; exact hl
    off := fun ho => absurd ho hs }

theorem echoed (h : r.Sound) (hf : r.state.framing = true) (e : Echo) : Trunk.Sound { r with echo := e } :=
  { h with silent := fun hn => absurd hf (ne_true_of_eq_false hn) }

theorem acked (h : r.Sound) (hf : r.state.framing = true) (n : Nat) : Trunk.Sound { r with ack := n } :=
  { h with silent := fun hn => absurd hf (ne_true_of_eq_false hn) }

/-! ### Frames -/

theorem started (h : r.Sound) (mark : Option Mark) (a : Allocation) : Trunk.Sound { r with
    mfTaken := true, markField := mark, allocation := if r.state = .active then some a else none } :=
  { h with bare := fun hn => ⟨(h.bare hn).1, if_neg hn⟩ }

theorem controlSent (h : r.Sound) {m : Ctl} {rest : List Ctl} (hc : r.control = m :: rest) :
    Trunk.Sound { r with control := rest } :=
  { h with
    control := by
      have all := h.control
      rw [hc] at all
      exact Nat.le_of_succ_le all
    idle := fun hn => by
      have empty := h.idle hn
      rw [hc] at empty
      cases empty }

theorem sent (h : r.Sound) (hf : r.state.framing = true) (f : DownFrame) : (r.sent f).Sound :=
  { h with
    number := Nat.mod_lt _ (by decide)
    silent := fun hn => absurd hf (ne_true_of_eq_false hn) }

theorem unlink (h : r.Sound) (d : DescIx) : (r.unlink d).Sound := by
  refine { h with bare := fun hn => ?_ }
  obtain ⟨replay, allocation⟩ := h.bare hn
  unfold Trunk.unlink
  rw [replay, allocation]
  exact ⟨rfl, rfl⟩

theorem clearReplay (h : r.Sound) : r.clearReplay.Sound := by
  refine { h with bare := fun hn => ⟨rfl, ?_⟩ }
  unfold Trunk.clearReplay
  rw [(h.bare hn).2]
  rfl

theorem replayed (h : r.Sound) (ha : r.state = .active) (d : DescIx) : Trunk.Sound { r with replay := r.replay ++ [d] } :=
  { h with bare := fun hn => absurd ha hn }

end Trunk.Sound

/-! ### The eight records -/

namespace State.TrunksSound
variable {s u : State}

theorem of_touches {F : List View} (x : s.Touches F u) (ha : View.apart soundViews F = true) (h : s.TrunksSound) :
    u.TrunksSound :=
  fun t => (h t).of_views fun v hv => x.trunk v t ((View.apart_iff _ _).1 ha _ hv)

theorem quiet {F : List View} (h : s.TrunksSound) (x : s.Touches F u)
    (ha : View.apart soundViews F = true := by decide +kernel) : u.TrunksSound := of_touches x ha h

/-- One trunk's record changes. -/
theorem changed (h : s.TrunksSound) {t : TrunkId} {r : Trunk}
    (record : ∀ t', u.trunk t' = if t' = t then r else s.trunk t') (hr : r.Sound) : u.TrunksSound := by
  intro t'
  rw [record]
  split
  · exact hr
  · exact h t'

theorem setTrunk (h : s.TrunksSound) (t : TrunkId) {r : Trunk} (hr : r.Sound) : (s.setTrunk t r).TrunksSound :=
  h.changed (s.trunk_setTrunk t r) hr

theorem append (h : s.TrunksSound) (t : TrunkId) (m : Ctl) : (s.append t m).TrunksSound := by
  unfold State.append
  dsimp only
  split
  · next hs =>
    split
    · next hc => exact h.setTrunk t ((h t).appended m hs hc)
    · exact h.quiet (State.raiseFlag_touches (G := [.portW, .trunks, .trunk .flags]) s t _)
  · exact h

theorem tell (h : s.TrunksSound) (c : CellId) (b : CtlBody) : (s.tell c b).TrunksSound := h.append _ _

theorem taken (h : s.TrunksSound) (t : TrunkId) :
    State.TrunksSound { s.setTrunk t { s.trunk t with intake := (s.trunk t).intake.tail } with pointer := nextTrunk t } :=
  h.setTrunk t (h t).taken

theorem modTrunks (ts : List TrunkId) (f : TrunkId → Trunk → Trunk) (hf : ∀ t ∈ ts, ∀ r, r.Sound → (f t r).Sound)
    (h : s.TrunksSound) : (s.each ts fun s t => s.setTrunk t (f t (s.trunk t))).TrunksSound :=
  State.each_keeps State.TrunksSound _ _ _ (fun _ t ht hs => hs.setTrunk t (hf t ht _ (hs t))) h

theorem unlink (h : s.TrunksSound) (t : TrunkId) (d : DescIx) : (s.unlink t d).TrunksSound :=
  h.changed (s.trunk_unlink t d) ((h t).unlink d)

theorem quitTrunk (h : s.TrunksSound) (t : TrunkId) {dest : TrunkState} (hf : dest.framing = false) (ho : dest ≠ .off)
    (entry : Option Time) : (s.quitTrunk t dest entry).TrunksSound :=
  h.changed (s.trunk_quitTrunk t dest entry) ((h t).left hf ho entry)

theorem enterActive (h : s.TrunksSound) (t : TrunkId) (why : TrunkReason) : (s.enterActive t why).TrunksSound :=
  h.changed (s.trunk_enterActive t why) ((h t).active none _)

theorem enterLost (h : s.TrunksSound) (t : TrunkId) : (s.enterLost t).TrunksSound :=
  h.changed (s.trunk_enterLost t) ((h t).lost _ _)

/-! ### Stations and tickets -/

theorem setStream (h : s.TrunksSound) (k : StreamId) (r : Stream) : (s.setStream k r).TrunksSound := h

theorem setRelease (h : s.TrunksSound) (q : List DescIx) : State.TrunksSound { s with release := q } := h

theorem putStation (h : s.TrunksSound) (i : StationIx) (r : Station) : (s.putStation i r).TrunksSound := h

theorem tellTier (h : s.TrunksSound) (i : StationIx) (changed : Option Level) : (s.tellTier i changed).TrunksSound := by
  unfold State.tellTier
  split
  · exact h.tell _ _
  · exact h
  · exact h

theorem recomputeTier (h : s.TrunksSound) (i : StationIx) : (s.recomputeTier i).1.TrunksSound :=
  h.quiet (State.recomputeTier_touches (G := [.stations, .station .tier, .fan, .demand, .portV]) s i)

theorem retier (h : s.TrunksSound) (i : StationIx) : (s.retier i).TrunksSound := (h.recomputeTier i).tellTier _ _

theorem unbindStation (h : s.TrunksSound) (i : StationIx) : (s.unbindStation i).TrunksSound := by
  unfold State.unbindStation
  split
  · exact h
  · exact (h.putStation i _).retier i

theorem resettle (h : s.TrunksSound) (a b : CellKind) (i : StationIx) : (State.resettle a b s i).TrunksSound := by
  unfold State.resettle
  split
  · exact h
  · exact (h.putStation i _).retier i

theorem bindTicket (h : s.TrunksSound) (x : CellId) (i : StationIx) (r : Station) (k : Token) (t : Ticket) :
    (s.bindTicket x i r k t).TrunksSound :=
  ((State.TrunksSound.recomputeTier (s := s.join i r k t) h i).tell _ _).tellTier _ _

theorem present (h : s.TrunksSound) (x : CellId) (i : StationIx) (k : Token) : (s.present x i k).TrunksSound := by
  have note {v : State} (hv : v.TrunksSound) (m : Notice) : (v.notify .T m).TrunksSound :=
    hv.quiet (State.notify_touches (G := [.portT]) v .T m (View.mem_of rfl))
  have answered (e : TicketResult) : (s.ticketResult x i e).TrunksSound := h.tell _ _
  unfold State.present
  split
  · exact h
  · exact answered _
  · next r t _ _ =>
    split
    · exact note (answered _) _
    · exact note (answered _) _
    · exact note (answered _) _
    · split
      · exact answered _
      · exact note (h.bindTicket x i r k t) _
    · next holder _ =>
      split
      · exact answered _
      · split
        · exact answered _
        · split
          · exact note ((h.unbindStation holder).bindTicket x i r k t) _
          · exact note (answered _) _

theorem remove (h : s.TrunksSound) (i : StationIx) (cause : Cause) : (s.remove i cause).TrunksSound :=
  h.quiet (State.remove_touches (G := removeViews) s i cause)

theorem countCell (h : s.TrunksSound) (c : CellId) {f : Cell → Cell} (hf : CountsOnly f) : (s.countCell c f).TrunksSound :=
  h.quiet (State.countCell_touches (G := countViews) s c hf)

theorem leaveCounts (h : s.TrunksSound) (c : CellId) (l : Level) (ks : List StreamId) :
    (s.leaveCounts c l ks).TrunksSound :=
  h.quiet (State.leaveCounts_touches (G := [.fan]) s c l ks)

theorem joinCounts (h : s.TrunksSound) (c : CellId) (l : Level) (ks : List StreamId) : (s.joinCounts c l ks).TrunksSound :=
  h.quiet (State.joinCounts_touches (G := [.fan]) s c l ks)

theorem recompute (h : s.TrunksSound) (k : StreamId) : (s.recompute k).TrunksSound :=
  h.quiet (State.recompute_touches (G := [.demand, .portV]) s k)

theorem completeRoam (h : s.TrunksSound) (i : StationIx) (r : Station) (m : Roam) :
    (s.completeRoam i r m).TrunksSound := by
  have moved := ((((h.leaveCounts r.cell r.tier r.subs).countCell r.cell countsOnly_lose).countCell m.pending
    countsOnly_arrive).putStation i (s.arrived r m)).joinCounts m.pending (s.arrived r m).tier r.subs
  unfold State.completeRoam
  dsimp only
  exact (moved.tellTier _ _).quiet (State.recomputeEach_touches (G := [.demand, .portV]) ..)

theorem subscribe (h : s.TrunksSound) (x : CellId) (i : StationIx) (r : Station) (n : Nat) :
    (s.subscribe x i r n).TrunksSound := by
  have answered {v : State} (hv : v.TrunksSound) (e : SubResult) : (v.subResult x i n e).TrunksSound := hv.tell _ _
  unfold State.subscribe
  split
  · exact answered h _
  · split
    · exact answered h _
    · split
      · exact answered h _
      · split
        · exact answered h _
        · split
          · exact answered h _
          · have put := h.putStation i { r with subs := r.subs ++ [‹StreamId›] }
            dsimp only
            split
            · exact answered put _
            · exact answered ((put.joinCounts _ _ _).recompute _) _

theorem unsubscribe (h : s.TrunksSound) (x : CellId) (i : StationIx) (r : Station) (n : Nat) :
    (s.unsubscribe x i r n).TrunksSound := by
  have answered {v : State} (hv : v.TrunksSound) (e : SubResult) : (v.subResult x i n e).TrunksSound := hv.tell _ _
  unfold State.unsubscribe
  split
  · exact answered h _
  · split
    · exact answered h _
    · next k _ =>
      split
      · have put := h.putStation i { r with subs := r.subs.filter (· ≠ k) }
        dsimp only
        split
        · exact answered put _
        · exact answered ((put.leaveCounts _ _ _).recompute _) _
      · exact answered h _

end State.TrunksSound

theorem trunksSound_rules : StationRules soundViews State.TrunksSound where
  quiet t ha h := h.of_touches t ha
  portW := by decide +kernel
  noted _ i _ _ h _ _ := h.putStation i _
  append _ t m h := h.append t m
  taken _ t h := h.taken t
  remove _ i c h := h.remove i c
  completeRoam _ i r m h _ _ := h.completeRoam i r m
  create _ x a i h _ _ := (h.putStation i _).countCell x countsOnly_gain
  startRoam _ x i r h _ _ _ _ := (h.putStation i _).countCell x countsOnly_expect
  present _ x i k h := h.present x i k
  subscribe _ x i r n h _ := h.subscribe x i r n
  unsubscribe _ x i r n h _ := h.unsubscribe x i r n

end Sys2Proof.Machine
end


section
/-! PROOF. The rows keep the laws of the trunks' records. -/
namespace Sys2Proof.Machine

namespace State.TrunksSound
variable {s u : State}

/-! ### The replay side -/

theorem freeDesc (h : s.TrunksSound) (d : DescIx) : (s.freeDesc d).TrunksSound :=
  h.quiet (State.freeDesc_touches (G := freeViews) s d)

/-- A release reaches ACTIVE trunks alone. -/
theorem releaseDesc (h : s.TrunksSound) (d : DescIx) : (s.releaseDesc d).TrunksSound := by
  unfold State.releaseDesc
  split
  · exact h
  · next r _ =>
    dsimp only
    split
    · exact State.TrunksSound.freeDesc (s := s.setStream r.stream _) h d
    · have active (t : TrunkId) (ht : t ∈ s.wantedOn r.stream) : (s.trunk t).state = .active := by
        refine Classical.byContradiction fun ha => ?_
        have wanted := (List.mem_filter.1 ht).2
        rw [s.trunkDemand_away ha] at wanted
        cases wanted
      refine (State.each_keeps (fun v => v.TrunksSound ∧ ∀ t, (v.trunk t).state = (s.trunk t).state) _ _ _
        (fun v t ht hv => ⟨hv.1.setTrunk t ((hv.1 t).replayed ((hv.2 t).trans (active t ht)) d), fun t' => ?_⟩)
        ⟨show (s.putDesc d _).TrunksSound from h, fun _ => rfl⟩).1
      rw [State.trunk_setTrunk]
      split
      · next e => rw [e]; exact hv.2 t
      · exact hv.2 t'

theorem flushStale (h : s.TrunksSound) (d : DescIx) : (s.flushStale d).TrunksSound := by
  unfold State.flushStale
  split
  · exact h
  · exact State.each_keeps State.TrunksSound _ _ _ (fun _ t _ hs => hs.unlink t d)
      (h.quiet (State.notify_touches (G := [.portV]) s .V _ (View.mem_of rfl)))

theorem markEvent (h : s.TrunksSound) : s.markEvent.TrunksSound := by
  have bumped : s.bumpMark.TrunksSound := h
  have released := State.each_keeps State.TrunksSound State.releaseHeld (s.bumpMark.release.filter s.bumpMark.reachedNow)
    s.bumpMark (fun v d _ hv => by
      unfold State.releaseHeld
      exact State.TrunksSound.releaseDesc (s := { v with release := v.release.filter (· ≠ d) }) hv d) bumped
  exact State.each_keeps State.TrunksSound _ _ _ (fun _ d _ hs => hs.flushStale d) released

theorem withdraw (h : s.TrunksSound) (k : StreamId) : (s.withdraw k).TrunksSound :=
  State.each_keeps State.TrunksSound _ _ _ (fun _ t _ hs => hs.append t _)
    (State.TrunksSound.recompute (s := s.dropSubscribers k) h k)

theorem closeStream (h : s.TrunksSound) (k : StreamId) : (s.closeStream k).TrunksSound := by
  have freed := (h.withdraw k).quiet (State.freeUpload_touches (G := freeViews) _ k)
  have released := freed.quiet (State.freeHeld_touches (G := .release :: freeViews) _ k)
  exact released.quiet (State.startDrain_touches (G := [.streams, .stream .state, .portV]) _ k)

theorem clearSegments (h : s.TrunksSound) : s.clearSegments.TrunksSound := by
  have cleared := h.modTrunks allTrunks (fun _ => Trunk.clearReplay) fun _ _ _ hr => hr.clearReplay
  unfold State.clearSegments
  dsimp only
  refine State.each_keeps State.TrunksSound _ _ _ (fun v d _ hv => ?_) ?_
  · exact hv.quiet (State.freeCore_touches (G := [.descs, .used, .streams, .stream .inUse]) v d)
  · exact cleared.setRelease []

theorem closeDraining (h : s.TrunksSound) (k : StreamId) : (s.closeDraining k).TrunksSound := by
  unfold State.closeDraining
  split
  · exact h.setStream k _
  · exact h
  · exact h

theorem replayClear (h : s.TrunksSound) (b : List Byte) : (replayClearRule b s).state.TrunksSound := by
  have cleared := h.clearSegments
  unfold replayClearRule
  dsimp only
  generalize s.clearSegments = v at cleared ⊢
  have withdrawn := State.each_keeps State.TrunksSound State.withdrawClosed v.openStreams v
    (fun _ k _ hv => (hv.withdraw k).setStream k _) cleared
  exact State.each_keeps State.TrunksSound State.closeDraining allStreams _ (fun _ k _ hv => hv.closeDraining k) withdrawn

/-! ### The commands of the trunks and cells -/

theorem standDown (h : s.TrunksSound) (t : TrunkId) : (s.standDown t).TrunksSound := by
  unfold State.standDown
  split
  · exact h
  · exact h
  all_goals exact h.quitTrunk t rfl (by decide) none

theorem trunkSet (h : s.TrunksSound) (b : List Byte) : (trunkSetRule b s).state.TrunksSound := by
  refine onTrunk_keeps b s _ h fun t => ?_
  split
  · next en aw mc _ _ _ =>
    have stored := (h.setTrunk t ((h t).store s.now en aw mc (numAt b 4 2) (numAt b 8 2))).quiet
      (State.idleUpdate_touches (G := [.trunks, .trunk .idle]) _ t)
    dsimp only
    split
    · unfold State.enable
      split
      · next ho => exact stored.setTrunk t ((stored t).enabled ho)
      all_goals exact stored
    · refine stored.changed (State.trunk_disable _ t) ?_
      split
      · exact stored t
      · exact (stored t).disabled
  · exact h

theorem trunkStart (h : s.TrunksSound) (b : List Byte) : (trunkStartRule b s).state.TrunksSound := by
  refine onTrunk_keeps b s _ h fun t => ?_
  split
  · exact h
  · next hs => exact h.setTrunk t ((h t).waking hs _)
  all_goals exact h

theorem trunkStandby (h : s.TrunksSound) (b : List Byte) : (trunkStandbyRule b s).state.TrunksSound := by
  refine onTrunk_keeps b s _ h fun t => ?_
  split
  · exact h
  all_goals exact h.standDown t

theorem trunkReset (h : s.TrunksSound) (b : List Byte) : (trunkResetRule b s).state.TrunksSound := by
  refine onTrunk_keeps b s _ h fun t => ?_
  split
  · exact h
  all_goals exact (h.standDown t).setTrunk t ((h.standDown t t).clean)

theorem pollListSet (h : s.TrunksSound) (b : List Byte) : (pollListSetRule b s).state.TrunksSound := by
  refine onTrunk_keeps b s _ h fun t => ?_
  split
  · exact h
  · next hb =>
    obtain ⟨count, positions⟩ := not_or.1 hb
    refine h.setTrunk t ((h t).listed ⟨?_, fun pos hp => ?_⟩)
    · unfold positionBytes
      rw [List.length_map]
      exact Nat.le_trans (List.length_take_le ..) (Nat.not_lt.1 count)
    · refine Classical.byContradiction fun hn => ?_
      exact positions (List.any_eq_true.2 ⟨pos, hp, decide_eq_true (Nat.not_lt.1 hn)⟩)

theorem pollUrgent (h : s.TrunksSound) (b : List Byte) : (pollUrgentRule b s).state.TrunksSound := by
  unfold pollUrgentRule
  dsimp only
  split
  · exact h
  · split
    · exact h
    · next ho =>
      split
      · exact h
      · split
        · exact h.setTrunk _ ((h _).addUrgent ho _)
        · exact h

theorem cellSet (h : s.TrunksSound) (b : List Byte) : (cellSetRule b s).state.TrunksSound := by
  unfold cellSetRule
  dsimp only
  split
  · exact h
  · split
    · exact h
    · unfold State.rewriteCell
      dsimp only
      split
      · exact h
      · exact State.each_keeps State.TrunksSound _ _ { s with cells := _ } (fun _ i _ hs => hs.resettle _ _ i) h
    · exact h
    · split
      · exact h
      · exact State.TrunksSound.setTrunk (s := { s with cells := _ }) h _ ((h _).withoutCell _ _ _)

end State.TrunksSound

theorem trunksSound_rule (c : Command) (b : List Byte) (s : State)
    (hv : View.apart soundViews (Command.footprint c) = false) (h : s.TrunksSound) : (c.rule b s).state.TrunksSound := by
  cases c with
  | cellSet => exact h.cellSet b
  | trunkSet => exact h.trunkSet b
  | trunkStart => exact h.trunkStart b
  | trunkStandby => exact h.trunkStandby b
  | trunkReset => exact h.trunkReset b
  | pollListSet => exact h.pollListSet b
  | pollUrgent => exact h.pollUrgent b
  | stationDetach => exact trunksSound_rules.stationDetach h b
  | stationClear => exact trunksSound_rules.stationClear h b
  | gateAdmit =>
    refine onTicket_keeps b s _ h fun k t _ => ?_
    split
    · exact h
    · exact h
    · exact h
    · split
      · exact State.TrunksSound.unbindStation (s := s.putTicket _ _) h _
      · exact h
    · exact h
  | gateExit =>
    refine onTicket_keeps b s _ h fun k t _ => ?_
    split
    · exact h
    · exact State.TrunksSound.unbindStation (s := s.putTicket _ _) h _
    all_goals exact h
  | ticketVoid =>
    refine onTicket_keeps b s _ h fun k t _ => ?_
    split
    · exact State.TrunksSound.unbindStation (s := s.putTicket _ _) h _
    all_goals exact h
  | ticketClear =>
    exact State.each_keeps State.TrunksSound State.unbindStation s.boundStations s (fun _ i _ hs => hs.unbindStation i) h
  | streamClose =>
    refine onStream_keeps (P := State.TrunksSound) b s _ h fun k => ?_
    split
    · dsimp only
      exact h.closeStream k
    all_goals exact h
  | replayClear => exact h.replayClear b
  | segEnd =>
    refine onStream_keeps (P := State.TrunksSound) b s _ h fun k => ?_
    split
    · exact h
    · next d r next _ =>
      split
      · exact h
      · have noted : (s.setStream k { s.stream k with lastSeq := some r.sequence }).TrunksSound := h
        dsimp only
        split
        · exact noted.freeDesc d
        · split
          · exact noted.releaseDesc d
          · exact noted
  | mark =>
    change (markRule b s).state.TrunksSound
    unfold markRule
    split
    · exact h.markEvent
    · exact h
  | _ => exact absurd hv (by decide +kernel)

/-! ### Frames -/

/-- The records are sound and a trunk is framing. -/
structure State.FramingSound (t : TrunkId) (s : State) : Prop where
  sound : s.TrunksSound
  framing : (s.trunk t).state.framing = true

namespace State.FramingSound
variable {t : TrunkId} {s u : State}

theorem not_off (h : s.FramingSound t) : (s.trunk t).state ≠ .off := by
  intro ho
  have framing := h.framing
  rw [ho] at framing
  cases framing

theorem quiet {F : List View} (h : s.FramingSound t) (x : s.Touches F u)
    (ha : View.apart soundViews F = true := by decide +kernel) : u.FramingSound t :=
  ⟨h.sound.quiet x ha, by
    have state : (u.trunk t).state = (s.trunk t).state :=
      x.trunk .state t ((View.apart_iff _ _).1 ha _ (View.mem_of (by decide +kernel)))
    rw [state]
    exact h.framing⟩

theorem setTrunk (h : s.FramingSound t) {r : Trunk} (hr : r.Sound) (hs : r.state = (s.trunk t).state) :
    (s.setTrunk t r).FramingSound t :=
  ⟨h.sound.setTrunk t hr, by
    rw [State.trunk_setTrunk, if_pos rfl, hs]
    exact h.framing⟩

theorem setEcho (h : s.FramingSound t) (e : Echo) : (s.setEcho t e).FramingSound t :=
  h.setTrunk ((h.sound t).echoed h.framing e) rfl

theorem setAck (h : s.FramingSound t) (n : Nat) : (s.setAck t n).FramingSound t :=
  h.setTrunk ((h.sound t).acked h.framing n) rfl

theorem raiseFlag (h : s.FramingSound t) (e : ErrorFlag) : (s.raiseFlag t e).FramingSound t :=
  h.quiet (State.raiseFlag_touches (G := [.portW, .trunks, .trunk .flags]) s t e)

theorem routeUrgent (h : s.FramingSound t) (c : CellId) : (s.routeUrgent t c).FramingSound t := by
  refine h.setTrunk ((h.sound t).addUrgent h.not_off _) ?_
  unfold Trunk.addUrgent
  split
  · rfl
  · split <;> rfl

theorem place (h : s.FramingSound t) (hf : s.intakeFree t = true) (r : Report) : (s.place t r).FramingSound t :=
  h.setTrunk ((h.sound t).placed h.not_off r (of_decide_eq_true hf)) rfl

theorem settleSlot (h : s.FramingSound t) (i : SlotInput) : (s.settleSlot t i).FramingSound t := by
  have garbled : (s.garbledSlot t).FramingSound t := (h.raiseFlag _).setEcho _
  unfold State.settleSlot
  split
  · exact h.setEcho _
  · exact garbled
  · split
    · exact garbled
    · unfold State.settleReport
      split
      · exact (h.raiseFlag _).setEcho _
      · split
        · exact (h.routeUrgent _).setEcho _
        · split
          · next hf => exact (h.place hf _).setEcho _
          · exact h.setEcho _

theorem considerReports (known : Bool) (bs : List (List Byte)) : ∀ {s : State} (ok : List Bool), s.FramingSound t →
    (s.considerReports t known bs ok).1.FramingSound t := by
  induction bs with
  | nil => exact fun _ h => h
  | cons b bs ih =>
    intro s ok h
    unfold State.considerReports
    split
    · exact h.raiseFlag _
    · split
      · exact ih _ (h.raiseFlag _)
      · split
        · exact ih _ (h.routeUrgent _)
        · split
          · next hf => exact ih _ (h.place hf _)
          · exact h

theorem settlePolled (h : s.FramingSound t) (f : UpFrame) : (s.settlePolled t f).FramingSound t := by
  unfold State.settlePolled
  split
  · unfold State.settlePoll
    dsimp only
    split
    · split
      · exact (considerReports _ _ _ (h.quiet (State.takeStatus_touches (G := statusViews) ..))).setAck _
      · exact (considerReports _ _ _ h).setAck _
    · split
      · exact (h.quiet (State.pollMissed_touches (G := statusViews) ..)).setAck _
      · exact h.setAck _
  · exact h.setAck _

theorem settleFrame (h : s.FramingSound t) (f : UpFrame) : (s.settleFrame t f).FramingSound t := by
  unfold State.settleFrame
  split
  · exact (h.settleSlot _).settlePolled f
  · exact (h.settleSlot _).settlePolled f
  · exact (h.setEcho _).setAck _
  all_goals exact h

theorem tally (h : s.FramingSound t) (f : UpFrame) : (s.setTrunk t ((s.trunk t).tally f)).FramingSound t :=
  h.setTrunk ((h.sound t).of_views fun x hx => by cases x <;> first | rfl | exact absurd hx (by decide +kernel)) rfl

theorem startMultiframe (h : s.FramingSound t) : (s.startMultiframe t).FramingSound t :=
  h.setTrunk ((h.sound t).started _ _) rfl

theorem choosePoll (h : s.FramingSound t) : (s.setTrunk t (s.choosePoll t).1).FramingSound t := by
  unfold State.choosePoll
  dsimp only
  split
  · next hu => exact h.setTrunk ((h.sound t).taken_urgent hu) rfl
  · split
    · exact h.setTrunk (h.sound t) rfl
    · exact h.setTrunk (h.sound t).advance rfl

theorem unlink (h : s.FramingSound t) (d : DescIx) : (s.unlink t d).FramingSound t :=
  ⟨h.sound.unlink t d, by
    rw [State.trunk_unlink, if_pos rfl]
    exact h.framing⟩

theorem fillSlot (h : s.FramingSound t) (n : Nat) : (s.fillSlot t n).1.FramingSound t := by
  unfold State.fillSlot
  split
  · exact h
  · split
    · unfold State.fillControl
      dsimp only
      split
      · exact h
      · next hc => exact h.setTrunk ((h.sound t).controlSent hc) rfl
    · split
      · split
        · next e _ =>
          unfold State.sendChunk
          split
          · exact h
          · split
            · exact h
            · exact h
            · next r _ refs cs _ =>
              have put (q : Desc) : (s.putDesc e.desc q).FramingSound t := ⟨h.sound, h.framing⟩
              dsimp only
              split
              · exact (put _).unlink _
              · exact put _
        · exact h
        · exact h
      · exact h

theorem fillSlots (left : Nat) : ∀ {s : State} (n : Nat), s.FramingSound t → (s.fillSlots t n left).1.FramingSound t := by
  induction left with
  | zero => exact fun _ h => h
  | succ left ih => exact fun n h => ih (n + 1) (h.fillSlot n)

theorem sendServing (h : s.FramingSound t) : (s.sendServing t).TrunksSound := by
  have filled := fillSlots frameSlots (frameSlots * (s.trunk t).nextFrame) h.choosePoll
  exact filled.sound.setTrunk t ((filled.sound t).sent filled.framing _)

theorem sendFrame (h : s.FramingSound t) : (s.sendFrame t).TrunksSound := by
  unfold State.sendFrame
  split
  · exact h.sound.setTrunk t ((h.sound t).sent h.framing _)
  · exact h.sendServing
  · exact h.sendServing
  all_goals exact h.sound

end State.FramingSound

theorem State.TrunksSound.judge {s : State} (h : s.TrunksSound) (t : TrunkId) : (s.judge t).TrunksSound := by
  have good {n : Nat} (hn : n ≤ 2) := h.setTrunk t ((h t).good hn)
  have bad {n : Nat} (hn : n ≤ 2) := h.setTrunk t ((h t).bad hn)
  unfold State.judge
  split
  · unfold State.judgedGood
    dsimp only
    split
    · split
      · exact good (by decide)
      · exact (good (by decide)).enterActive t _
    · split
      · exact good (by decide)
      · exact (good (by decide)).enterActive t _
    · exact bad (by decide)
    all_goals exact h
  · unfold State.judgedBad
    dsimp only
    split
    · exact good (by decide)
    · exact good (by decide)
    · split
      · exact bad (by decide)
      · exact h.enterLost t
    all_goals exact h

theorem trunksSound_event (i : Instr) (s u : State) (hc : portCommand i = none) (hd : i ≠ .deviceReset)
    (hl : i ≠ .resetLineAsserted) (ha : View.apart soundViews (rowFootprint i) = false) (h : s.TrunksSound)
    (hx : exec i s = .next u) : u.TrunksSound := by
  have noted {v : State} (hv : v.TrunksSound) (t : TrunkId) (a b : TrunkState) (why : TrunkReason) :
      (v.trunkNotice t a b why).TrunksSound :=
    hv.quiet (State.trunkNotice_touches (G := [.portW]) v t a b why)
  cases i with
  | deviceReset => exact absurd rfl hd
  | resetLineAsserted => exact absurd rfl hl
  | reportTake => exact trunksSound_rules.reportTake h hx
  | roamTimeout i => exact trunksSound_rules.roamTimeout h hx
  | ageExpiry i => exact trunksSound_rules.ageExpiry h hx
  | seatGraceExpiry i =>
    change execSeatGraceExpiry i s = _ at hx
    refine live_keeps (P := State.TrunksSound) hx h ?_
    split
    · exact h
    · split
      · exact h
      · split
        · unfold State.fenceSteer
          split
          · exact ((h.putStation i _).retier i).tell _ _
          all_goals exact (h.putStation i _).retier i
        · exact h
  | portVGraceExpiry =>
    change execPortVGraceExpiry s = _ at hx
    refine live_keeps (P := State.TrunksSound) hx h ?_
    split
    · exact h
    · split
      · exact State.each_keeps State.TrunksSound State.closeStream s.openStreams { s with grace := none }
          (fun _ k _ hs => hs.closeStream k) h
      · exact h
  | generatorExpiry =>
    change execGeneratorExpiry s = _ at hx
    refine live_keeps (P := State.TrunksSound) hx h ?_
    split
    · split
      · exact h.markEvent
      · exact h
    · split
      · exact h.markEvent
      · exact h
    all_goals exact h
  | wakeSignal t =>
    change execWakeSignal t s = _ at hx
    refine live_keeps (P := State.TrunksSound) hx h ?_
    split
    · next hs =>
      split
      · exact noted (h.setTrunk t ((h t).waking hs _)) _ _ _ _
      · exact h
    all_goals exact h
  | upstreamSignalDetected t =>
    change execUpstreamSignalDetected t s = _ at hx
    refine live_keeps (P := State.TrunksSound) hx h ?_
    split
    · next hs => exact noted (h.setTrunk t ((h t).aligning hs _)) _ _ _ _
    all_goals exact h
  | wakeTimeout t =>
    change execWakeTimeout t s = _ at hx
    refine live_keeps (P := State.TrunksSound) hx h ?_
    split
    · split
      · exact noted (h.quitTrunk t rfl (by decide) _) _ _ _ _
      · exact h
    all_goals exact h
  | alignTimeout t =>
    change execAlignTimeout t s = _ at hx
    refine live_keeps (P := State.TrunksSound) hx h ?_
    split
    · split
      · exact noted (h.quitTrunk t rfl (by decide) _) _ _ _ _
      · exact h
    all_goals exact h
  | lostGiveUp t =>
    change execLostGiveUp t s = _ at hx
    refine live_keeps (P := State.TrunksSound) hx h ?_
    split
    · split
      · exact noted (h.quitTrunk t rfl (by decide) _) _ _ _ _
      · exact h
    all_goals exact h
  | idleTimerExpiry t =>
    change execIdleTimerExpiry t s = _ at hx
    refine live_keeps (P := State.TrunksSound) hx h ?_
    split
    · split
      · exact noted (h.quitTrunk t rfl (by decide) _) _ _ _ _
      · exact h
    all_goals exact h
  | frameStart t =>
    change execFrameStart t s = _ at hx
    refine live_keeps (P := State.TrunksSound) hx h ?_
    split
    · next hf =>
      have framing : s.FramingSound t := ⟨h, (Bool.and_eq_true_iff.1 hf).1⟩
      split
      · exact framing.startMultiframe.sendFrame
      · exact framing.sendFrame
    · exact h
  | multiframeStart t =>
    change execMultiframeStart t s = _ at hx
    refine live_keeps (P := State.TrunksSound) hx h ?_
    split
    · exact h.setTrunk t ((h t).started _ _)
    · exact h
  | upstreamFrameReceived t f =>
    change execUpstreamFrameReceived t f s = _ at hx
    refine live_keeps (P := State.TrunksSound) hx h ?_
    split
    · next hf =>
      have framing : s.FramingSound t := ⟨h, (Bool.and_eq_true_iff.1 hf).1⟩
      have tallied := ((framing.settleFrame f).tally f).sound
      unfold State.takeUpstream
      dsimp only
      split
      · exact tallied.judge t
      · exact tallied
    · exact h
  | _ => first | exact absurd hc (Option.some_ne_none _) | exact absurd (ha.symm.trans rfl) Bool.false_ne_true

theorem trunksSound_kept (s u : State) (h : s.TrunksSound) (hx : step s = .next u) : u.TrunksSound := by
  have reset (s : State) (held : Bool) : (s.deviceReset held).TrunksSound := State.trunksSound_reset
  exact law_step soundViews (fun t ha h => h.of_touches t ha) (by decide +kernel) (hreset := reset)
    (hrule := trunksSound_rule) (hevent := trunksSound_event) s u h hx

/-- Settles O55: each operation of the trunks keeps a sound record and runs or stops the idle timer as R30 says. -/
theorem trunksStaySound : Obligations.TrunksStaySound := by
  refine ⟨trunksSound_kept, fun s u h hx => ?_⟩
  have held := idleLaw_kept h hx
  exact ⟨⟨held.cells, fun t => (held.timers t).timer⟩, fun t => (held.timers t).stamp⟩

end Sys2Proof.Machine
end


section
/-! PROOF. Descriptors: how one is freed, leaves a replay queue and is released (R154, R159, R173, R174). -/
namespace Sys2Proof.Machine

/-! ### Freeing (R154, R165) -/

/-- A stream's record with one descriptor fewer: the last one ends its drain. -/
def Stream.lessOne (k : Stream) : Stream :=
  { k with inUse := k.inUse - 1, state := if k.state = .draining ∧ k.inUse ≤ 1 then .closed else k.state }

/-- The state without a descriptor, its blocks and its place in the stream's count. -/
def State.freed (s : State) (d : DescIx) (r : Desc) : State :=
  State.setStream { s with descs := s.descs.del d, used := s.used.filter (· ∉ r.blocks) } r.stream
    (s.stream r.stream).lessOne

theorem State.freeDesc_eq {s : State} {d : DescIx} {r : Desc} (hr : s.desc? d = some r) : s.freeDesc d =
    if (s.stream r.stream).state = .draining ∧ (s.stream r.stream).inUse ≤ 1 then
      (s.freed d r).notify .V (.streamDrained r.stream) else s.freed d r := by
  have core : s.freeCore d = State.setStream { s with descs := s.descs.del d, used := s.used.filter (· ∉ r.blocks) }
      r.stream { s.stream r.stream with inUse := (s.stream r.stream).inUse - 1 } := by
    rw [State.freeCore, hr]
    rfl
  unfold State.freeDesc State.freed Stream.lessOne
  rw [hr]
  dsimp only
  rw [core, State.endDrain, State.stream_setStream, if_pos rfl]
  dsimp only
  by_cases last : (s.stream r.stream).state = .draining ∧ (s.stream r.stream).inUse ≤ 1
  · rw [if_pos last, if_pos last, if_pos ⟨last.1, Nat.sub_eq_zero_of_le last.2⟩, State.setStream_setStream]
  · rw [if_neg last, if_neg last, if_neg fun h => last ⟨h.1, Nat.le_of_sub_eq_zero h.2⟩]

section
variable {s : State} {d : DescIx} {r : Desc}

theorem State.freeDesc_freed (hr : s.desc? d = some r) : (s.freed d r).Touches [.portV] (s.freeDesc d) := by
  rw [State.freeDesc_eq hr]
  split
  · exact State.notify_touches _ .V _ (View.mem_of rfl)
  · exact .refl ..

theorem State.desc?_freeDesc (h : s.descs.wf = true) (d e : DescIx) :
    (s.freeDesc d).desc? e = if e = d then none else s.desc? e := by
  cases hr : s.desc? d with
  | none =>
    have kept : s.freeDesc d = s := by rw [State.freeDesc, hr]
    rw [kept]
    split
    · next he => rw [he]; exact hr
    · rfl
  | some r =>
    have same : (s.freeDesc d).desc? e = (s.freed d r).desc? e := by
      rw [State.desc?, (State.freeDesc_freed hr).descs]
      rfl
    exact same.trans (Table.get?_del _ _ _ h)

theorem State.used_freeDesc (hr : s.desc? d = some r) : (s.freeDesc d).used = s.used.filter (· ∉ r.blocks) :=
  (State.freeDesc_freed hr).used

theorem State.stream_freeDesc (hr : s.desc? d = some r) (k : StreamId) :
    (s.freeDesc d).stream k = if k = r.stream then (s.stream r.stream).lessOne else s.stream k := by
  have same : (s.freeDesc d).stream k = (s.freed d r).stream k := by
    rw [State.stream, (State.freeDesc_freed hr).streams]
    rfl
  rw [same, State.freed, State.stream_setStream]
  rfl

theorem State.trunk_freeDesc (s : State) (d : DescIx) (t : TrunkId) : (s.freeDesc d).trunk t = s.trunk t :=
  (State.freeDesc_touches (G := freeViews) s d).trunkAll t

end

/-! ### Leaving a replay queue (R174) -/

theorem State.unlink_eq {s : State} {d : DescIx} {r : Desc} (hr : s.desc? d = some r) {refs : Nat} {cs : Vector Carry 8}
    (hs : r.state = .released refs cs) (t : TrunkId) : s.unlink t d =
      if refs ≤ 1 then ((s.setTrunk t ((s.trunk t).unlink d)).putDesc d
          { r with state := .released (refs - 1) (cs.set t.val ⟨.none, 0⟩) }).freeDesc d
        else (s.setTrunk t ((s.trunk t).unlink d)).putDesc d
          { r with state := .released (refs - 1) (cs.set t.val ⟨.none, 0⟩) } := by
  have found : (s.setTrunk t ((s.trunk t).unlink d)).desc? d = some r := hr
  unfold State.unlink
  dsimp only
  rw [found]
  dsimp only
  rw [hs]
  exact ite_congr_iff (by omega) rfl rfl

theorem State.desc?_unlink {s : State} (h : s.descs.wf = true) {d : DescIx} {r : Desc} (hr : s.desc? d = some r)
    {refs : Nat} {cs : Vector Carry 8} (hs : r.state = .released refs cs) (t : TrunkId) (e : DescIx) :
    (s.unlink t d).desc? e = if e = d then
      (if refs ≤ 1 then none else some { r with state := .released (refs - 1) (cs.set t.val ⟨.none, 0⟩) })
      else s.desc? e := by
  rw [State.unlink_eq hr hs]
  split
  · rw [State.desc?_freeDesc (Table.wf_put _ _ _ h), State.desc?_putDesc]
    by_cases he : e = d
    · rw [if_pos he, if_pos he]
    · rw [if_neg he, if_neg he, if_neg he]
      rfl
  · rw [State.desc?_putDesc]
    rfl

/-- Only its own record changes with a descriptor that leaves a queue. -/
theorem State.desc?_unlink_ne {s : State} (h : s.descs.wf = true) (t : TrunkId) {d e : DescIx} (he : e ≠ d) :
    (s.unlink t d).desc? e = s.desc? e := by
  unfold State.unlink
  dsimp only
  split
  · rfl
  · split
    · split
      · rw [State.desc?_freeDesc (Table.wf_put _ _ _ h), if_neg he, State.desc?_putDesc, if_neg he]
        rfl
      · rw [State.desc?_putDesc, if_neg he]
        rfl
    · rfl
    · rfl

/-! ### A release (R159, R173) -/

/-- Each of several trunks' records changed in its own way. -/
theorem State.trunk_modTrunks (f : Trunk → Trunk) (ts : List TrunkId) (hts : ts.Nodup) (s : State) (t : TrunkId) :
    (s.each ts fun s t => s.setTrunk t (f (s.trunk t))).trunk t = if t ∈ ts then f (s.trunk t) else s.trunk t := by
  induction ts generalizing s with
  | nil => exact (if_neg List.not_mem_nil).symm
  | cons t' ts ih =>
    obtain ⟨ht', hts⟩ := List.nodup_cons.1 hts
    rw [State.each_cons, ih hts, State.trunk_setTrunk]
    by_cases h : t = t'
    · subst h
      rw [if_neg ht', if_pos rfl, if_pos List.mem_cons_self]
    · rw [if_neg h]
      simp only [List.mem_cons, h, false_or]

theorem State.modTrunks_frame (f : Trunk → Trunk) (ts : List TrunkId) (s : State) :
    (s.each ts fun s t => s.setTrunk t (f (s.trunk t))) =
      { s with trunks := (s.each ts fun s t => s.setTrunk t (f (s.trunk t))).trunks } := by
  induction ts generalizing s with
  | nil => rfl
  | cons t ts ih =>
    rw [State.each_cons, ih]
    rfl

theorem nodup_allTrunks : allTrunks.Nodup := by decide

theorem getElem_perTrunk (f : TrunkId → Carry) (t : TrunkId) : (perTrunk f)[t.val] = f t := by
  match t with
  | 0 | 1 | 2 | 3 | 4 | 5 | 6 | 7 => rfl

/-- The trunks that a release reaches. -/
theorem State.mem_wantedOn {s : State} {k : StreamId} {t : TrunkId} : t ∈ s.wantedOn k ↔ s.trunkDemand t k ≠ .none := by
  rw [State.wantedOn, List.mem_filter, bne_iff_ne]
  exact and_iff_right (mem_allTrunks t)

theorem State.wantedOn_nil {s : State} {k : StreamId} : s.wantedOn k = [] ↔ ∀ t, s.trunkDemand t k = .none := by
  rw [List.eq_nil_iff_forall_not_mem]
  exact forall_congr' fun t => by rw [State.mem_wantedOn, Classical.not_not]

theorem State.nodup_wantedOn (s : State) (k : StreamId) : (s.wantedOn k).Nodup := nodup_allTrunks.filter _

/-- A released descriptor, with the renditions that the demand of the moment asks for. -/
def State.releasedAs (s : State) (r : Desc) : Desc :=
  let carries := perTrunk fun t => ⟨s.trunkDemand t r.stream, r.chunks (s.trunkDemand t r.stream)⟩
  { r with state := .released (s.wantedOn r.stream).length carries }

/-- A descriptor put at the end of a trunk's replay queue. -/
def Trunk.queue (d : DescIx) (q : Trunk) : Trunk := { q with replay := q.replay ++ [d] }

/-- The state in which a descriptor has just been released to the trunks that want it. -/
def State.releasedTo (s : State) (d : DescIx) (r : Desc) : State :=
  State.each (s.putDesc d (s.releasedAs r)) (s.wantedOn r.stream) fun s t => s.setTrunk t ((s.trunk t).queue d)

/-- The state in which a stream has just counted a descriptor as unwatched. -/
def State.unwatchedOn (s : State) (k : StreamId) : State :=
  s.setStream k { s.stream k with unwatched := saturate 65535 ((s.stream k).unwatched + 1) }

theorem State.releaseDesc_eq {s : State} {d : DescIx} {r : Desc} (hr : s.desc? d = some r) : s.releaseDesc d =
    if s.wantedOn r.stream = [] then (s.unwatchedOn r.stream).freeDesc d else s.releasedTo d r := by
  unfold State.releaseDesc
  rw [hr]
  rfl

theorem State.trunk_releasedTo (s : State) (d : DescIx) (r : Desc) (t : TrunkId) : (s.releasedTo d r).trunk t =
    { s.trunk t with
      replay := (s.trunk t).replay ++ if s.trunkDemand t r.stream = .none then [] else [d] } := by
  refine (State.trunk_modTrunks (Trunk.queue d) _ (s.nodup_wantedOn r.stream) _ t).trans ?_
  by_cases h : s.trunkDemand t r.stream = .none
  · rw [if_neg fun hm => State.mem_wantedOn.1 hm h, if_pos h, List.append_nil]
    rfl
  · rw [if_pos (State.mem_wantedOn.2 h), if_neg h]
    rfl

theorem State.releasedTo_frame (s : State) (d : DescIx) (r : Desc) : s.releasedTo d r =
    { s with descs := s.descs.put d (s.releasedAs r), trunks := (s.releasedTo d r).trunks } :=
  State.modTrunks_frame (Trunk.queue d) _ _

theorem State.desc?_releasedTo (s : State) (d : DescIx) (r : Desc) (e : DescIx) :
    (s.releasedTo d r).desc? e = if e = d then some (s.releasedAs r) else s.desc? e := by
  rw [State.releasedTo_frame]
  exact State.desc?_putDesc ..

/-- Settles O52: what a release, a queue left and a descriptor freed do, each by its equation. -/
theorem releaseFollowsDemand : Obligations.ReleaseFollowsDemand := by
  intro s d r hr hwf
  refine ⟨fun none_ => ?_, fun t0 ht0 => ?_, fun t refs cs hs => ?_, ?_⟩
  · rw [State.releaseDesc_eq hr, if_pos (State.wantedOn_nil.2 none_)]
    have found : (s.unwatchedOn r.stream).desc? d = some r := hr
    refine ⟨?_, ?_, fun t => State.trunk_freeDesc .., State.used_freeDesc found⟩
    · exact (State.desc?_freeDesc (s := s.unwatchedOn r.stream) hwf d d).trans (if_pos rfl)
    · rw [State.stream_freeDesc found, if_pos rfl, State.unwatchedOn, State.stream_setStream, if_pos rfl]
      rfl
  · have wanted : s.wantedOn r.stream ≠ [] := fun h => ht0 (State.wantedOn_nil.1 h t0)
    rw [State.releaseDesc_eq hr, if_neg wanted]
    refine ⟨_, _, (State.desc?_releasedTo s d r d).trans (if_pos rfl), ?_, fun t => ?_, fun t => s.trunk_releasedTo d r t,
      fun e he => (State.desc?_releasedTo s d r e).trans (if_neg he), ?_⟩
    · refine congrArg List.length (List.filter_congr fun t _ => ?_)
      exact (Bool.decide_coe _).symm.trans (decide_eq_decide.2 bne_iff_ne)
    · rw [getElem_perTrunk]
      cases s.trunkDemand t r.stream <;> rfl
    · rw [s.releasedTo_frame d r]
  · have unlinked : (s.unlink t d).trunk t = (s.trunk t).unlink d := by rw [State.trunk_unlink, if_pos rfl]
    refine ⟨?_, fun a ha => ?_⟩
    · dsimp only
      rw [unlinked]
      exact State.unlink_eq hr hs t
    · rw [unlinked, Trunk.unlink, ha]
      refine congrArg (fun p => some { a with plan := p }) (List.map_congr_left fun e _ => ?_)
      cases e with
      | none => rfl
      | some x => simp [beq_iff_eq]
  · exact ⟨State.freeDesc_eq hr, (State.desc?_freeDesc hwf d d).trans (if_pos rfl),
      fun e he => (State.desc?_freeDesc hwf d e).trans (if_neg he)⟩

end Sys2Proof.Machine
end


section
/-! PROOF. The law of the descriptors and the segment blocks (R151 to R154, R160, R165) under the operations of the
replay side. -/
namespace Sys2Proof.Machine

/-! ### The lowest free blocks (R160) -/

theorem mem_freeFrom_ge (fuel n k : Nat) (us : List Nat) : ∀ b ∈ freeFrom fuel n k us, k ≤ b := by
  induction fuel, n, k, us using freeFrom.induct with
  | case1 | case2 => exact fun _ hb => absurd hb List.not_mem_nil
  | case3 fuel n k ih =>
    intro b hb
    rw [freeFrom] at hb
    rcases List.mem_cons.1 hb with rfl | hb
    · exact Nat.le_refl _
    · exact Nat.le_of_succ_le (ih b hb)
  | case4 fuel n us u ih =>
    intro b hb
    rw [freeFrom, if_pos rfl] at hb
    exact Nat.le_of_succ_le (ih b hb)
  | case5 fuel n k u us hu ih =>
    intro b hb
    rw [freeFrom, if_neg hu] at hb
    rcases List.mem_cons.1 hb with rfl | hb
    · exact Nat.le_refl _
    · exact Nat.le_of_succ_le (ih b hb)

theorem pairwise_freeFrom (fuel n k : Nat) (us : List Nat) : (freeFrom fuel n k us).Pairwise (· < ·) := by
  induction fuel, n, k, us using freeFrom.induct with
  | case1 | case2 => exact .nil
  | case3 fuel n k ih => exact List.pairwise_cons.2 ⟨fun b hb => mem_freeFrom_ge _ _ _ _ b hb, ih⟩
  | case4 fuel n us u ih =>
    rw [freeFrom, if_pos rfl]
    exact ih
  | case5 fuel n k u us hu ih =>
    rw [freeFrom, if_neg hu]
    exact List.pairwise_cons.2 ⟨fun b hb => mem_freeFrom_ge _ _ _ _ b hb, ih⟩

theorem length_freeFrom (fuel n k : Nat) (us : List Nat) (h : n + us.length ≤ fuel) : (freeFrom fuel n k us).length = n := by
  induction fuel, n, k, us using freeFrom.induct with
  | case1 k n us => exact (Nat.eq_zero_of_add_eq_zero (Nat.le_zero.1 h)).1.symm
  | case2 => rfl
  | case3 fuel n k ih =>
    rw [freeFrom, List.length_cons, ih (by simp at h ⊢; omega)]
  | case4 fuel n us u ih =>
    rw [freeFrom, if_pos rfl]
    exact ih (by rw [List.length_cons] at h; omega)
  | case5 fuel n k u us hu ih =>
    rw [freeFrom, if_neg hu, List.length_cons, ih (by omega)]

/-- The free numbers taken from a rising list from a number on that the list does not undercut. -/
theorem not_mem_freeFrom (fuel n k : Nat) (us : List Nat) (h : us.Pairwise (· < ·)) (hk : ∀ u ∈ us, k ≤ u) :
    ∀ b ∈ freeFrom fuel n k us, b ∉ us := by
  induction fuel, n, k, us using freeFrom.induct with
  | case1 | case2 => exact fun _ hb => absurd hb List.not_mem_nil
  | case3 => exact fun _ _ => List.not_mem_nil
  | case4 fuel n us u ih =>
    obtain ⟨hu, hus⟩ := List.pairwise_cons.1 h
    intro b hb
    rw [freeFrom, if_pos rfl] at hb
    rw [List.mem_cons, not_or]
    exact ⟨Nat.ne_of_gt (mem_freeFrom_ge _ _ _ _ b hb), ih hus hu b hb⟩
  | case5 fuel n k u us hu ih =>
    have above : ∀ x ∈ u :: us, k + 1 ≤ x := by
      intro x hx
      have first : k < u := Nat.lt_of_le_of_ne (hk u List.mem_cons_self) (Ne.symm hu)
      rcases List.mem_cons.1 hx with rfl | hx
      · exact first
      · exact Nat.lt_trans first ((List.pairwise_cons.1 h).1 x hx)
    intro b hb
    rw [freeFrom, if_neg hu] at hb
    rcases List.mem_cons.1 hb with rfl | hb
    · exact fun hm => Nat.lt_irrefl _ (above _ hm)
    · exact ih h above b hb

/-- What is free and not taken is above all that is taken. -/
theorem freeFrom_lowest (fuel n k : Nat) (us : List Nat) :
    ∀ b, k ≤ b → b ∉ us → b ∉ freeFrom fuel n k us → ∀ x ∈ freeFrom fuel n k us, x < b := by
  induction fuel, n, k, us using freeFrom.induct with
  | case1 | case2 => exact fun _ _ _ _ _ hx => absurd hx List.not_mem_nil
  | case3 fuel n k ih =>
    intro b hk hb hn x hx
    rw [freeFrom] at hn hx
    obtain ⟨away, hn⟩ := not_or.1 (mt List.mem_cons.2 hn)
    rcases List.mem_cons.1 hx with rfl | hx
    · omega
    · exact ih b (by omega) hb hn x hx
  | case4 fuel n us u ih =>
    intro b hk hb hn x hx
    rw [freeFrom, if_pos rfl] at hn hx
    obtain ⟨away, hb⟩ := not_or.1 (mt List.mem_cons.2 hb)
    exact ih b (by omega) hb hn x hx
  | case5 fuel n k u us hu ih =>
    intro b hk hb hn x hx
    rw [freeFrom, if_neg hu] at hn hx
    obtain ⟨away, hn⟩ := not_or.1 (mt List.mem_cons.2 hn)
    rcases List.mem_cons.1 hx with rfl | hx
    · omega
    · exact ih b (by omega) hb hn x hx

theorem freeFrom_lt (fuel n k : Nat) (us : List Nat) : ∀ b ∈ freeFrom fuel n k us, b < k + n + us.length := by
  induction fuel, n, k, us using freeFrom.induct with
  | case1 | case2 => exact fun _ hb => absurd hb List.not_mem_nil
  | case3 fuel n k ih =>
    intro b hb
    rw [freeFrom] at hb
    rcases List.mem_cons.1 hb with rfl | hb
    · omega
    · have := ih b hb
      omega
  | case4 fuel n us u ih =>
    intro b hb
    rw [freeFrom, if_pos rfl] at hb
    have := ih b hb
    rw [List.length_cons]
    omega
  | case5 fuel n k u us hu ih =>
    intro b hb
    rw [freeFrom, if_neg hu] at hb
    rcases List.mem_cons.1 hb with rfl | hb
    · omega
    · have := ih b hb
      omega

/-- The lowest free blocks of a canonical block set. -/
theorem State.lowestBlocks_iff (s : State) (n : Nat) (h : s.used.Pairwise (· < ·)) :
    (s.lowestBlocks n).length = n ∧ (s.lowestBlocks n).Pairwise (· < ·) ∧ (∀ b ∈ s.lowestBlocks n, b ∉ s.used)
    ∧ (∀ b, b ∉ s.used → b ∉ s.lowestBlocks n → ∀ x ∈ s.lowestBlocks n, x < b)
    ∧ ∀ b ∈ s.lowestBlocks n, b < n + s.used.length :=
  ⟨length_freeFrom _ _ _ _ (Nat.le_refl _), pairwise_freeFrom .., not_mem_freeFrom _ _ _ _ h fun _ _ => Nat.zero_le _,
    fun b => freeFrom_lowest _ _ _ _ b (Nat.zero_le b), fun b hb => by
      have := freeFrom_lt _ _ _ _ b hb
      omega⟩

theorem mem_foldl_insertRising (bs l : List Nat) (b : Nat) : b ∈ bs.foldl insertRising l ↔ b ∈ l ∨ b ∈ bs := by
  induction bs generalizing l with
  | nil => simp
  | cons x bs ih => rw [List.foldl_cons, ih, mem_insertRising, List.mem_cons, or_comm (a := b = x), or_assoc]

/-- The lowest free number is not above the number of records. -/
theorem firstFree_le (l : List Nat) (k : Nat) : firstFree k l ≤ k + l.length := by
  induction l generalizing k with
  | nil => exact Nat.le_refl _
  | cons u us ih =>
    rw [firstFree]
    split
    · have := ih (k + 1)
      rw [List.length_cons]
      omega
    · omega

/-! ### The law -/

/-- A descriptor is not RELEASED: it is an upload or HELD. -/
def Desc.Waiting (r : Desc) : Prop := ∀ refs cs, r.state ≠ .released refs cs

/-- The views that the law rests on. -/
abbrev blockLawViews : List View := [.descs, .used, .stream .state, .stream .inUse]

namespace State.BlockLaw
variable {s u : State}

theorem of_touches {F : List View} (t : s.Touches F u) (ha : View.apart blockLawViews F = true) (h : s.BlockLaw) :
    u.BlockLaw := by
  have apart := (View.apart_iff _ _).1 ha
  have descs : u.descs = s.descs := t.descs (apart _ (View.mem_of (by decide +kernel)))
  have used : u.used = s.used := t.used (apart _ (View.mem_of (by decide +kernel)))
  have state (k : StreamId) : (u.stream k).state = (s.stream k).state :=
    t.stream .state k (apart _ (View.mem_of (by decide +kernel)))
  have inUse (k : StreamId) : (u.stream k).inUse = (s.stream k).inUse :=
    t.stream .inUse k (apart _ (View.mem_of (by decide +kernel)))
  have desc (d : DescIx) : u.desc? d = s.desc? d := congrArg (Table.get? · d) descs
  exact
    { descs := by rw [descs]; exact h.descs
      used := by rw [used]; exact h.used
      sizes := fun d r hr => h.sizes d r ((desc d).symm.trans hr)
      disjoint := fun d e r q hr hq => h.disjoint d e r q ((desc d).symm.trans hr) ((desc e).symm.trans hq)
      whole := fun b => by simp only [used, desc, h.whole]
      counted := fun k => by rw [inUse, descs, h.counted]
      closed := fun k hk => by rw [inUse]; exact h.closed k ((state k).symm.trans hk)
      draining := fun k hk => by rw [inUse]; exact h.draining k ((state k).symm.trans hk)
      opened := fun d r hr hw => (state _).trans (h.opened d r ((desc d).symm.trans hr) hw)
      upload := fun d e r q n m hr hq => h.upload d e r q n m ((desc d).symm.trans hr) ((desc e).symm.trans hq) }

/-- How many descriptors of the table belong to a stream. -/
theorem counted_eq (h : s.BlockLaw) (k : StreamId) : (s.stream k).inUse = s.descs.count fun r => decide (r.stream = k) :=
  h.counted k

/-- The stream of a descriptor counts it. -/
theorem inUse_pos (h : s.BlockLaw) {d : DescIx} {r : Desc} (hr : s.desc? d = some r) : 0 < (s.stream r.stream).inUse := by
  have counted := h.counted_eq r.stream
  rw [Table.count_del _ _ d] at counted
  have hits : hit (fun q : Desc => decide (q.stream = r.stream)) (s.descs.get? d) = 1 := by
    have found : s.descs.get? d = some r := hr
    rw [found]
    exact if_pos (decide_eq_true rfl)
  omega

theorem freed (h : s.BlockLaw) {d : DescIx} {r : Desc} (hr : s.desc? d = some r) : (s.freed d r).BlockLaw := by
  have desc (e : DescIx) : (s.freed d r).desc? e = if e = d then none else s.desc? e := Table.get?_del _ _ _ h.descs
  have stream (k : StreamId) : (s.freed d r).stream k = if k = r.stream then (s.stream r.stream).lessOne else s.stream k :=
    State.stream_setStream ..
  have before {e : DescIx} {q : Desc} (hq : (s.freed d r).desc? e = some q) : e ≠ d ∧ s.desc? e = some q := by
    rw [desc] at hq
    split at hq
    · cases hq
    · next he => exact ⟨he, hq⟩
  have used (b : Nat) : b ∈ (s.freed d r).used ↔ b ∈ s.used ∧ b ∉ r.blocks := by
    rw [show (s.freed d r).used = s.used.filter (· ∉ r.blocks) from rfl, List.mem_filter, decide_eq_true_iff]
  have positive := h.inUse_pos hr
  refine
    { descs := Table.wf_del _ _ h.descs
      used := h.used.filter _
      sizes := fun e q hq => h.sizes e q (before hq).2
      disjoint := fun e f q p hq hp => h.disjoint e f q p (before hq).2 (before hp).2
      whole := fun b => ?_
      counted := fun k => ?_
      closed := fun k hk => ?_
      draining := fun k hk => ?_
      opened := fun e q hq hw => ?_
      upload := fun e f q p n m hq hp => h.upload e f q p n m (before hq).2 (before hp).2 }
  · rw [used, h.whole]
    constructor
    · rintro ⟨⟨e, q, hq, hb⟩, hn⟩
      have away : e ≠ d := by
        rintro rfl
        exact hn (Option.some.inj (hq.symm.trans hr) ▸ hb)
      exact ⟨e, q, by rw [desc, if_neg away]; exact hq, hb⟩
    · rintro ⟨e, q, hq, hb⟩
      obtain ⟨he, hq⟩ := before hq
      exact ⟨⟨e, q, hq, hb⟩, h.disjoint e d q r hq hr he b hb⟩
  · have total := Table.count_del s.descs (fun q => decide (q.stream = k)) d
    have counted := h.counted_eq k
    have found : s.descs.get? d = some r := hr
    rw [found] at total
    change _ = (s.descs.del d).count fun q => decide (q.stream = k)
    rw [stream]
    split
    · next hk =>
      have one : hit (fun q : Desc => decide (q.stream = k)) (some r) = 1 := if_pos (decide_eq_true hk.symm)
      subst hk
      change (s.stream r.stream).inUse - 1 = _
      omega
    · next hk =>
      have zero : hit (fun q : Desc => decide (q.stream = k)) (some r) = 0 :=
        if_neg (by rw [decide_eq_true_iff]; exact Ne.symm hk)
      omega
  · rw [stream] at hk ⊢
    split at hk
    · next e =>
      rw [if_pos e]
      unfold Stream.lessOne at hk ⊢
      dsimp only at hk ⊢
      split at hk
      · next last => exact Nat.sub_eq_zero_of_le last.2
      · have none_ := h.closed _ hk
        omega
    · next e =>
      rw [if_neg e]
      exact h.closed k hk
  · rw [stream] at hk ⊢
    split at hk
    · next e =>
      rw [if_pos e]
      unfold Stream.lessOne at hk ⊢
      dsimp only at hk ⊢
      split at hk
      · cases hk
      · next last =>
        have more : ¬ (s.stream r.stream).inUse ≤ 1 := fun hl => last ⟨hk, hl⟩
        omega
    · next e =>
      rw [if_neg e]
      exact h.draining k hk
  · have open_ := h.opened e q (before hq).2 hw
    rw [stream]
    split
    · next he =>
      rw [he] at open_
      unfold Stream.lessOne
      dsimp only
      split
      · next last =>
        rw [open_] at last
        cases last.1
      · exact open_
    · exact open_

theorem freeDesc (h : s.BlockLaw) (d : DescIx) : (s.freeDesc d).BlockLaw := by
  cases hr : s.desc? d with
  | none =>
    have kept : s.freeDesc d = s := by rw [State.freeDesc, hr]
    rw [kept]
    exact h
  | some r => exact of_touches (State.freeDesc_freed hr) (by decide +kernel) (h.freed hr)

/-- A descriptor's state changes, but not back from RELEASED, and no descriptor becomes an upload. -/
theorem restate (h : s.BlockLaw) {d : DescIx} {r : Desc} (hr : s.desc? d = some r) (x : DescState)
    (hw : Desc.Waiting { r with state := x } → r.Waiting) (hu : ∀ n, x = .uploading n → ∃ m, r.state = .uploading m) :
    (s.putDesc d { r with state := x }).BlockLaw := by
  have desc (e : DescIx) : (s.putDesc d { r with state := x }).desc? e =
      if e = d then some { r with state := x } else s.desc? e := State.desc?_putDesc ..
  have before {e : DescIx} {q : Desc} (hq : (s.putDesc d { r with state := x }).desc? e = some q) :
      ∃ p, s.desc? e = some p ∧ q = { p with state := q.state } ∧ (q.Waiting → p.Waiting)
        ∧ ∀ n, q.state = .uploading n → ∃ m, p.state = .uploading m := by
    rw [desc] at hq
    split at hq
    · next he =>
      cases hq
      exact ⟨r, he ▸ hr, rfl, hw, hu⟩
    · exact ⟨q, hq, rfl, id, fun n hn => ⟨n, hn⟩⟩
  have after {e : DescIx} {p : Desc} (hp : s.desc? e = some p) :
      ∃ q, (s.putDesc d { r with state := x }).desc? e = some q ∧ q = { p with state := q.state } := by
    rw [desc]
    split
    · next he =>
      obtain rfl : r = p := Option.some.inj (hr.symm.trans (he ▸ hp))
      exact ⟨_, rfl, rfl⟩
    · exact ⟨p, hp, rfl⟩
  refine
    { descs := Table.wf_put _ _ _ h.descs
      used := h.used
      sizes := fun e q hq => ?_
      disjoint := fun e f q p hq hp hn b hb => ?_
      whole := fun b => (h.whole b).trans ⟨?_, ?_⟩
      counted := fun k => ?_
      closed := h.closed
      draining := h.draining
      opened := fun e q hq hw => ?_
      upload := fun e f q p n m hq hp hn hm hs => ?_ }
  · obtain ⟨p, hp, same, -⟩ := before hq
    rw [same]
    exact h.sizes e p hp
  · obtain ⟨q', hq', sameQ, -⟩ := before hq
    obtain ⟨p', hp', sameP, -⟩ := before hp
    rw [sameQ] at hb
    rw [sameP]
    exact h.disjoint e f q' p' hq' hp' hn b hb
  · rintro ⟨e, p, hp, hb⟩
    obtain ⟨q, hq, same⟩ := after hp
    exact ⟨e, q, hq, by rw [same]; exact hb⟩
  · rintro ⟨e, q, hq, hb⟩
    obtain ⟨p, hp, same, -⟩ := before hq
    rw [same] at hb
    exact ⟨e, p, hp, hb⟩
  · refine (h.counted_eq k).trans (Table.count_congr h.descs (Table.wf_put _ _ _ h.descs) fun e => ?_)
    change (s.desc? e).map _ = ((s.putDesc d { r with state := x }).desc? e).map _
    rw [desc]
    split
    · next he => rw [he, hr]; rfl
    · rfl
  · obtain ⟨p, hp, same, waiting, -⟩ := before hq
    rw [same]
    exact h.opened e p hp (waiting hw)
  · obtain ⟨q', hq', sameQ, -, upQ⟩ := before hq
    obtain ⟨p', hp', sameP, -, upP⟩ := before hp
    obtain ⟨n', hn'⟩ := upQ n hn
    obtain ⟨m', hm'⟩ := upP m hm
    rw [sameQ, sameP] at hs
    exact h.upload e f q' p' n' m' hq' hp' hn' hm' hs

/-- A stream's record changes, but not its count, and it leaves OPEN only with nothing that waits. -/
theorem setStream (h : s.BlockLaw) (k : StreamId) {q : Stream} (hi : q.inUse = (s.stream k).inUse)
    (hc : q.state = .closed → (s.stream k).inUse = 0) (hd : q.state = .draining → 0 < (s.stream k).inUse)
    (ho : q.state ≠ .opened → ∀ d r, s.desc? d = some r → r.stream = k → ¬ r.Waiting) :
    (s.setStream k q).BlockLaw := by
  have inUse (k' : StreamId) : ((s.setStream k q).stream k').inUse = (s.stream k').inUse := by
    rw [State.stream_setStream]
    split
    · next e => rw [e, hi]
    · rfl
  refine
    { descs := h.descs, used := h.used, sizes := h.sizes, disjoint := h.disjoint, whole := h.whole
      counted := fun k' => (inUse k').trans (h.counted k')
      closed := fun k' hk => ?_
      draining := fun k' hk => ?_
      opened := fun d r hr hw => ?_
      upload := h.upload }
  · rw [inUse]
    rw [State.stream_setStream] at hk
    split at hk
    · next e => rw [e]; exact hc hk
    · exact h.closed k' hk
  · rw [inUse]
    rw [State.stream_setStream] at hk
    split at hk
    · next e => rw [e]; exact hd hk
    · exact h.draining k' hk
  · rw [State.stream_setStream]
    split
    · next e =>
      refine Classical.byContradiction fun hn => ?_
      exact ho hn d r hr e hw
    · exact h.opened d r hr hw

/-- SEG_BEGIN takes a free descriptor and the lowest free blocks for an OPEN stream with no upload. -/
theorem beginUpload (h : s.BlockLaw) {k : StreamId} (hk : (s.stream k).state = .opened) (hu : ∀ d r n, s.desc? d = some r →
    r.state = .uploading n → r.stream ≠ k) (q : Seq) (m : Mark) {nL nX : Nat} (hn : 0 < nL) (hd : s.descs.entries.length < 256)
    (hb : s.used.length + (nL + nX) ≤ 16384) :
    (s.beginUpload (firstFree 0 s.descs.keys) k q m nL nX (s.lowestBlocks (nL + nX))).BlockLaw := by
  obtain ⟨count, rising, fresh, -, below⟩ := s.lowestBlocks_iff (nL + nX) h.used
  have free : s.desc? (firstFree 0 s.descs.keys) = none := s.descs.get?_firstFree h.descs
  have low : firstFree 0 s.descs.keys < 256 := by
    have bound := firstFree_le s.descs.keys 0
    have count : s.descs.keys.length = s.descs.entries.length := List.length_map ..
    omega
  generalize firstFree 0 s.descs.keys = d at free low
  generalize s.lowestBlocks (nL + nX) = blocks at count rising fresh below
  have desc (e : DescIx) : (s.beginUpload d k q m nL nX blocks).desc? e =
      if e = d then some ⟨.uploading 0, k, q, m, nL, nX, blocks⟩ else s.desc? e := State.desc?_putDesc ..
  have stream (k' : StreamId) : (s.beginUpload d k q m nL nX blocks).stream k' =
      if k' = k then { s.stream k with inUse := (s.stream k).inUse + 1 } else s.stream k' := State.stream_setStream ..
  have used (b : Nat) : b ∈ (s.beginUpload d k q m nL nX blocks).used ↔ b ∈ s.used ∨ b ∈ blocks :=
    mem_foldl_insertRising ..
  have known {e : DescIx} {r : Desc} (hr : s.desc? e = some r) : e ≠ d := by
    rintro rfl
    rw [free] at hr
    cases hr
  have new {e : DescIx} {r : Desc} (hr : (s.beginUpload d k q m nL nX blocks).desc? e = some r) :
      (e = d ∧ r = ⟨.uploading 0, k, q, m, nL, nX, blocks⟩) ∨ s.desc? e = some r := by
    rw [desc] at hr
    split at hr
    · next he => exact .inl ⟨he, (Option.some.inj hr).symm⟩
    · exact .inr hr
  have state (k' : StreamId) : ((s.beginUpload d k q m nL nX blocks).stream k').state = (s.stream k').state := by
    rw [stream]
    split
    · next e => rw [e]
    · rfl
  refine
    { descs := Table.wf_put _ _ _ h.descs
      used := pairwise_foldl_insertRising _ _ h.used
      sizes := fun e r hr => ?_
      disjoint := fun e f r p hr hp hn b hb hb' => ?_
      whole := fun b => ?_
      counted := fun k' => ?_
      closed := fun k' hk' => ?_
      draining := fun k' hk' => ?_
      opened := fun e r hr hw => ?_
      upload := fun e f r p n m hr hp hn hm hs => ?_ }
  · rcases new hr with ⟨rfl, rfl⟩ | hr
    · exact ⟨low, hn, count, rising, fun b hb' => by have := below b hb'; omega⟩
    · exact h.sizes e r hr
  · rcases new hr with ⟨rfl, rfl⟩ | old
    · rcases new hp with ⟨rfl, rfl⟩ | hp
      · exact hn rfl
      · exact fresh b hb ((h.whole b).2 ⟨f, p, hp, hb'⟩)
    · rcases new hp with ⟨rfl, rfl⟩ | hp
      · exact fresh b hb' ((h.whole b).2 ⟨e, r, old, hb⟩)
      · exact h.disjoint e f r p old hp hn b hb hb'
  · rw [used, h.whole]
    constructor
    · rintro (⟨e, r, hr, hb⟩ | hb)
      · exact ⟨e, r, by rw [desc, if_neg (known hr)]; exact hr, hb⟩
      · exact ⟨d, _, by rw [desc, if_pos rfl], hb⟩
    · rintro ⟨e, r, hr, hb⟩
      rcases new hr with ⟨rfl, rfl⟩ | hr
      · exact .inr hb
      · exact .inl ⟨e, r, hr, hb⟩
  · have change := Table.count_change h.descs (Table.wf_put s.descs d ⟨.uploading 0, k, q, m, nL, nX, blocks⟩ h.descs)
      (f := fun r => decide (r.stream = k')) d fun e he => by rw [Table.get?_put, if_neg he]
    have absent : s.descs.get? d = none := free
    rw [absent, Table.get?_put, if_pos rfl] at change
    have counted := h.counted_eq k'
    have none_ : hit (fun r : Desc => decide (r.stream = k')) none = 0 := rfl
    change _ = (s.descs.put d ⟨.uploading 0, k, q, m, nL, nX, blocks⟩).count fun r => decide (r.stream = k')
    rw [stream]
    split
    · next e =>
      have one : hit (fun r : Desc => decide (r.stream = k')) (some ⟨.uploading 0, k, q, m, nL, nX, blocks⟩) = 1 :=
        if_pos (decide_eq_true e.symm)
      subst e
      change (s.stream k').inUse + 1 = _
      omega
    · next e =>
      have zero : hit (fun r : Desc => decide (r.stream = k')) (some ⟨.uploading 0, k, q, m, nL, nX, blocks⟩) = 0 :=
        if_neg (by rw [decide_eq_true_iff]; exact Ne.symm e)
      omega
  · rw [state] at hk'
    rw [stream, if_neg (show ¬ k' = k from fun e => by rw [e, hk] at hk'; cases hk')]
    exact h.closed k' hk'
  · rw [state] at hk'
    rw [stream, if_neg (show ¬ k' = k from fun e => by rw [e, hk] at hk'; cases hk')]
    exact h.draining k' hk'
  · rw [state]
    rcases new hr with ⟨rfl, rfl⟩ | hr
    · exact hk
    · exact h.opened e r hr hw
  · rcases new hr with ⟨rfl, rfl⟩ | old
    · rcases new hp with ⟨rfl, rfl⟩ | hp
      · rfl
      · exact absurd hs.symm (hu f p m hp hm)
    · rcases new hp with ⟨rfl, rfl⟩ | hp
      · exact absurd hs (hu e r n old hn)
      · exact h.upload e f r p n m old hp hn hm hs

end State.BlockLaw
end Sys2Proof.Machine
end


section
/-! PROOF. The laws of the release queue (R158) and of the replay queues and reference counts (R159, R173 to R175) under
the operations of the replay side. -/
namespace Sys2Proof.Machine

/-! ### The release queue (R158) -/

/-- The law of the release queue while a mark event is at work: the descriptors of `ds` are still to be released, and
their mark may be reached. -/
structure State.Releases (s : State) (ds : List DescIx) : Prop where
  nodup : s.release.Nodup
  held : ∀ d, d ∈ s.release ↔ ∃ r, s.desc? d = some r ∧ r.state = .held
  window : ∀ d r, s.desc? d = some r → r.state = .held →
    -1024 ≤ s.ahead r ∧ s.ahead r ≤ 0 ∧ (d ∉ ds → s.ahead r < 0)
  order : s.release.Pairwise fun d e => ∀ r q, s.desc? d = some r → s.desc? e = some q → s.ahead q ≤ s.ahead r

theorem State.releases_iff {s : State} : s.Releases [] ↔ s.ReleaseLaw :=
  ⟨fun h => ⟨h.nodup, h.held, fun d r hr hs =>
      have window := h.window d r hr hs
      ⟨window.1, window.2.2 List.not_mem_nil⟩, h.order⟩,
    fun h => ⟨h.nodup, h.held, fun d r hr hs =>
      have window := h.window d r hr hs
      ⟨window.1, Int.le_of_lt window.2, fun _ => window.2⟩, h.order⟩⟩

namespace State.Releases
variable {s u : State} {ds : List DescIx}

theorem of_touches {F : List View} (t : s.Touches F u)
    (ha : View.apart [.descs, .release, .marks] F = true) (h : s.Releases ds) : u.Releases ds := by
  have apart := (View.apart_iff _ _).1 ha
  have descs : u.descs = s.descs := t.descs (apart _ (View.mem_of (by decide +kernel)))
  have release : u.release = s.release := t.release (apart _ (View.mem_of (by decide +kernel)))
  have marks : u.marks = s.marks := t.marks (apart _ (View.mem_of (by decide +kernel)))
  have desc (d : DescIx) : u.desc? d = s.desc? d := congrArg (Table.get? · d) descs
  have ahead (r : Desc) : u.ahead r = s.ahead r := by rw [State.ahead, marks]; rfl
  exact ⟨by rw [release]; exact h.nodup, by simpa only [release, desc] using h.held,
    by simpa only [desc, ahead] using h.window, by simpa only [release, desc, ahead] using h.order⟩

/-- A descriptor that is in the queue no more has left it, and the others stand as they did. -/
theorem drop (h : s.Releases ds) {d : DescIx} (release : u.release = s.release.filter (· ≠ d))
    (count : u.marks.count = s.marks.count) (others : ∀ e, e ≠ d → u.desc? e = s.desc? e)
    (gone : ∀ r, u.desc? d = some r → r.state ≠ .held) : u.Releases ds := by
  have ahead (r : Desc) : u.ahead r = s.ahead r := by rw [State.ahead, count]; rfl
  have away {e : DescIx} {r : Desc} (hr : u.desc? e = some r) (hs : r.state = .held) : e ≠ d := by
    rintro rfl
    exact gone r hr hs
  refine ⟨by rw [release]; exact h.nodup.filter _, fun e => ?_, fun e r hr hs => ?_, ?_⟩
  · rw [release, List.mem_filter, decide_eq_true_iff, h.held]
    constructor
    · rintro ⟨⟨r, hr, hs⟩, he⟩
      exact ⟨r, (others e he).trans hr, hs⟩
    · rintro ⟨r, hr, hs⟩
      have he := away hr hs
      exact ⟨⟨r, (others e he).symm.trans hr, hs⟩, he⟩
  · rw [ahead]
    exact h.window e r ((others e (away hr hs)).symm.trans hr) hs
  · rw [release]
    refine (h.order.filter _).imp_of_mem fun {e f} he hf hord r q hr hq => ?_
    have apart {x : DescIx} (hx : x ∈ s.release.filter (· ≠ d)) : x ≠ d :=
      of_decide_eq_true (List.mem_filter.1 hx).2
    rw [ahead, ahead]
    exact hord r q ((others e (apart he)).symm.trans hr) ((others f (apart hf)).symm.trans hq)

/-- A descriptor that is not HELD is not in the queue. -/
theorem filter_eq (h : s.Releases ds) {d : DescIx} (hd : ∀ r, s.desc? d = some r → r.state ≠ .held) :
    s.release.filter (· ≠ d) = s.release := by
  refine List.filter_eq_self.2 fun e he => decide_eq_true ?_
  rintro rfl
  obtain ⟨r, hr, hs⟩ := (h.held e).1 he
  exact hd r hr hs

/-- Only a descriptor changes that is HELD neither before nor after. -/
theorem beside (h : s.Releases ds) {d : DescIx} (hd : ∀ r, s.desc? d = some r → r.state ≠ .held)
    (release : u.release = s.release) (count : u.marks.count = s.marks.count)
    (others : ∀ e, e ≠ d → u.desc? e = s.desc? e) (gone : ∀ r, u.desc? d = some r → r.state ≠ .held) : u.Releases ds :=
  h.drop (release.trans (h.filter_eq hd).symm) count others gone

/-- What is HELD no more is not to be released any more. -/
theorem done (h : s.Releases ds) {d : DescIx} {rest : List DescIx} (hds : ds = d :: rest)
    (hd : ∀ r, s.desc? d = some r → r.state ≠ .held) : s.Releases rest := by
  refine ⟨h.nodup, h.held, fun e r hr hs => ?_, h.order⟩
  obtain ⟨near, far, ahead⟩ := h.window e r hr hs
  refine ⟨near, far, fun he => ahead ?_⟩
  rw [hds, List.mem_cons, not_or]
  refine ⟨?_, he⟩
  rintro rfl
  exact hd r hr hs

end State.Releases

/-! ### The replay queues (R159, R173 to R175) -/

/-- The views that the law rests on. -/
abbrev queueLawViews : List View := [.descs, .trunk .replay, .trunk .allocation]

namespace State.QueueLaw
variable {s u : State}

theorem of_touches {F : List View} (t : s.Touches F u) (ha : View.apart queueLawViews F = true) (h : s.QueueLaw) :
    u.QueueLaw := by
  have apart := (View.apart_iff _ _).1 ha
  have descs : u.descs = s.descs := t.descs (apart _ (View.mem_of (by decide +kernel)))
  have replay (x : TrunkId) : (u.trunk x).replay = (s.trunk x).replay :=
    t.trunk .replay x (apart _ (View.mem_of (by decide +kernel)))
  have allocation (x : TrunkId) : (u.trunk x).allocation = (s.trunk x).allocation :=
    t.trunk .allocation x (apart _ (View.mem_of (by decide +kernel)))
  have desc (d : DescIx) : u.desc? d = s.desc? d := congrArg (Table.get? · d) descs
  exact
    { queues := by simpa only [replay, desc] using h.queues
      refs := by simpa only [replay, desc] using h.refs
      left := by simpa only [replay, desc] using h.left
      away := by simpa only [replay, desc] using h.away
      plans := by simpa only [replay, allocation] using h.plans }

/-- No queue holds a descriptor that waits. -/
theorem not_queued (h : s.QueueLaw) {d : DescIx} (hd : ∀ r, s.desc? d = some r → r.Waiting) (t : TrunkId) :
    d ∉ (s.trunk t).replay := by
  intro hm
  obtain ⟨r, refs, cs, hr, hs⟩ := (h.queues t).2 d hm
  exact hd r hr refs cs hs

/-- Only a descriptor changes that waits before, if it is there, and afterwards. -/
theorem beside (h : s.QueueLaw) {d : DescIx} (before : ∀ r, s.desc? d = some r → r.Waiting)
    (after : ∀ r, u.desc? d = some r → r.Waiting) (others : ∀ e, e ≠ d → u.desc? e = s.desc? e)
    (trunks : ∀ t, u.trunk t = s.trunk t) : u.QueueLaw := by
  have queued {e : DescIx} {t : TrunkId} (he : e ∈ (s.trunk t).replay) : e ≠ d := by
    rintro rfl
    exact h.not_queued before t he
  have old {e : DescIx} {r : Desc} {n : Nat} {cs : Vector Carry 8} (hr : u.desc? e = some r)
      (hs : r.state = .released n cs) : s.desc? e = some r := by
    refine (others e ?_).symm.trans hr
    rintro rfl
    exact after r hr n cs hs
  refine
    { queues := fun t => ?_
      refs := fun e r n cs hr hs => by simp only [trunks]; exact h.refs e r n cs (old hr hs) hs
      left := fun e r n cs t hr hs hm => h.left e r n cs t (old hr hs) hs (by rw [trunks] at hm; exact hm)
      away := fun e r n cs t hr hs hm => h.away e r n cs t (old hr hs) hs (by rw [trunks] at hm; exact hm)
      plans := fun t a e ha he => by rw [trunks] at ha ⊢; exact h.plans t a e ha he }
  rw [trunks]
  refine ⟨(h.queues t).1, fun e he => ?_⟩
  rw [others e (queued he)]
  exact (h.queues t).2 e he

/-- A trunk's record written with its queue and no allocation. -/
theorem bare (h : s.QueueLaw) {t : TrunkId} {r : Trunk} (hr : r.replay = (s.trunk t).replay) (ha : r.allocation = none) :
    (s.setTrunk t r).QueueLaw := by
  have replay (x : TrunkId) : ((s.setTrunk t r).trunk x).replay = (s.trunk x).replay := by
    rw [State.trunk_setTrunk]
    split
    · next e => rw [e, hr]
    · rfl
  have desc (d : DescIx) : (s.setTrunk t r).desc? d = s.desc? d := rfl
  refine
    { queues := by simpa only [replay, desc] using h.queues
      refs := by simpa only [replay, desc] using h.refs
      left := by simpa only [replay, desc] using h.left
      away := by simpa only [replay, desc] using h.away
      plans := fun x a e hx he => ?_ }
  rw [replay]
  rw [State.trunk_setTrunk] at hx
  split at hx
  · rw [ha] at hx
    cases hx
  · exact h.plans x a e hx he

/-- **A descriptor leaves a queue that holds it**: its rendition there is cleared and its count is one less; at 0 it is
gone. -/
theorem unlink (h : s.QueueLaw) (hwf : s.descs.wf = true) {t : TrunkId} {d : DescIx} (hd : d ∈ (s.trunk t).replay) :
    (s.unlink t d).QueueLaw := by
  obtain ⟨r, refs, cs, hr, hs⟩ := (h.queues t).2 d hd
  obtain ⟨positive, count⟩ := h.refs d r refs cs hr hs
  have desc := State.desc?_unlink hwf hr hs t
  have replay (x : TrunkId) : ((s.unlink t d).trunk x).replay =
      if x = t then (s.trunk t).replay.filter (· ≠ d) else (s.trunk x).replay := by
    rw [State.trunk_unlink]
    split <;> rfl
  have queued (x : TrunkId) (e : DescIx) : e ∈ ((s.unlink t d).trunk x).replay ↔
      e ∈ (s.trunk x).replay ∧ ¬ (x = t ∧ e = d) := by
    rw [replay]
    split
    · next hx => rw [List.mem_filter, decide_eq_true_iff, hx]; simp
    · next hx => simp [hx]
  have fewer : (allTrunks.filter fun x => d ∈ ((s.unlink t d).trunk x).replay).length = refs - 1 := by
    have one : (allTrunks.filter fun x => d ∈ ((s.unlink t d).trunk x).replay) =
        (allTrunks.filter fun x => d ∈ (s.trunk x).replay).erase t := by
      rw [List.Nodup.erase_eq_filter (nodup_allTrunks.filter _), List.filter_filter]
      refine List.filter_congr fun x _ => ?_
      rw [Bool.eq_iff_iff, decide_eq_true_iff, queued]
      simp [and_comm]
    rw [one, List.length_erase_of_mem (List.mem_filter.2 ⟨mem_allTrunks t, decide_eq_true hd⟩), ← count]
  have same (e : DescIx) (he : e ≠ d) (x : TrunkId) : e ∈ ((s.unlink t d).trunk x).replay ↔ e ∈ (s.trunk x).replay := by
    rw [queued]
    exact and_iff_left fun hx => he hx.2
  have cases {e : DescIx} {q : Desc} {n : Nat} {ks : Vector Carry 8} (hq : (s.unlink t d).desc? e = some q)
      (hn : q.state = .released n ks) : (e ≠ d ∧ s.desc? e = some q) ∨
        (e = d ∧ ¬ refs ≤ 1 ∧ n = refs - 1 ∧ ks = cs.set t.val ⟨.none, 0⟩ ∧ q = { r with state := q.state }) := by
    rw [desc] at hq
    split at hq
    · next he =>
      split at hq
      · cases hq
      · next more =>
        cases hq
        cases hn
        exact .inr ⟨he, more, rfl, rfl, rfl⟩
    · next he => exact .inl ⟨he, hq⟩
  refine
    { queues := fun x => ⟨?_, fun e he => ?_⟩
      refs := fun e q n ks hq hn => ?_
      left := fun e q n ks x hq hn hm => ?_
      away := fun e q n ks x hq hn hm => ?_
      plans := fun x a e ha he => ?_ }
  · rw [replay]
    split
    · exact (h.queues t).1.filter _
    · exact (h.queues x).1
  · obtain ⟨before, apart⟩ := (queued x e).1 he
    by_cases hed : e = d
    · subst hed
      have more : ¬ refs ≤ 1 := by
        have away : x ≠ t := fun hx => apart ⟨hx, rfl⟩
        have two : 1 < (allTrunks.filter fun x => e ∈ (s.trunk x).replay).length :=
          one_lt_length_of_mem (Ne.symm away) (List.mem_filter.2 ⟨mem_allTrunks t, decide_eq_true hd⟩)
            (List.mem_filter.2 ⟨mem_allTrunks x, decide_eq_true before⟩)
        rw [← count] at two
        exact Nat.not_le.2 two
      exact ⟨_, _, _, (desc e).trans ((if_pos rfl).trans (if_neg more)), rfl⟩
    · obtain ⟨q, n, ks, hq, hn⟩ := (h.queues x).2 e before
      exact ⟨q, n, ks, (desc e).trans ((if_neg hed).trans hq), hn⟩
  · rcases cases hq hn with ⟨he, hq⟩ | ⟨rfl, more, rfl, -, -⟩
    · have counted := h.refs e q n ks hq hn
      simp only [same e he]
      exact counted
    · exact ⟨by omega, fewer.symm⟩
  · rcases cases hq hn with ⟨he, hq⟩ | ⟨rfl, more, -, rfl, same⟩
    · exact h.left e q n ks x hq hn ((same e he x).1 hm)
    · obtain ⟨before, apart⟩ := (queued x e).1 hm
      have away : t.val ≠ x.val := fun hx => apart ⟨(Fin.ext hx).symm, rfl⟩
      have carry : (cs.set t.val ⟨.none, 0⟩)[x.val] = cs[x.val] := Vector.getElem_set_ne _ _ away
      rw [carry, same]
      exact h.left e r refs cs x hr hs before
  · rcases cases hq hn with ⟨he, hq⟩ | ⟨rfl, more, -, rfl, -⟩
    · exact h.away e q n ks x hq hn fun hx => hm ((same e he x).2 hx)
    · by_cases hx : t.val = x.val
      · simp only [← hx, Vector.getElem_set_self]
      · rw [Vector.getElem_set_ne _ _ hx]
        refine h.away e r refs cs x hr hs fun hb => hm ((queued x e).2 ⟨hb, fun hx' => hx (congrArg Fin.val hx'.1.symm)⟩)
  · rw [queued]
    rw [State.trunk_unlink] at ha
    split at ha
    · next hx =>
      subst hx
      obtain ⟨a', ha', rfl⟩ := Option.map_eq_some_iff.1 ha
      obtain ⟨o, ho, hoe⟩ := List.mem_map.1 he
      cases o with
      | none => cases hoe
      | some y =>
        dsimp only at hoe
        split at hoe
        · cases hoe
        · next hy =>
          cases hoe
          exact ⟨h.plans x a' e ha' ho, fun hed => hy hed.2⟩
    · next hx => exact ⟨h.plans x a e ha he, fun hed => hx hed.1⟩

/-- A descriptor that waited is released to the trunks that want it. -/
theorem releasedTo (h : s.QueueLaw) {d : DescIx} {r : Desc} (hr : s.desc? d = some r) (hw : r.Waiting) (hn : 0 < r.nL)
    (wanted : s.wantedOn r.stream ≠ []) : (s.releasedTo d r).QueueLaw := by
  have desc := State.desc?_releasedTo s d r
  have replay (t : TrunkId) : ((s.releasedTo d r).trunk t).replay =
      (s.trunk t).replay ++ if s.trunkDemand t r.stream = .none then [] else [d] := by rw [State.trunk_releasedTo]
  have fresh := h.not_queued fun q hq => Option.some.inj (hr.symm.trans hq) ▸ hw
  have here (t : TrunkId) : d ∈ ((s.releasedTo d r).trunk t).replay ↔ s.trunkDemand t r.stream ≠ .none := by
    rw [replay, List.mem_append]
    by_cases hd : s.trunkDemand t r.stream = .none
    · rw [if_pos hd]
      exact ⟨fun hm => absurd hm (not_or.2 ⟨fresh t, List.not_mem_nil⟩), fun hn => absurd hd hn⟩
    · rw [if_neg hd]
      exact ⟨fun _ => hd, fun _ => .inr (List.mem_singleton.2 rfl)⟩
  have there (e : DescIx) (he : e ≠ d) (t : TrunkId) : e ∈ ((s.releasedTo d r).trunk t).replay ↔ e ∈ (s.trunk t).replay := by
    rw [replay, List.mem_append]
    split
    · simp
    · simp [he]
  have cases {e : DescIx} {q : Desc} (hq : (s.releasedTo d r).desc? e = some q) :
      (e ≠ d ∧ s.desc? e = some q) ∨ (e = d ∧ q = s.releasedAs r) := by
    rw [desc] at hq
    split at hq
    · next he => exact .inr ⟨he, (Option.some.inj hq).symm⟩
    · next he => exact .inl ⟨he, hq⟩
  refine
    { queues := fun t => ⟨?_, fun e he => ?_⟩
      refs := fun e q n ks hq hn => ?_
      left := fun e q n ks t hq hn hm => ?_
      away := fun e q n ks t hq hn hm => ?_
      plans := fun t a e ha he => ?_ }
  · rw [replay]
    split
    · rw [List.append_nil]
      exact (h.queues t).1
    · exact List.nodup_append.2 ⟨(h.queues t).1, List.pairwise_singleton _ _, fun a ha b hb e =>
        fresh t (List.mem_singleton.1 hb ▸ e ▸ ha)⟩
  · by_cases hed : e = d
    · exact ⟨_, _, _, (desc e).trans (if_pos hed), rfl⟩
    · obtain ⟨q, n, ks, hq, hn⟩ := (h.queues t).2 e ((there e hed t).1 he)
      exact ⟨q, n, ks, (desc e).trans ((if_neg hed).trans hq), hn⟩
  · rcases cases hq with ⟨he, hq⟩ | ⟨rfl, rfl⟩
    · simp only [there e he]
      exact h.refs e q n ks hq hn
    · cases hn
      refine ⟨List.length_pos_iff.2 wanted, congrArg List.length (List.filter_congr fun t _ => ?_)⟩
      rw [Bool.eq_iff_iff, decide_eq_true_iff, here, bne_iff_ne]
  · rcases cases hq with ⟨he, hq⟩ | ⟨rfl, rfl⟩
    · exact h.left e q n ks t hq hn ((there e he t).1 hm)
    · cases hn
      rw [getElem_perTrunk]
      have demand := (here t).1 hm
      dsimp only [State.releasedAs]
      cases hd : s.trunkDemand t r.stream with
      | none => exact absurd hd demand
      | lean => exact ⟨nofun, hn, Nat.le_refl _⟩
      | full => exact ⟨nofun, Nat.add_pos_left hn _, Nat.le_refl _⟩
  · rcases cases hq with ⟨he, hq⟩ | ⟨rfl, rfl⟩
    · exact h.away e q n ks t hq hn fun hb => hm ((there e he t).2 hb)
    · cases hn
      rw [getElem_perTrunk, Classical.not_not.1 (mt (here t).2 hm)]
      rfl
  · rw [State.trunk_releasedTo] at ha
    have before := h.plans t a e ha he
    rw [replay]
    exact List.mem_append_left _ before

/-- One chunk of a descriptor has been sent on a trunk, and more are left. -/
theorem chunk (h : s.QueueLaw) {t : TrunkId} {d : DescIx} (hd : d ∈ (s.trunk t).replay) {r : Desc} (hr : s.desc? d = some r)
    {refs : Nat} {cs : Vector Carry 8} (hs : r.state = .released refs cs) (hl : ¬ cs[t.val].remaining ≤ 1) :
    (s.putDesc d { r with state := .released refs (cs.set t.val
      { cs[t.val] with remaining := cs[t.val].remaining - 1 }) }).QueueLaw := by
  have desc (e : DescIx) := State.desc?_putDesc s d { r with state := .released refs (cs.set t.val
      { cs[t.val] with remaining := cs[t.val].remaining - 1 }) } e
  have trunk (x : TrunkId) : (s.putDesc d { r with state := .released refs (cs.set t.val
      { cs[t.val] with remaining := cs[t.val].remaining - 1 }) }).trunk x = s.trunk x := rfl
  generalize hu : s.putDesc d { r with state := .released refs (cs.set t.val
      { cs[t.val] with remaining := cs[t.val].remaining - 1 }) } = u at desc trunk ⊢
  have cases {e : DescIx} {q : Desc} (hq : u.desc? e = some q) : (e ≠ d ∧ s.desc? e = some q) ∨
      (e = d ∧ q = { r with state := .released refs (cs.set t.val
        { cs[t.val] with remaining := cs[t.val].remaining - 1 }) }) := by
    rw [desc] at hq
    split at hq
    · next he => exact .inr ⟨he, (Option.some.inj hq).symm⟩
    · next he => exact .inl ⟨he, hq⟩
  refine
    { queues := fun x => ⟨by rw [trunk]; exact (h.queues x).1, fun e he => ?_⟩
      refs := fun e q n ks hq hn => ?_
      left := fun e q n ks x hq hn hm => ?_
      away := fun e q n ks x hq hn hm => ?_
      plans := fun x a e ha he => by rw [trunk] at ha ⊢; exact h.plans x a e ha he }
  · rw [trunk] at he
    by_cases hed : e = d
    · exact ⟨_, _, _, (desc e).trans (if_pos hed), rfl⟩
    · obtain ⟨q, n, ks, hq, hn⟩ := (h.queues x).2 e he
      exact ⟨q, n, ks, (desc e).trans ((if_neg hed).trans hq), hn⟩
  · simp only [trunk]
    rcases cases hq with ⟨-, hq⟩ | ⟨rfl, rfl⟩
    · exact h.refs e q n ks hq hn
    · cases hn
      exact h.refs e r refs cs hr hs
  · rw [trunk] at hm
    rcases cases hq with ⟨-, hq⟩ | ⟨rfl, rfl⟩
    · exact h.left e q n ks x hq hn hm
    · cases hn
      have before := h.left e r refs cs x hr hs hm
      by_cases hx : t.val = x.val
      · have same : t = x := Fin.ext hx
        subst same
        rw [Vector.getElem_set_self]
        exact ⟨before.1, by dsimp only; omega, Nat.le_trans (Nat.sub_le ..) before.2.2⟩
      · rw [Vector.getElem_set_ne _ _ hx]
        exact before
  · rw [trunk] at hm
    rcases cases hq with ⟨-, hq⟩ | ⟨rfl, rfl⟩
    · exact h.away e q n ks x hq hn hm
    · cases hn
      have apart : t.val ≠ x.val := fun hx => hm ((Fin.ext hx : t = x) ▸ hd)
      rw [Vector.getElem_set_ne _ _ apart]
      exact h.away e r refs cs x hr hs hm

/-- A plan names descriptors of the queue it is made from. -/
theorem startMultiframe (h : s.QueueLaw) (t : TrunkId) : (s.startMultiframe t).QueueLaw := by
  have replay (x : TrunkId) : ((s.startMultiframe t).trunk x).replay = (s.trunk x).replay := by
    rw [State.startMultiframe, State.trunk_setTrunk]
    split
    · next e => rw [e]
    · rfl
  have desc (d : DescIx) : (s.startMultiframe t).desc? d = s.desc? d := rfl
  refine
    { queues := by simpa only [replay, desc] using h.queues
      refs := by simpa only [replay, desc] using h.refs
      left := by simpa only [replay, desc] using h.left
      away := by simpa only [replay, desc] using h.away
      plans := fun x a e ha he => ?_ }
  rw [replay]
  rw [State.startMultiframe, State.trunk_setTrunk] at ha
  split at ha
  · next hx =>
    dsimp only at ha
    split at ha
    · cases ha
      obtain ⟨y, hy, hye⟩ := List.mem_map.1 he
      cases hye
      obtain ⟨d, hd, hed⟩ := List.mem_flatMap.1 (List.mem_of_mem_take hy)
      rw [hx]
      unfold State.remainingChunks at hed
      split at hed
      · cases hed
      · obtain ⟨i, -, rfl⟩ := List.mem_map.1 hed
        exact hd
    · cases ha
  · exact h.plans x a e ha he

end State.QueueLaw
end Sys2Proof.Machine
end


section
/-! PROOF. The three laws of the replay side are kept by every step. -/
namespace Sys2Proof.Machine

/-- The three laws of the replay side while a mark event still has `ds` to release. -/
structure State.ReplayHeld (ds : List DescIx) (s : State) : Prop where
  blocks : s.BlockLaw
  releases : s.Releases ds
  queues : s.QueueLaw

theorem State.replayHeld_iff {s : State} : s.ReplayHeld [] ↔ s.ReplayLaw :=
  ⟨fun h => ⟨h.blocks, State.releases_iff.1 h.releases, h.queues⟩,
    fun h => ⟨h.blocks, State.releases_iff.2 h.release, h.queues⟩⟩

/-- The views that the laws rest on. -/
abbrev replayLawViews : List View := [.descs, .used, .release, .marks, .trunk .replay, .trunk .allocation,
  .stream .state, .stream .inUse]

/-- The state without a descriptor in its release queue. -/
def State.unheld (s : State) (d : DescIx) : State := { s with release := s.release.filter (· ≠ d) }

namespace State.ReplayHeld
variable {ds : List DescIx} {s u : State}

theorem of_touches {F : List View} (t : s.Touches F u) (ha : View.apart replayLawViews F = true) (h : s.ReplayHeld ds) :
    u.ReplayHeld ds := by
  have part {V : List View} (hV : V ⊆ replayLawViews) : View.apart V F = true :=
    (View.apart_iff _ _).2 fun v hv => (View.apart_iff _ _).1 ha v (hV hv)
  exact ⟨.of_touches t (part (View.subset_of (by decide +kernel))) h.blocks,
    .of_touches t (part (View.subset_of (by decide +kernel))) h.releases,
    .of_touches t (part (View.subset_of (by decide +kernel))) h.queues⟩

/-- What waits leaves the release queue and is freed. -/
theorem free (h : s.ReplayHeld ds) {d : DescIx} (hw : ∀ r, s.desc? d = some r → r.Waiting) :
    ((s.unheld d).freeDesc d).ReplayHeld ds := by
  have touched := (s.unheld d).freeDesc_touches (G := freeViews) d
  have desc (e : DescIx) : ((s.unheld d).freeDesc d).desc? e = if e = d then none else s.desc? e :=
    State.desc?_freeDesc (s := s.unheld d) h.blocks.descs d e
  have gone (r : Desc) : ((s.unheld d).freeDesc d).desc? d ≠ some r := by
    rw [desc, if_pos rfl]
    exact nofun
  have others (e : DescIx) (he : e ≠ d) : ((s.unheld d).freeDesc d).desc? e = s.desc? e := by rw [desc, if_neg he]
  have blocks : (s.unheld d).BlockLaw :=
    .of_touches (F := [.release]) (State.setRelease_touches s _) (by decide +kernel) h.blocks
  exact ⟨blocks.freeDesc d,
    h.releases.drop touched.release (congrArg MarkCounter.count touched.marks) others fun r hr => absurd hr (gone r),
    h.queues.beside hw (fun r hr => absurd hr (gone r)) others fun t => State.trunk_freeDesc ..⟩

theorem unheld_eq (h : s.ReplayHeld ds) {d : DescIx} (hd : ∀ r, s.desc? d = some r → r.state ≠ .held) : s.unheld d = s := by
  rw [State.unheld, h.releases.filter_eq hd]

/-- What waits leaves the release queue and is released. -/
theorem release (h : s.ReplayHeld ds) {d : DescIx} {r : Desc} (hr : s.desc? d = some r) (hw : r.Waiting) :
    ((s.unheld d).releaseDesc d).ReplayHeld ds := by
  have blocks : (s.unheld d).BlockLaw :=
    .of_touches (F := [.release]) (State.setRelease_touches s _) (by decide +kernel) h.blocks
  rw [State.releaseDesc_eq (s := s.unheld d) hr]
  split
  · have counted : (s.unwatchedOn r.stream).ReplayHeld ds := by
      refine h.of_touches (F := [.streams, .stream .unwatched]) (State.setStream_touches _ _ _ (fun v hv => ?_)
        (View.mem_of (by decide +kernel))) (by decide +kernel)
      cases v with
      | unwatched => simp at hv
      | _ => rfl
    exact counted.free fun q hq => Option.some.inj (hr.symm.trans hq) ▸ hw
  · next wanted =>
    have frame := (s.unheld d).releasedTo_frame d r
    have desc (e : DescIx) : ((s.unheld d).releasedTo d r).desc? e = if e = d then some ((s.unheld d).releasedAs r)
        else s.desc? e := (s.unheld d).desc?_releasedTo d r e
    refine ⟨?_, ?_, ?_⟩
    · have restated := blocks.restate hr ((s.unheld d).releasedAs r).state (fun hn => absurd rfl (hn _ _)) nofun
      rw [State.releasedTo]
      refine .of_touches (F := [.trunks, .trunk .replay]) (.each (fun v t => State.setReplay_touches v t _) _)
        (by decide +kernel) restated
    · refine h.releases.drop (by rw [frame]; rfl) (by rw [frame]; rfl) (fun e he => (desc e).trans (if_neg he)) fun q hq => ?_
      rw [desc, if_pos rfl] at hq
      cases hq
      exact nofun
    · have queues : (s.unheld d).QueueLaw :=
        .of_touches (F := [.release]) (State.setRelease_touches s _) (by decide +kernel) h.queues
      exact queues.releasedTo hr hw (h.blocks.sizes d r hr).2.1 wanted

/-- A descriptor leaves a replay queue that holds it. -/
theorem unlink (h : s.ReplayHeld ds) {t : TrunkId} {d : DescIx} (hd : d ∈ (s.trunk t).replay) :
    (s.unlink t d).ReplayHeld ds := by
  obtain ⟨r, refs, cs, hr, hs⟩ := (h.queues.queues t).2 d hd
  have touched := s.unlink_touches (G := unlinkViews) t d
  have desc := State.desc?_unlink h.blocks.descs hr hs t
  refine ⟨?_, ?_, h.queues.unlink h.blocks.descs hd⟩
  · have set : (s.setTrunk t ((s.trunk t).unlink d)).BlockLaw :=
      .of_touches (State.setUnlinked_touches (G := [.trunks, .trunk .replay, .trunk .allocation]) s t d)
        (by decide +kernel) h.blocks
    have restated := set.restate hr (.released (refs - 1) (cs.set t.val ⟨.none, 0⟩)) (fun hn => absurd rfl (hn _ _)) nofun
    rw [State.unlink_eq hr hs]
    split
    · exact restated.freeDesc d
    · exact restated
  · refine h.releases.beside (fun q hq => ?_) touched.release (congrArg MarkCounter.count touched.marks)
      (fun e he => (desc e).trans (if_neg he)) fun q hq => ?_
    · rw [← Option.some.inj (hr.symm.trans hq), hs]
      exact nofun
    · rw [desc, if_pos rfl] at hq
      split at hq
      · cases hq
      · cases hq
        exact nofun

theorem unlinks (h : s.ReplayHeld ds) (t : TrunkId) {es : List DescIx} (nodup : es.Nodup)
    (hes : ∀ e ∈ es, e ∈ (s.trunk t).replay) : (s.each es fun s d => s.unlink t d).ReplayHeld ds := by
  induction es generalizing s with
  | nil => exact h
  | cons e es ih =>
    obtain ⟨he, nodup⟩ := List.nodup_cons.1 nodup
    refine ih (h.unlink (hes e List.mem_cons_self)) nodup fun x hx => ?_
    rw [State.trunk_unlink, if_pos rfl]
    refine List.mem_filter.2 ⟨hes x (List.mem_cons_of_mem _ hx), decide_eq_true ?_⟩
    rintro rfl
    exact he hx

theorem flushReplay (h : s.ReplayHeld ds) (t : TrunkId) : (s.flushReplay t).ReplayHeld ds :=
  h.unlinks t (h.queues.queues t).1 fun _ he => he

theorem unlinkFrom (h : s.ReplayHeld ds) (d : DescIx) {ts : List TrunkId} (nodup : ts.Nodup)
    (hts : ∀ t ∈ ts, d ∈ (s.trunk t).replay) : (s.each ts fun s t => s.unlink t d).ReplayHeld ds := by
  induction ts generalizing s with
  | nil => exact h
  | cons t ts ih =>
    obtain ⟨ht, nodup⟩ := List.nodup_cons.1 nodup
    refine ih (h.unlink (hts t List.mem_cons_self)) nodup fun x hx => ?_
    rw [State.trunk_unlink, if_neg (show ¬ x = t by rintro rfl; exact ht hx)]
    exact hts x (List.mem_cons_of_mem _ hx)

theorem flushStale (h : s.ReplayHeld ds) (d : DescIx) : (s.flushStale d).ReplayHeld ds := by
  unfold State.flushStale
  split
  · exact h
  · next r _ =>
    have noted : (s.notify .V (.segmentStale r.stream r.sequence (s.holders d))).ReplayHeld ds :=
      h.of_touches (State.notify_touches (G := [.portV]) s .V _ (View.mem_of rfl)) (by decide +kernel)
    refine noted.unlinkFrom d (nodup_allTrunks.filter _) fun t ht => ?_
    have same : ((s.notify .V (.segmentStale r.stream r.sequence (s.holders d))).trunk t) = s.trunk t :=
      (State.notify_touches (G := [.portV]) s .V _ (View.mem_of rfl)).trunkAll t
    rw [same]
    exact List.contains_iff_mem.1 (List.mem_filter.1 ht).2

/-! ### A mark event (R157) -/

/-- A held segment is one mark nearer. -/
theorem ahead_bumpMark {s : State} {r : Desc} (hn : -1024 ≤ s.ahead r) (hf : s.ahead r < 0) :
    s.bumpMark.ahead r = s.ahead r + 1 := by
  have next : s.bumpMark.marks.count - r.mark = (s.marks.count - r.mark) + 1 := by
    change s.marks.count + 1 - r.mark = _
    bv_omega
  rw [State.ahead, next, BitVec.toInt_add]
  change Int.bmod (s.ahead r + 1) _ = _
  exact Int.bmod_eq_of_le (by omega) (by omega)

theorem bumpMark (h : s.ReplayHeld []) :
    s.bumpMark.ReplayHeld (s.bumpMark.release.filter s.bumpMark.reachedNow) := by
  have touched : s.Touches [.marks] s.bumpMark := State.setMarks_touches s _
  refine ⟨.of_touches touched (by decide +kernel) h.blocks, ?_, .of_touches touched (by decide +kernel) h.queues⟩
  have window {d : DescIx} {r : Desc} (hr : s.desc? d = some r) (hs : r.state = .held) :
      -1024 ≤ s.ahead r ∧ s.ahead r < 0 ∧ s.bumpMark.ahead r = s.ahead r + 1 := by
    obtain ⟨near, -, far⟩ := h.releases.window d r hr hs
    have far := far List.not_mem_nil
    exact ⟨near, far, ahead_bumpMark near far⟩
  have held {d : DescIx} {r : Desc} (hd : d ∈ s.release) (hr : s.desc? d = some r) : r.state = .held := by
    obtain ⟨q, hq, hs⟩ := (h.releases.held d).1 hd
    exact Option.some.inj (hr.symm.trans hq) ▸ hs
  refine ⟨h.releases.nodup, h.releases.held, fun d r hr hs => ?_, ?_⟩
  · obtain ⟨near, far, next⟩ := window hr hs
    refine ⟨by omega, by omega, fun hd => ?_⟩
    have queued : d ∈ s.bumpMark.release := (h.releases.held d).2 ⟨r, hr, hs⟩
    have early : ¬ s.bumpMark.reachedNow d = true := fun hn => hd (List.mem_filter.2 ⟨queued, hn⟩)
    unfold State.reachedNow at early
    rw [hr] at early
    exact Int.not_le.1 (mt decide_eq_true early)
  · refine h.releases.order.imp_of_mem fun {d e} hd he hord r q hr hq => ?_
    rw [(window hr (held hd hr)).2.2, (window hq (held he hq)).2.2]
    exact Int.add_le_add_right (hord r q hr hq) 1

/-- The segments whose mark is reached are released one after another. -/
theorem releaseAll (h : s.ReplayHeld ds) (nodup : ds.Nodup) (hds : ∀ d ∈ ds, d ∈ s.release) :
    (s.each ds State.releaseHeld).ReplayHeld [] := by
  induction ds generalizing s with
  | nil => exact h
  | cons d ds ih =>
    obtain ⟨hd, nodup⟩ := List.nodup_cons.1 nodup
    obtain ⟨r, hr, hs⟩ := (h.releases.held d).1 (hds d List.mem_cons_self)
    have released := h.release hr fun refs cs hn => by rw [hs] at hn; cases hn
    have queue : (s.releaseHeld d).release = s.release.filter (· ≠ d) :=
      (State.releaseDesc_touches (G := releaseViews) (s.unheld d) d).release
    have away (q : Desc) (hq : (s.releaseHeld d).desc? d = some q) : q.state ≠ .held := by
      intro hn
      have still : d ∈ (s.releaseHeld d).release := (released.releases.held d).2 ⟨q, hq, hn⟩
      rw [queue] at still
      exact of_decide_eq_true (List.mem_filter.1 still).2 rfl
    refine ih ⟨released.blocks, released.releases.done rfl away, released.queues⟩ nodup fun e he => ?_
    rw [queue]
    refine List.mem_filter.2 ⟨hds e (List.mem_cons_of_mem _ he), decide_eq_true ?_⟩
    rintro rfl
    exact hd he

theorem releaseReached (h : s.ReplayHeld []) : s.bumpMark.releaseReached.ReplayHeld [] :=
  h.bumpMark.releaseAll (h.releases.nodup.filter _) fun _ hd => (List.mem_filter.1 hd).1

theorem markEvent (h : s.ReplayHeld []) : s.markEvent.ReplayHeld [] :=
  State.each_keeps (State.ReplayHeld []) _ _ _ (fun _ d _ hs => hs.flushStale d) h.releaseReached

end State.ReplayHeld
end Sys2Proof.Machine
end


section
/-! PROOF. The withdrawal of streams (R148): lists, fan-out counts, demand, STREAM_END and STREAM_DEMAND. -/
namespace Sys2Proof.Machine

theorem State.portV_notify {s v : State} (hw : v.ports.v = s.ports.v) (hn : v.now = s.now) (n : Notice) :
    (v.notify .V n).ports.v = (s.notify .V n).ports.v := by
  have port : v.port .V = s.port .V := hw
  have before : (s.notify .V n).ports.v = _ := State.port_notify s .V n .V
  have after : (v.notify .V n).ports.v = _ := State.port_notify v .V n .V
  rw [before, after, if_pos rfl, if_pos rfl, port, hn]

/-! ### STREAM_END -/

/-- A trunk's record after a message to all its cells. -/
def Trunk.told (r : Trunk) (m : Ctl) : Trunk :=
  if r.state.serving = true then
    if r.control.length < 512 then { r with control := r.control ++ [m] }
    else { r with flags := r.flags.set .controlOverflow }
  else r

theorem State.trunk_append_told (s : State) (t : TrunkId) (m : Ctl) (t' : TrunkId) :
    (s.append t m).trunk t' = if t' = t then (s.trunk t).told m else s.trunk t' := by
  unfold State.append Trunk.told controlCapacity
  dsimp only
  split
  · split
    · exact State.trunk_setTrunk ..
    · exact State.trunk_raiseFlag ..
  · split
    · next e => rw [e]
    · rfl

/-- One message on each of several trunks. -/
theorem State.trunk_appends (m : Ctl) (ts : List TrunkId) (hts : ts.Nodup) (s : State) (t : TrunkId) :
    (s.each ts fun s t => s.append t m).trunk t = if t ∈ ts then (s.trunk t).told m else s.trunk t := by
  induction ts generalizing s with
  | nil => exact (if_neg List.not_mem_nil).symm
  | cons t' ts ih =>
    obtain ⟨ht', hts⟩ := List.nodup_cons.1 hts
    rw [State.each_cons, ih hts, State.trunk_append_told]
    by_cases h : t = t'
    · subst h
      rw [if_neg ht', if_pos rfl, if_pos List.mem_cons_self]
    · rw [if_neg h]
      simp only [List.mem_cons, h, false_or]

/-! ### One stream withdrawn -/

section
variable (s : State) (k : StreamId)

theorem State.station?_withdraw (i : StationIx) :
    (s.withdraw k).station? i = (s.station? i).map (·.dropStream k) :=
  ((s.withdraw_rest k).station? i).trans (s.station?_dropSubscribers k i)

theorem State.counts_withdraw (c : CellId) (j : StreamId) :
    (s.withdraw k).counts c j = if j = k then ⟨0, 0⟩ else s.counts c j := by
  rw [State.counts, (s.withdraw_rest k).fan]
  exact s.counts_dropSubscribers k c j

/-- The stream is withdrawn from every list and count, and nobody has been told. -/
theorem State.highestDemand_dropSubscribers : (s.dropSubscribers k).highestDemand k = .none := by
  refine ((State.highestDemand_iff _ k).2).2 ?_
  rintro ⟨t, -, pos, -, watched⟩
  rw [State.counts_dropSubscribers, if_pos rfl] at watched
  exact absurd watched (by decide)

theorem State.sectorDemand_withdraw (j : StreamId) :
    (s.withdraw k).sectorDemand j = if j = k then .none else s.sectorDemand j := by
  have told : ((s.dropSubscribers k).recompute k).Touches messageViews (s.withdraw k) :=
    .each (fun s t => State.tellAll_touches ..) _
  rw [State.sectorDemand, told.demand]
  have recomputed := State.sectorDemand_recompute (s.dropSubscribers k) k j
  rw [s.highestDemand_dropSubscribers k] at recomputed
  exact recomputed

theorem State.trunk_withdraw (t : TrunkId) : (s.withdraw k).trunk t =
    if (s.trunk t).state = .active then (s.trunk t).told ⟨none, .streamEnd k⟩ else s.trunk t := by
  have trunks : ((s.dropSubscribers k).recompute k).trunks = s.trunks :=
    (State.recompute_touches (G := [.demand, .portV]) (s.dropSubscribers k) k).trunks
  have trunk (t : TrunkId) : ((s.dropSubscribers k).recompute k).trunk t = s.trunk t := by
    rw [State.trunk, trunks]
    rfl
  have active : t ∈ ((s.dropSubscribers k).recompute k).activeTrunks ↔ (s.trunk t).state = .active := by
    rw [State.activeTrunks, List.mem_filter, trunk, beq_iff_eq]
    exact and_iff_right (mem_allTrunks t)
  refine (State.trunk_appends ⟨none, .streamEnd k⟩ _ (nodup_allTrunks.filter _) _ t).trans ?_
  exact (ite_congr_iff active (by rw [trunk]) (trunk t))

theorem State.portV_withdraw : (s.withdraw k).ports.v = (if s.sectorDemand k = .none then s
    else s.notify .V (.streamDemand k (s.sectorDemand k) .none)).ports.v := by
  have told : ((s.dropSubscribers k).recompute k).Touches messageViews (s.withdraw k) :=
    .each (fun s t => State.tellAll_touches ..) _
  rw [told.portV, State.recompute, s.highestDemand_dropSubscribers k]
  have before : (s.dropSubscribers k).sectorDemand k = s.sectorDemand k := rfl
  rw [before]
  by_cases hd : s.sectorDemand k = .none
  · rw [if_pos hd, if_pos hd.symm]
    rfl
  · rw [if_neg hd, if_neg (Ne.symm hd)]
    exact State.portV_notify (s := s) (v := (s.dropSubscribers k).setDemand k .none) rfl rfl _

end

/-! ### Several streams withdrawn one after another -/

/-- What the streams `ks` withdrawn leave of lists, counts, demand and trunks. -/
structure State.Ended (ks : List StreamId) (s u : State) : Prop where
  stations : ∀ i, u.station? i = (s.station? i).map fun r => { r with subs := r.subs.filter (· ∉ ks) }
  counts : ∀ c k, u.counts c k = if k ∈ ks then ⟨0, 0⟩ else s.counts c k
  demand : ∀ k, u.sectorDemand k = if k ∈ ks then .none else s.sectorDemand k
  away : ∀ t, (s.trunk t).state ≠ .active → u.trunk t = s.trunk t
  trunk : ∀ t, u.trunk t = { s.trunk t with control := (u.trunk t).control, flags := (u.trunk t).flags }
  ends : ∀ t, (s.trunk t).state = .active → (s.trunk t).control.length + ks.length ≤ 512 →
    u.trunk t = { s.trunk t with control := (s.trunk t).control ++ ks.map fun k => ⟨none, .streamEnd k⟩ }

namespace State.Ended
variable {s u v : State} {ks : List StreamId}

theorem refl (s : State) : State.Ended [] s s := by
  refine ⟨fun i => ?_, fun c k => rfl, fun k => rfl, fun t _ => rfl, fun t => rfl, fun t _ _ => ?_⟩
  · have same (r : Station) : { r with subs := r.subs.filter (· ∉ ([] : List StreamId)) } = r := by
      rw [List.filter_eq_self.2 fun _ _ => decide_eq_true List.not_mem_nil]
    simp only [same, Option.map_id']
  · rw [List.map_nil, List.append_nil]

theorem of_touches {F : List View} (h : State.Ended ks s u) (t : u.Touches F v)
    (hF : View.apart [.fan, .demand, .trunks, .stations] F = true := by decide +kernel) : State.Ended ks s v := by
  have apart := (View.apart_iff _ _).1 hF
  have trunk (x : TrunkId) : v.trunk x = u.trunk x := t.trunkAll x (apart _ (View.mem_of (by decide +kernel)))
  have stations : v.stations = u.stations := t.stations (apart _ (View.mem_of (by decide +kernel)))
  have fan : v.fan = u.fan := t.fan (apart _ (View.mem_of (by decide +kernel)))
  have demand : v.demand = u.demand := t.demand (apart _ (View.mem_of (by decide +kernel)))
  refine ⟨fun i => ?_, fun c k => ?_, fun k => ?_, by simpa only [trunk] using h.away, by simpa only [trunk] using h.trunk,
    by simpa only [trunk] using h.ends⟩
  · rw [State.station?, stations]
    exact h.stations i
  · rw [State.counts, fan]
    exact h.counts c k
  · rw [State.sectorDemand, demand]
    exact h.demand k

theorem withdraw (s : State) (k : StreamId) : State.Ended [k] s (s.withdraw k) := by
  have trunk := s.trunk_withdraw k
  refine ⟨fun i => ?_, fun c j => ?_, fun j => ?_, fun t ha => by rw [trunk, if_neg ha], fun t => ?_, fun t ha hl => ?_⟩
  · simp only [State.station?_withdraw, Station.dropStream, List.mem_singleton, ne_eq]
  · simp only [State.counts_withdraw, List.mem_singleton]
  · simp only [State.sectorDemand_withdraw, List.mem_singleton]
  · rw [trunk]
    unfold Trunk.told
    split
    · split
      · split <;> rfl
      · rfl
    · rfl
  · have serving : (s.trunk t).state.serving = true := by rw [ha]; rfl
    rw [trunk, if_pos ha, Trunk.told, if_pos serving, if_pos (show (s.trunk t).control.length < 512 from hl)]
    rfl

theorem cons {k : StreamId} (h : State.Ended [k] s u) (g : State.Ended ks u v) : State.Ended (k :: ks) s v := by
  have state (t : TrunkId) : (u.trunk t).state = (s.trunk t).state := by rw [h.trunk t]
  refine ⟨fun i => ?_, fun c j => ?_, fun j => ?_, fun t ha => ?_, fun t => ?_, fun t ha hl => ?_⟩
  · rw [g.stations, h.stations, Option.map_map]
    refine congrArg (fun f => (s.station? i).map f) (funext fun r => ?_)
    simp only [Function.comp_apply, List.filter_filter, List.mem_cons, List.not_mem_nil, or_false, not_or,
      Bool.decide_and, Bool.and_comm]
  · rw [g.counts, h.counts]
    by_cases hj : j ∈ ks
    · rw [if_pos hj, if_pos (List.mem_cons_of_mem _ hj)]
    · rw [if_neg hj]
      simp only [List.mem_cons, List.not_mem_nil, or_false, hj]
  · rw [g.demand, h.demand]
    by_cases hj : j ∈ ks
    · rw [if_pos hj, if_pos (List.mem_cons_of_mem _ hj)]
    · rw [if_neg hj]
      simp only [List.mem_cons, List.not_mem_nil, or_false, hj]
  · rw [g.away t (by rw [state]; exact ha), h.away t ha]
  · have second := g.trunk t
    rw [h.trunk t] at second
    exact second
  · rw [List.length_cons] at hl
    have first := h.ends t ha (by rw [List.length_singleton]; omega)
    rw [g.ends t (by rw [state]; exact ha) (by rw [first, List.length_append, List.length_map, List.length_singleton]; omega),
      first, List.append_assoc]
    rfl

/-- Streams ended one after another. -/
theorem each {f : State → StreamId → State} (hf : ∀ s k, State.Ended [k] s (f s k)) (ks : List StreamId) (s : State) :
    State.Ended ks s (s.each ks f) := by
  induction ks generalizing s with
  | nil => exact refl s
  | cons k ks ih => exact (hf s k).cons (ih (f s k))

end State.Ended
end Sys2Proof.Machine
end


section
/-! PROOF. REPLAY_CLEAR empties the replay side (R167). -/
namespace Sys2Proof.Machine

/-! ### The pool emptied -/

/-- What is left of the pool when every descriptor of the table has been freed. -/
structure State.Emptied (l : List (Nat × Desc)) (s u : State) : Prop where
  descs : u.descs.entries = []
  used : u.used = s.used.filter fun b => l.all fun e => b ∉ e.2.blocks
  stream : ∀ k, u.stream k = { s.stream k with
    inUse := (s.stream k).inUse - (l.filter fun e => e.2.stream = k).length }

theorem State.emptied_freeCores (l : List (Nat × Desc)) (s : State) (hl : s.descs.entries = l) :
    State.Emptied l s (s.each (l.map Prod.fst) State.freeCore) := by
  induction l generalizing s with
  | nil => exact ⟨hl, (List.filter_eq_self.2 fun _ _ => rfl).symm, fun k => rfl⟩
  | cons e l ih =>
    have found : s.desc? e.1 = some e.2 := by
      rw [State.desc?, Table.get?, hl, assocGet, if_pos rfl]
    have core : s.freeCore e.1 = State.setStream { s with descs := s.descs.del e.1, used := s.used.filter (· ∉ e.2.blocks) }
        e.2.stream { s.stream e.2.stream with inUse := (s.stream e.2.stream).inUse - 1 } := by
      rw [State.freeCore, found]
      rfl
    have rest : (s.freeCore e.1).descs.entries = l := by
      rw [core]
      change assocDel s.descs.entries e.1 = l
      rw [hl, assocDel, if_pos rfl]
    obtain ⟨descs, used, stream⟩ := ih (s.freeCore e.1) rest
    rw [List.map_cons, State.each_cons]
    refine ⟨descs, used.trans ?_, fun k => (stream k).trans ?_⟩
    · have first : (s.freeCore e.1).used = s.used.filter (· ∉ e.2.blocks) := by rw [core]; rfl
      rw [first, List.filter_filter]
      refine List.filter_congr fun b _ => ?_
      rw [List.all_cons, Bool.and_comm]
    · have first : (s.freeCore e.1).stream k = if k = e.2.stream then
          { s.stream e.2.stream with inUse := (s.stream e.2.stream).inUse - 1 } else s.stream k := by
        rw [core]
        exact State.stream_setStream ..
      rw [first, List.filter_cons]
      by_cases hk : k = e.2.stream
      · subst hk
        rw [if_pos rfl, if_pos (decide_eq_true rfl), List.length_cons, Nat.sub_sub, Nat.add_comm 1]
      · rw [if_neg hk, if_neg (by rw [decide_eq_true_iff]; exact Ne.symm hk)]

section
variable (s : State)

/-- The state with empty replay queues and an empty release queue. -/
def State.unqueued : State := { s.each allTrunks fun s t => s.setTrunk t (s.trunk t).clearReplay with release := [] }

theorem State.clearSegments_eq : s.clearSegments = s.unqueued.each s.unqueued.descs.keys State.freeCore := rfl

theorem State.unqueued_touches : s.Touches [.trunks, .trunk .replay, .trunk .allocation, .release] s.unqueued :=
  .trans (.each (fun s t => State.clearReplay_touches s t) s) (State.setRelease_touches _ _)

theorem State.emptied_clearSegments : State.Emptied s.descs.entries s s.clearSegments := by
  have touched := s.unqueued_touches
  have emptied := State.emptied_freeCores s.unqueued.descs.entries s.unqueued rfl
  have streams (k : StreamId) : s.unqueued.stream k = s.stream k := by rw [State.stream, touched.streams, State.stream]
  rw [touched.descs] at emptied
  rw [State.clearSegments_eq, touched.descs]
  exact ⟨emptied.descs, emptied.used.trans (by rw [touched.used]), fun k => by rw [← streams]; exact emptied.stream k⟩

theorem State.freed_clearSegments :
    s.unqueued.Touches [.descs, .used, .streams, .stream .inUse] s.clearSegments := by
  rw [State.clearSegments_eq]
  exact .each (fun v d => State.freeCore_touches v d) _

theorem State.trunk_setRelease (q : List DescIx) (t : TrunkId) : State.trunk { s with release := q } t = s.trunk t := rfl

theorem State.trunk_clearSegments (t : TrunkId) : s.clearSegments.trunk t = (s.trunk t).clearReplay := by
  rw [s.freed_clearSegments.trunkAll, State.unqueued, State.trunk_setRelease,
    State.trunk_modTrunks Trunk.clearReplay allTrunks nodup_allTrunks s t, if_pos (mem_allTrunks t)]

theorem State.release_clearSegments : s.clearSegments.release = [] := by
  exact s.freed_clearSegments.release

/-! ### The streams closed -/

theorem State.ended_withdrawClosed (k : StreamId) : State.Ended [k] s (s.withdrawClosed k) :=
  (State.Ended.withdraw s k).of_touches (State.setStreamState_touches (G := [.streams, .stream .state]) ..)

theorem State.stream_withdrawClosed (k j : StreamId) : (s.withdrawClosed k).stream j =
    if j = k then { s.stream k with state := .closed } else s.stream j := by
  have same (x : StreamId) : (s.withdraw k).stream x = s.stream x := by
    rw [State.stream, (State.withdraw_touches (G := subscriptionViews) s k).streams]
    rfl
  rw [State.withdrawClosed, State.stream_setStream, same, same]

theorem State.stream_closeDraining (k j : StreamId) : (s.closeDraining k).stream j =
    if j = k ∧ (s.stream k).state = .draining then { s.stream k with state := .closed } else s.stream j := by
  unfold State.closeDraining
  split
  · next hd =>
    rw [State.stream_setStream, ite_congr_iff (and_iff_left hd) rfl rfl]
  · next ho => rw [if_neg (by rw [ho]; exact fun h => by cases h.2)]
  · next hc => rw [if_neg (by rw [hc]; exact fun h => by cases h.2)]

end

/-- Streams closed one after another, each in its own way. -/
theorem State.stream_each (f : State → StreamId → State) (g : Stream → Stream)
    (hf : ∀ s k j, (f s k).stream j = if j = k then g (s.stream k) else s.stream j) (ks : List StreamId) (hks : ks.Nodup)
    (s : State) (j : StreamId) : (s.each ks f).stream j = if j ∈ ks then g (s.stream j) else s.stream j := by
  induction ks generalizing s with
  | nil => exact (if_neg List.not_mem_nil).symm
  | cons k ks ih =>
    obtain ⟨hk, hks⟩ := List.nodup_cons.1 hks
    rw [State.each_cons, ih hks, hf]
    by_cases h : j = k
    · subst h
      rw [if_neg hk, if_pos rfl, if_pos List.mem_cons_self]
    · rw [if_neg h]
      simp only [List.mem_cons, h, false_or]

/-- A DRAINING stream closes. -/
def Stream.undrained (r : Stream) : Stream := if r.state = .draining then { r with state := .closed } else r

theorem nodup_allStreams : allStreams.Nodup := by decide

theorem State.mem_openStreams {s : State} {k : StreamId} : k ∈ s.openStreams ↔ (s.stream k).state = .opened := by
  rw [State.openStreams, List.mem_filter, State.isOpen, beq_iff_eq]
  exact and_iff_right (mem_allStreams k)

/-- The STREAM_DEMAND of a stream withdrawn, where its demand was not NONE. -/
def State.silence (demand : StreamId → Level) (v : State) (k : StreamId) : State :=
  if demand k = .none then v else v.notify .V (.streamDemand k (demand k) .none)

theorem State.now_silence (demand : StreamId → Level) (v : State) (k : StreamId) : (v.silence demand k).now = v.now := by
  unfold State.silence
  split
  · rfl
  · exact (State.notify_touches (G := [.portV]) v .V _ (View.mem_of rfl)).now

/-- What the streams withdrawn one after another leave on Port V. -/
theorem State.portV_ended {f : State → StreamId → State} (hf : ∀ s k, State.Ended [k] s (f s k))
    (hn : ∀ s k, (f s k).now = s.now) (hv : ∀ s k, (f s k).ports.v = (s.silence s.sectorDemand k).ports.v)
    (demand : StreamId → Level) (ks : List StreamId) (hks : ks.Nodup) (s v : State) (hd : ∀ k ∈ ks, s.sectorDemand k = demand k)
    (ports : s.ports.v = v.ports.v) (now : s.now = v.now) :
    (s.each ks f).ports.v = (ks.foldl (State.silence demand) v).ports.v := by
  induction ks generalizing s v with
  | nil => exact ports
  | cons k ks ih =>
    obtain ⟨hk, hks⟩ := List.nodup_cons.1 hks
    rw [State.each_cons, List.foldl_cons]
    refine ih hks _ _ (fun j hj => ?_) ?_ ?_
    · have away : j ∉ [k] := by
        rw [List.mem_singleton]
        rintro rfl
        exact hk hj
      rw [(hf s k).demand, if_neg away]
      exact hd j (List.mem_cons_of_mem _ hj)
    · rw [hv, State.silence, State.silence, hd k List.mem_cons_self]
      split
      · exact ports
      · exact State.portV_notify ports now _
    · rw [hn, State.now_silence, now]

/-! ### REPLAY_CLEAR -/

/-- The state that REPLAY_CLEAR leaves before its answer. -/
def State.replayCleared (s : State) : State :=
  (s.clearSegments.each s.clearSegments.openStreams State.withdrawClosed).each allStreams State.closeDraining

theorem State.openStreams_clearSegments (s : State) : s.clearSegments.openStreams = s.openStreams := by
  unfold State.openStreams State.isOpen
  refine List.filter_congr fun k _ => ?_
  rw [s.emptied_clearSegments.stream k]

theorem State.closed_replayCleared (s : State) : (State.clearSegments s |>.each s.openStreams State.withdrawClosed).Touches
    [.streams, .stream .state] s.replayCleared := by
  unfold State.replayCleared
  rw [s.openStreams_clearSegments]
  exact .each (fun v k => State.closeDraining_touches v k) _

theorem State.ended_replayCleared (s : State) : State.Ended s.openStreams s.clearSegments s.replayCleared :=
  (State.Ended.each State.ended_withdrawClosed s.openStreams s.clearSegments).of_touches s.closed_replayCleared

theorem State.stream_replayCleared (s : State) (k : StreamId) : s.replayCleared.stream k =
    { s.clearSegments.stream k with state := .closed } := by
  have withdrawn := State.stream_each State.withdrawClosed (fun r => { r with state := .closed })
    (fun v k j => v.stream_withdrawClosed k j) s.clearSegments.openStreams (nodup_allStreams.filter _) s.clearSegments k
  have closed := State.stream_each State.closeDraining Stream.undrained (fun v k j => by
    rw [State.stream_closeDraining, Stream.undrained]
    by_cases h : j = k
    · subst h
      by_cases hd : (v.stream j).state = .draining
      · rw [if_pos ⟨rfl, hd⟩, if_pos rfl, if_pos hd]
      · rw [if_neg fun h => hd h.2, if_pos rfl, if_neg hd]
    · rw [if_neg fun g => h g.1, if_neg h]) allStreams nodup_allStreams
    (s.clearSegments.each s.clearSegments.openStreams State.withdrawClosed) k
  rw [State.replayCleared, closed, if_pos (mem_allStreams k), withdrawn, Stream.undrained]
  simp only [State.mem_openStreams]
  cases hs : (s.clearSegments.stream k).state with
  | opened => simp
  | draining => simp [hs]
  | closed => simp [hs]; rw [← hs]

/-- What the withdrawals and closings leave of the emptied pool. -/
theorem State.withdrawn_replayCleared (s : State) :
    s.clearSegments.Touches ([.streams, .stream .state] ++ subscriptionViews) s.replayCleared := by
  refine .trans ?_ (s.closed_replayCleared.mono (View.subset_of (by decide +kernel)))
  exact .each (fun v k => State.withdrawClosed_touches v k) _

/-- Under the law of the blocks nothing is used and counted after REPLAY_CLEAR. -/
theorem State.BlockLaw.emptied {s u : State} (h : s.BlockLaw) (e : State.Emptied s.descs.entries s u) :
    u.used = [] ∧ ∀ k, (u.stream k).inUse = 0 := by
  refine ⟨?_, fun k => ?_⟩
  · rw [e.used, List.filter_eq_nil_iff]
    intro b hb hn
    obtain ⟨d, r, hr, hbr⟩ := (h.whole b).1 hb
    have listed : (d, r) ∈ s.descs.entries := (mem_entries_iff _ h.descs d r).2 hr
    exact of_decide_eq_true (List.all_eq_true.1 hn _ listed) hbr
  · rw [e.stream]
    exact Nat.sub_eq_zero_of_le (Nat.le_of_eq (h.counted k))

theorem State.portV_replayCleared (s : State) :
    s.replayCleared.ports.v = (s.openStreams.foldl (State.silence s.sectorDemand) s).ports.v := by
  have cleared := s.clearSegments_touches (G := .release :: unlinkViews)
  have demand (k : StreamId) : s.clearSegments.sectorDemand k = s.sectorDemand k := by
    rw [State.sectorDemand, cleared.demand]
    rfl
  have port : s.clearSegments.ports.v = s.ports.v := s.freed_clearSegments.portV.trans s.unqueued_touches.portV
  have now : s.clearSegments.now = s.now := cleared.now
  rw [s.closed_replayCleared.portV]
  generalize s.clearSegments = v at demand port now ⊢
  exact State.portV_ended State.ended_withdrawClosed
    (fun v k => (State.withdrawClosed_touches (G := [.streams, .stream .state] ++ subscriptionViews) v k).now)
    (fun v k => v.portV_withdraw k) s.sectorDemand s.openStreams (nodup_allStreams.filter _) _ _ (fun k _ => demand k) port
    now

/-- Settles O53: the pool is emptied by its table, the OPEN streams are withdrawn ascending, and every stream closes. -/
theorem replayClearEmpties : Obligations.ReplayClearEmpties := by
  intro p m s h opens
  obtain rfl : p = .V := beq_iff_eq.1 h.permitted
  have hopens : s.openStreams = opens :=
    List.filter_congr fun k _ => by rw [State.isOpen, Bool.eq_iff_iff, beq_iff_eq, decide_eq_true_iff]
  have run : exec (.replayClear .V) s = .next (s.replayCleared.answered .V m .ok [.u16 s.descs.entries.length]) :=
    exec_ok h (rfl : Command.rule .replayClear m.body s = ⟨s.replayCleared, .ok, _⟩)
  have emptied := s.emptied_clearSegments
  have ended := s.ended_replayCleared
  have rest := s.withdrawn_replayCleared
  have cleared := s.clearSegments_touches (G := .release :: unlinkViews)
  have stream := s.stream_replayCleared
  have trunk := s.trunk_clearSegments
  have unreleased := s.release_clearSegments
  have port := s.portV_replayCleared
  rw [hopens] at ended port
  generalize s.replayCleared = v at run ended rest stream port
  generalize s.clearSegments = w at emptied ended rest cleared stream trunk unreleased
  have stations (i : StationIx) : w.station? i = s.station? i := cleared.station? i
  have answered (k : StreamId) : (v.answered .V m .ok [.u16 s.descs.entries.length]).stream k =
      { s.stream k with state := .closed, inUse := (w.stream k).inUse } := by
    refine (stream k).trans ?_
    rw [emptied.stream]
  refine ⟨_, (v.port .V).ready, run, ?_, (congrArg Table.entries rest.descs).trans emptied.descs,
    rest.release.trans unreleased, fun b hb => ?_, fun law => ?_, fun t => ?_, fun t a ha e he => ?_,
    fun t => ⟨?_, fun ha => ?_, fun ha hl => ?_⟩, ?_, fun k => ?_, fun k hk => ⟨fun c => ?_, ?_, fun i r hr => ?_⟩,
    fun i => ?_, ?_⟩
  · have same : (v.port .V).responses = (s.port .V).responses := by
      have bare : (v.port .V).bare = (s.port .V).bare := (rest.bare .V).trans (cleared.bare .V)
      change (v.port .V).bare.responses = (s.port .V).bare.responses
      rw [bare]
    exact congrArg (· ++ _) same
  · have kept : b ∈ w.used := rest.used ▸ hb
    rw [emptied.used, List.mem_filter] at kept
    exact ⟨kept.1, fun e he => of_decide_eq_true (List.all_eq_true.1 kept.2 e he)⟩
  · obtain ⟨used, inUse⟩ := law.emptied emptied
    exact ⟨rest.used.trans used, fun k => by rw [answered]; exact inUse k⟩
  · change (v.trunk t).replay = []
    rw [ended.trunk t, trunk]
    rfl
  · change (v.trunk t).allocation = some a at ha
    rw [ended.trunk t, trunk] at ha
    obtain ⟨b, -, rfl⟩ := Option.map_eq_some_iff.1 ha
    obtain ⟨x, -, rfl⟩ := List.mem_map.1 he
    rfl
  · have allocation : (v.trunk t).allocation = (s.trunk t).clearReplay.allocation := by rw [ended.trunk t, trunk]
    change v.trunk t = { s.trunk t with
      replay := [], allocation := (v.trunk t).allocation, control := (v.trunk t).control, flags := (v.trunk t).flags }
    rw [allocation]
    exact (ended.trunk t).trans (by rw [trunk]; rfl)
  · change (v.trunk t).control = _
    rw [ended.away t (by rw [trunk]; exact ha), trunk]
    rfl
  · change (v.trunk t).control = _
    rw [ended.ends t (by rw [trunk]; exact ha) (by rw [trunk]; rw [List.length_map] at hl; exact hl), trunk]
    rfl
  · exact congrArg (fun q : Port => ({ q with
      waiting := q.waiting.tail
      responses := q.responses ++ [⟨m.code, m.tag, .ok, [.u16 s.descs.entries.length], q.ready⟩]
      ready := q.ready + 1 } : Port)) port
  · rw [answered]
  · have open_ : k ∈ opens := hopens ▸ State.mem_openStreams.2 hk
    exact (ended.counts c k).trans (if_pos open_)
  · have open_ : k ∈ opens := hopens ▸ State.mem_openStreams.2 hk
    exact (ended.demand k).trans (if_pos open_)
  · have open_ : k ∈ opens := hopens ▸ State.mem_openStreams.2 hk
    obtain ⟨q, -, rfl⟩ := Option.map_eq_some_iff.1 ((ended.stations i).symm.trans hr)
    exact fun hm => of_decide_eq_true (List.mem_filter.1 hm).2 open_
  · refine (ended.stations i).trans ?_
    rw [stations]
    refine congrArg (fun f => (s.station? i).map f) (funext fun r => ?_)
    have same : (r.subs.filter fun k => k ∉ opens) = r.subs.filter fun k => (s.stream k).state ≠ .opened := by
      refine List.filter_congr fun k _ => ?_
      rw [decide_eq_decide, ← hopens, State.mem_openStreams]
    rw [same]
  · have answer := State.answered_touches (G := portViews) v .V m .ok [.u16 s.descs.entries.length]
    have all := (cleared.mono (View.subset_of (by decide +kernel)) : s.Touches (portViews ++ (.release :: unlinkViews) ++
      ([.streams, .stream .state] ++ subscriptionViews)) w)
    exact ((all.trans (rest.mono (View.subset_of (by decide +kernel)))).trans
      (answer.mono (View.subset_of (by decide +kernel)))).eq_frame.trans rfl

end Sys2Proof.Machine
end


section
/-! PROOF. Streams closed and uploads ended under the laws of the replay side, and every row. -/
namespace Sys2Proof.Machine

/-! ### Uploads (R160) -/

theorem findUpload_none {l : List (Nat × Desc)} {k : StreamId} (h : findUpload l k = none) :
    ∀ e ∈ l, ∀ n, e.2.state = .uploading n → e.2.stream ≠ k := by
  induction l with
  | nil => exact fun _ he => absurd he List.not_mem_nil
  | cons e l ih =>
    intro x hx n hn
    unfold findUpload at h
    rcases List.mem_cons.1 hx with rfl | hx
    · rw [hn] at h
      dsimp only at h
      split at h
      · cases h
      · next away => exact away
    · split at h
      · split at h
        · cases h
        · exact ih h x hx n hn
      · exact ih h x hx n hn
      · exact ih h x hx n hn

section
variable {s : State} {k : StreamId}

theorem State.upload?_some (hwf : s.descs.wf = true) {d : DescIx} {r : Desc} {n : Nat} (h : s.upload? k = some (d, r, n)) :
    s.desc? d = some r ∧ r.stream = k ∧ r.state = .uploading n := by
  obtain ⟨listed, stream, state⟩ := findUpload_some h
  exact ⟨(mem_entries_iff _ hwf d r).1 listed, stream, state⟩

theorem State.upload?_none (hwf : s.descs.wf = true) (h : s.upload? k = none) {d : DescIx} {r : Desc} {n : Nat}
    (hr : s.desc? d = some r) (hn : r.state = .uploading n) : r.stream ≠ k :=
  findUpload_none h (d, r) ((mem_entries_iff _ hwf d r).2 hr) n hn

theorem Desc.waiting_upload {r : Desc} {n : Nat} (h : r.state = .uploading n) : r.Waiting := by
  intro refs cs hs
  rw [h] at hs
  cases hs

theorem Desc.waiting_held {r : Desc} (h : r.state = .held) : r.Waiting := by
  intro refs cs hs
  rw [h] at hs
  cases hs

theorem Desc.waiting_iff {r : Desc} : r.Waiting ↔ r.state = .held ∨ ∃ n, r.state = .uploading n := by
  constructor
  · intro h
    cases hs : r.state with
    | held => exact .inl rfl
    | uploading n => exact .inr ⟨n, rfl⟩
    | released refs cs => exact absurd hs (h refs cs)
  · rintro (h | ⟨n, h⟩)
    · exact Desc.waiting_held h
    · exact Desc.waiting_upload h

/-! ### Held segments freed (R165) -/

/-- Several descriptors taken out of the release queue and freed. -/
def State.freeAll (s : State) (ds : List DescIx) : State := s.each ds fun s d => (s.unheld d).freeDesc d

theorem State.freeHeld_eq (s : State) (k : StreamId) : s.freeHeld k = s.freeAll (s.heldOf k) := rfl

theorem State.freeAll_cons (s : State) (d : DescIx) (ds : List DescIx) :
    s.freeAll (d :: ds) = ((s.unheld d).freeDesc d).freeAll ds := rfl

theorem State.freeAll_touches (s : State) (ds : List DescIx) : s.Touches (.release :: freeViews) (s.freeAll ds) :=
  .each (fun s d => .trans (State.setRelease_touches s _) (State.freeDesc_touches ..)) s

theorem State.desc?_freeAll (ds : List DescIx) (s : State) (hwf : s.descs.wf = true) (e : DescIx) :
    (s.freeAll ds).desc? e = if e ∈ ds then none else s.desc? e := by
  induction ds generalizing s with
  | nil => exact (if_neg List.not_mem_nil).symm
  | cons d ds ih =>
    have first : ((s.unheld d).freeDesc d).desc? e = if e = d then none else s.desc? e :=
      State.desc?_freeDesc (s := s.unheld d) hwf d e
    have canon := ((s.unheld d).freeDesc_touches (G := freeViews) d).canon .descs hwf
    rw [State.freeAll_cons, ih _ canon, first]
    by_cases he : e = d
    · subst he
      rw [if_pos rfl, ite_self, if_pos List.mem_cons_self]
    · rw [if_neg he]
      simp only [List.mem_cons, he, false_or]

theorem State.release_freeAll (ds : List DescIx) (s : State) : (s.freeAll ds).release = s.release.filter (· ∉ ds) := by
  induction ds generalizing s with
  | nil => exact (List.filter_eq_self.2 fun _ _ => decide_eq_true List.not_mem_nil).symm
  | cons d ds ih =>
    have first : ((s.unheld d).freeDesc d).release = s.release.filter (· ≠ d) :=
      ((s.unheld d).freeDesc_touches (G := freeViews) d).release
    rw [State.freeAll_cons, ih, first, List.filter_filter]
    refine List.filter_congr fun e _ => ?_
    simp only [List.mem_cons, not_or, Bool.decide_and, ne_eq, Bool.and_comm]

/-! ### The end of a drain -/

/-- A stream's record when its drain has started, and ended where nothing is left. -/
def Stream.drained (r : Stream) : Stream := { r with state := if r.inUse = 0 then .closed else .draining }

theorem State.startDrain_eq (s : State) (k : StreamId) : s.startDrain k =
    if (s.stream k).inUse = 0 then (s.setStream k (s.stream k).drained).notify .V (.streamDrained k)
    else s.setStream k (s.stream k).drained := by
  unfold State.startDrain State.endDrain Stream.drained
  rw [State.stream_setStream, if_pos rfl]
  dsimp only
  by_cases hi : (s.stream k).inUse = 0
  · rw [if_pos ⟨rfl, hi⟩, if_pos hi, if_pos hi, State.setStream_setStream]
  · rw [if_neg fun h => hi h.2, if_neg hi, if_neg hi]

end

namespace State.ReplayHeld
variable {ds : List DescIx} {s : State}

theorem freeWaiting (h : s.ReplayHeld ds) {d : DescIx} {r : Desc} (hr : s.desc? d = some r) (hw : r.Waiting)
    (hh : r.state ≠ .held) : (s.freeDesc d).ReplayHeld ds := by
  have freed := h.free fun q hq => Option.some.inj (hr.symm.trans hq) ▸ hw
  rw [h.unheld_eq fun q hq => Option.some.inj (hr.symm.trans hq) ▸ hh] at freed
  exact freed

theorem freeUpload (h : s.ReplayHeld ds) (k : StreamId) : (s.freeUpload k).ReplayHeld ds := by
  unfold State.freeUpload
  split
  · next d r n hu =>
    obtain ⟨hr, -, hs⟩ := State.upload?_some h.blocks.descs hu
    exact h.freeWaiting hr (Desc.waiting_upload hs) (by rw [hs]; exact nofun)
  · exact h

theorem freeAll (h : s.ReplayHeld ds) {es : List DescIx} (nodup : es.Nodup) (hes : ∀ e ∈ es, e ∈ s.release) :
    (s.freeAll es).ReplayHeld ds := by
  induction es generalizing s with
  | nil => exact h
  | cons e es ih =>
    obtain ⟨he, nodup⟩ := List.nodup_cons.1 nodup
    obtain ⟨r, hr, hs⟩ := (h.releases.held e).1 (hes e List.mem_cons_self)
    have freed := h.free fun q hq => Option.some.inj (hr.symm.trans hq) ▸ Desc.waiting_held hs
    have queue : ((s.unheld e).freeDesc e).release = s.release.filter (· ≠ e) :=
      ((s.unheld e).freeDesc_touches (G := freeViews) e).release
    refine ih freed nodup fun x hx => ?_
    rw [queue]
    refine List.mem_filter.2 ⟨hes x (List.mem_cons_of_mem _ hx), decide_eq_true ?_⟩
    rintro rfl
    exact he hx

/-- Nothing of a stream waits when its upload and its held segments have been freed. -/
theorem closing (h : s.ReplayHeld ds) (k : StreamId) : ((s.freeUpload k).freeHeld k).ReplayHeld ds
    ∧ ∀ d r, ((s.freeUpload k).freeHeld k).desc? d = some r → r.stream = k → ¬ r.Waiting := by
  have freed := h.freeUpload k
  have quiet {d : DescIx} {r : Desc} {n : Nat} (hr : (s.freeUpload k).desc? d = some r) (hn : r.state = .uploading n) :
      r.stream ≠ k := by
    unfold State.freeUpload at hr
    split at hr
    · next e q m hu =>
      obtain ⟨hq, stream, hs⟩ := State.upload?_some h.blocks.descs hu
      rw [State.desc?_freeDesc h.blocks.descs] at hr
      split at hr
      · cases hr
      · next hne =>
        intro hk
        exact hne (h.blocks.upload d e r q n m hr hq hn hs (hk.trans stream.symm))
    · next hu => exact State.upload?_none h.blocks.descs hu hr hn
  generalize s.freeUpload k = v at freed quiet ⊢
  rw [State.freeHeld_eq]
  refine ⟨freed.freeAll (freed.releases.nodup.filter _) fun e he => (List.mem_filter.1 he).1, fun d r hr hk hw => ?_⟩
  rw [State.desc?_freeAll _ _ freed.blocks.descs] at hr
  split at hr
  · cases hr
  · next hd =>
    rcases Desc.waiting_iff.1 hw with hs | ⟨n, hs⟩
    · refine hd (List.mem_filter.2 ⟨(freed.releases.held d).2 ⟨r, hr, hs⟩, ?_⟩)
      unfold State.ofStream
      rw [hr]
      exact beq_iff_eq.2 hk
    · exact quiet hr hs hk

theorem setStream (h : s.ReplayHeld ds) {k : StreamId} {q : Stream} (hb : (s.setStream k q).BlockLaw) :
    (s.setStream k q).ReplayHeld ds :=
  ⟨hb, ⟨h.releases.nodup, h.releases.held, h.releases.window, h.releases.order⟩,
    ⟨h.queues.queues, h.queues.refs, h.queues.left, h.queues.away, h.queues.plans⟩⟩

theorem startDrain (h : s.ReplayHeld ds) (k : StreamId) (hk : ∀ d r, s.desc? d = some r → r.stream = k → ¬ r.Waiting) :
    (s.startDrain k).ReplayHeld ds := by
  have drained : (s.setStream k (s.stream k).drained).ReplayHeld ds := by
    refine h.setStream (h.blocks.setStream k rfl (fun hc => ?_) (fun hd => ?_) fun _ => hk)
    · unfold Stream.drained at hc
      dsimp only at hc
      split at hc
      · assumption
      · cases hc
    · unfold Stream.drained at hd
      dsimp only at hd
      split at hd
      · cases hd
      · next hn => exact Nat.pos_of_ne_zero hn
  rw [State.startDrain_eq]
  split
  · exact drained.of_touches (State.notify_touches (G := [.portV]) _ .V _ (View.mem_of rfl)) (by decide +kernel)
  · exact drained

theorem closeStream (h : s.ReplayHeld ds) (k : StreamId) : (s.closeStream k).ReplayHeld ds := by
  have withdrawn : (s.withdraw k).ReplayHeld ds :=
    h.of_touches (State.withdraw_touches (G := subscriptionViews) s k) (by decide +kernel)
  obtain ⟨closed, quiet⟩ := withdrawn.closing k
  exact closed.startDrain k quiet

/-! ### REPLAY_CLEAR -/

/-- With an empty pool and closed streams nothing is left to keep. -/
theorem replayClear (h : s.ReplayHeld []) : s.replayCleared.ReplayHeld [] := by
  have rest := s.withdrawn_replayCleared
  have emptied := s.emptied_clearSegments
  obtain ⟨used, inUse⟩ := h.blocks.emptied emptied
  have entries : s.replayCleared.descs.entries = [] := (congrArg Table.entries rest.descs).trans emptied.descs
  have stream (k : StreamId) : (s.replayCleared.stream k).inUse = 0 ∧ (s.replayCleared.stream k).state = .closed := by
    rw [s.stream_replayCleared]
    exact ⟨inUse k, rfl⟩
  have desc (d : DescIx) : s.replayCleared.desc? d = none := by
    rw [State.desc?, Table.get?, entries]
    rfl
  have absent {d : DescIx} {r : Desc} : ¬ s.replayCleared.desc? d = some r := by
    rw [desc]
    exact nofun
  have release : s.replayCleared.release = [] := rest.release.trans s.release_clearSegments
  have blocks : s.replayCleared.used = [] := rest.used.trans used
  have replay (t : TrunkId) : (s.replayCleared.trunk t).replay = [] := by
    rw [(s.ended_replayCleared).trunk t, s.trunk_clearSegments]
    rfl
  have plan (t : TrunkId) (a : Allocation) (ha : (s.replayCleared.trunk t).allocation = some a) : ∀ e ∈ a.plan, e = none := by
    intro e he
    rw [(s.ended_replayCleared).trunk t, s.trunk_clearSegments] at ha
    obtain ⟨b, -, rfl⟩ := Option.map_eq_some_iff.1 ha
    obtain ⟨x, -, rfl⟩ := List.mem_map.1 he
    rfl
  generalize s.replayCleared = u at entries stream desc absent release blocks replay plan
  refine ⟨?_, ?_, ?_⟩
  · exact
      { descs := by rw [Table.wf, entries]; rfl
        used := by rw [blocks]; exact .nil
        sizes := fun d r hr => absurd hr absent
        disjoint := fun d e r q hr => absurd hr absent
        whole := fun b => by
          rw [blocks]
          exact iff_of_false List.not_mem_nil fun ⟨d, r, hr, _⟩ => absent hr
        counted := fun k => by rw [(stream k).1, entries]; rfl
        closed := fun k _ => (stream k).1
        draining := fun k hk => by rw [(stream k).2] at hk; cases hk
        opened := fun d r hr => absurd hr absent
        upload := fun d e r q n m hr => absurd hr absent }
  · exact ⟨by rw [release]; exact .nil,
      fun d => by
        rw [release]
        exact iff_of_false List.not_mem_nil fun ⟨r, hr, _⟩ => absent hr,
      fun d r hr => absurd hr absent, by rw [release]; exact .nil⟩
  · exact
      { queues := fun t => by rw [replay]; exact ⟨.nil, nofun⟩
        refs := fun d r n cs hr => absurd hr absent
        left := fun d r n cs t hr => absurd hr absent
        away := fun d r n cs t hr => absurd hr absent
        plans := fun t a e ha he => nomatch plan t a ha _ he }

end State.ReplayHeld
end Sys2Proof.Machine
end


section
/-! PROOF. The rows keep the laws of the replay side. -/
namespace Sys2Proof.Machine

namespace State.ReplayHeld
variable {ds : List DescIx} {s : State}

/-! ### Trunks and frames -/

theorem bare (h : s.ReplayHeld ds) {t : TrunkId} {r : Trunk} (hr : r.replay = (s.trunk t).replay) (ha : r.allocation = none) :
    (s.setTrunk t r).ReplayHeld ds :=
  ⟨{ h.blocks with whole := h.blocks.whole }, ⟨h.releases.nodup, h.releases.held, h.releases.window, h.releases.order⟩,
    h.queues.bare hr ha⟩

/-- The last chunk of a descriptor leaves the queue whatever count stood there. -/
theorem unlink_putCarry {t : TrunkId} {d : DescIx} {r : Desc} (hr : s.desc? d = some r) {refs : Nat} {cs : Vector Carry 8}
    (hs : r.state = .released refs cs) (x : Carry) :
    (s.putDesc d { r with state := .released refs (cs.set t.val x) }).unlink t d = s.unlink t d := by
  have put (a b : Desc) : (s.putDesc d a |>.setTrunk t ((s.trunk t).unlink d)).putDesc d b =
      (s.setTrunk t ((s.trunk t).unlink d)).putDesc d b := by
    unfold State.putDesc State.setTrunk
    dsimp only
    rw [Table.put_put]
  have found : (s.putDesc d { r with state := .released refs (cs.set t.val x) }).desc? d =
      some { r with state := .released refs (cs.set t.val x) } := by rw [State.desc?_putDesc, if_pos rfl]
  rw [State.unlink_eq hr hs, State.unlink_eq found rfl]
  have trunk : (s.putDesc d { r with state := .released refs (cs.set t.val x) }).trunk t = s.trunk t := rfl
  rw [trunk]
  simp only [put, Vector.set_set]

theorem sendChunk (h : s.ReplayHeld []) {t : TrunkId} {a : Allocation} {e : PlanEntry} (ha : (s.trunk t).allocation = some a)
    (he : some e ∈ a.plan) : (s.sendChunk t e).1.ReplayHeld [] := by
  have queued := h.queues.plans t a e ha he
  obtain ⟨r, refs, cs, hr, hs⟩ := (h.queues.queues t).2 e.desc queued
  unfold State.sendChunk
  rw [hr]
  dsimp only
  rw [hs]
  dsimp only
  split
  · rw [unlink_putCarry hr hs]
    exact h.unlink queued
  · next more =>
    have blocks := h.blocks.restate hr (.released refs (cs.set t.val { cs[t.val] with remaining := cs[t.val].remaining - 1 }))
      (fun hn => absurd rfl (hn _ _)) nofun
    refine ⟨blocks, h.releases.beside (d := e.desc) (fun q hq => ?_) rfl rfl (fun x hx => ?_) (fun q hq => ?_),
      h.queues.chunk queued hr hs more⟩
    · rw [← Option.some.inj (hr.symm.trans hq), hs]
      exact nofun
    · rw [State.desc?_putDesc, if_neg hx]
    · rw [State.desc?_putDesc, if_pos rfl] at hq
      cases hq
      exact nofun

theorem startMultiframe (h : s.ReplayHeld ds) (t : TrunkId) : (s.startMultiframe t).ReplayHeld ds :=
  ⟨{ h.blocks with whole := h.blocks.whole }, ⟨h.releases.nodup, h.releases.held, h.releases.window, h.releases.order⟩,
    h.queues.startMultiframe t⟩

/-! ### Uploads (R160 to R163) -/

/-- A descriptor that waits is not released, and its release queue place does not change. -/
theorem upload (h : s.ReplayHeld ds) {d : DescIx} {r : Desc} (hr : s.desc? d = some r) {n : Nat}
    (hs : r.state = .uploading n) (m : Nat) : (s.putDesc d { r with state := .uploading m }).ReplayHeld ds := by
  have desc (e : DescIx) := State.desc?_putDesc s d { r with state := .uploading m } e
  have after (q : Desc) (hq : (s.putDesc d { r with state := .uploading m }).desc? d = some q) : q.state = .uploading m := by
    rw [desc, if_pos rfl] at hq
    cases hq
    rfl
  have others (e : DescIx) (he : e ≠ d) := (desc e).trans (if_neg he)
  refine ⟨h.blocks.restate hr _ (fun _ => Desc.waiting_upload hs) (fun _ _ => ⟨n, hs⟩),
    h.releases.beside (d := d) (fun q hq => ?_) rfl rfl others (fun q hq => ?_),
    h.queues.beside (d := d) (fun q hq => ?_) (fun q hq => Desc.waiting_upload (after q hq)) others fun _ => rfl⟩
  · rw [← Option.some.inj (hr.symm.trans hq), hs]
    exact nofun
  · rw [after q hq]
    exact nofun
  · rw [← Option.some.inj (hr.symm.trans hq)]
    exact Desc.waiting_upload hs

theorem beginUpload (h : s.ReplayHeld ds) {k : StreamId} (hk : (s.stream k).state = .opened) (hu : s.upload? k = none)
    (q : Seq) (m : Mark) {nL nX : Nat} (hn : 0 < nL) (hd : s.descs.entries.length < 256)
    (hb : s.used.length + (nL + nX) ≤ 16384) :
    (s.beginUpload (firstFree 0 s.descs.keys) k q m nL nX (s.lowestBlocks (nL + nX))).ReplayHeld ds := by
  have free : s.desc? (firstFree 0 s.descs.keys) = none := s.descs.get?_firstFree h.blocks.descs
  have blocks := h.blocks.beginUpload hk (fun d r n hr hs => State.upload?_none h.blocks.descs hu hr hs) q m hn hd hb
  generalize firstFree 0 s.descs.keys = d at free blocks ⊢
  generalize s.lowestBlocks (nL + nX) = bs at blocks ⊢
  have desc (e : DescIx) : (s.beginUpload d k q m nL nX bs).desc? e =
      if e = d then some ⟨.uploading 0, k, q, m, nL, nX, bs⟩ else s.desc? e := State.desc?_putDesc ..
  have absent {r : Desc} : ¬ s.desc? d = some r := by
    rw [free]
    exact nofun
  have after (x : Desc) (hx : (s.beginUpload d k q m nL nX bs).desc? d = some x) : x.state = .uploading 0 := by
    rw [desc, if_pos rfl] at hx
    cases hx
    rfl
  have others (e : DescIx) (he : e ≠ d) := (desc e).trans (if_neg he)
  refine ⟨blocks, h.releases.beside (fun r hr => absurd hr absent) rfl rfl others fun x hx => ?_,
    h.queues.beside (fun r hr => absurd hr absent) (fun x hx => Desc.waiting_upload (after x hx)) others fun _ => rfl⟩
  rw [after x hx]
  exact nofun

/-! ### Holding (R158) -/

theorem insertHeld_split (s : State) (dist : Int) (d : DescIx) (q : List DescIx) : ∃ before after, q = before ++ after
    ∧ s.insertHeld dist d q = before ++ d :: after
    ∧ (∀ e r, e ∈ before → s.desc? e = some r → dist ≤ s.distance r)
    ∧ ∀ e r, after.head? = some e → s.desc? e = some r → s.distance r < dist := by
  induction q with
  | nil => exact ⟨[], [], rfl, rfl, nofun, nofun⟩
  | cons e q ih =>
    obtain ⟨before, after, hq, hi, near, far⟩ := ih
    have step (hd : ∀ r, s.desc? e = some r → dist ≤ s.distance r)
        (hs : s.insertHeld dist d (e :: q) = e :: s.insertHeld dist d q) : ∃ before after, e :: q = before ++ after
          ∧ s.insertHeld dist d (e :: q) = before ++ d :: after
          ∧ (∀ e r, e ∈ before → s.desc? e = some r → dist ≤ s.distance r)
          ∧ ∀ e r, after.head? = some e → s.desc? e = some r → s.distance r < dist := by
      refine ⟨e :: before, after, by rw [hq]; rfl, by rw [hs, hi]; rfl, fun x r hx hr => ?_, far⟩
      rcases List.mem_cons.1 hx with rfl | hx
      · exact hd r hr
      · exact near x r hx hr
    cases hr : s.desc? e with
    | none =>
      refine step (fun r hn => by rw [hr] at hn; cases hn) ?_
      rw [State.insertHeld, hr]
    | some r =>
      by_cases hd : s.distance r < dist
      · refine ⟨[], e :: q, rfl, ?_, nofun, fun x p hx hp => ?_⟩
        · rw [State.insertHeld, hr]
          exact if_pos hd
        · cases hx
          exact Option.some.inj (hr.symm.trans hp) ▸ hd
      · refine step (fun p hp => Option.some.inj (hr.symm.trans hp) ▸ Int.not_lt.1 hd) ?_
        rw [State.insertHeld, hr]
        exact if_neg hd

/-- An upload ended ahead of its mark is HELD. -/
theorem hold (h : s.ReplayHeld []) {d : DescIx} {r : Desc} (hr : s.desc? d = some r) {n : Nat} (hs : r.state = .uploading n)
    (near : -1024 ≤ s.ahead r) (far : s.ahead r < 0) : (s.hold d r).ReplayHeld [] := by
  obtain ⟨before, after, split, inserted, nearer, farther⟩ :=
    insertHeld_split (s.putDesc d { r with state := .held }) (s.distance r) d s.release
  have queue : (s.hold d r).release = before ++ d :: after := inserted
  have desc (e : DescIx) : (s.hold d r).desc? e = if e = d then some { r with state := .held } else s.desc? e :=
    State.desc?_putDesc ..
  have others (e : DescIx) (he : e ≠ d) := (desc e).trans (if_neg he)
  have ahead (q : Desc) : (s.hold d r).ahead q = s.ahead q := rfl
  have absent : d ∉ s.release := by
    intro hd
    obtain ⟨q, hq, hh⟩ := (h.releases.held d).1 hd
    rw [← Option.some.inj (hr.symm.trans hq), hs] at hh
    cases hh
  have apart {e : DescIx} (he : e ∈ s.release) : e ≠ d := by
    rintro rfl
    exact absent he
  have restated := h.blocks.restate hr .held (fun _ => Desc.waiting_upload hs) nofun
  have blocks : (s.hold d r).BlockLaw :=
    .of_touches (F := [.release]) (State.setRelease_touches _ _) (by decide +kernel) restated
  have ordered : ∀ e ∈ after, ∀ q, s.desc? e = some q → s.ahead q ≤ s.ahead r := by
    have order := h.releases.order
    rw [split] at order
    have tail := (List.pairwise_append.1 order).2.1
    cases after with
    | nil => exact nofun
    | cons e after =>
      obtain ⟨first, -⟩ := List.pairwise_cons.1 tail
      have queued : e ∈ s.release := by rw [split]; simp
      obtain ⟨p, hp, -⟩ := (h.releases.held e).1 queued
      have behind : s.ahead p < s.ahead r := farther e p rfl ((State.desc?_putDesc ..).trans ((if_neg (apart queued)).trans hp))
      intro x hx q hq
      rcases List.mem_cons.1 hx with rfl | hx
      · exact Option.some.inj (hp.symm.trans hq) ▸ Int.le_of_lt behind
      · exact Int.le_trans (first x hx p q hp hq) (Int.le_of_lt behind)
  refine ⟨blocks, ⟨?_, fun e => ?_, fun e q hq hh => ?_, ?_⟩,
    h.queues.beside (d := d) (fun q hq => ?_) (fun q hq => ?_) others fun _ => rfl⟩
  · rw [queue]
    refine List.perm_middle.nodup_iff.2 (List.nodup_cons.2 ⟨?_, ?_⟩)
    · rw [← split]
      exact absent
    · rw [← split]
      exact h.releases.nodup
  · have member : e ∈ (s.hold d r).release ↔ e = d ∨ e ∈ s.release := by
      rw [queue, split]
      simp only [List.mem_append, List.mem_cons]
      exact or_left_comm
    rw [member]
    by_cases he : e = d
    · rw [desc, if_pos he]
      exact iff_of_true (.inl he) ⟨_, rfl, rfl⟩
    · rw [others e he, ← h.releases.held]
      exact or_iff_right he
  · rw [ahead]
    by_cases he : e = d
    · rw [desc, if_pos he] at hq
      cases hq
      exact ⟨near, Int.le_of_lt far, fun _ => far⟩
    · exact h.releases.window e q ((others e he).symm.trans hq) hh
  · have order := h.releases.order
    have old {e : DescIx} {q : Desc} (he : e ∈ s.release) (hq : (s.hold d r).desc? e = some q) : s.desc? e = some q :=
      (others e (apart he)).symm.trans hq
    have here {q : Desc} (hq : (s.hold d r).desc? d = some q) : s.ahead q = s.ahead r := by
      rw [desc, if_pos rfl] at hq
      cases hq
      rfl
    rw [split] at order
    obtain ⟨first, second, across⟩ := List.pairwise_append.1 order
    have inFront {e : DescIx} (he : e ∈ before) : e ∈ s.release := by rw [split]; exact List.mem_append_left _ he
    have behind {e : DescIx} (he : e ∈ after) : e ∈ s.release := by rw [split]; exact List.mem_append_right _ he
    rw [queue]
    refine List.pairwise_append.2 ⟨?_, List.pairwise_cons.2 ⟨fun e he p q hp hq => ?_, ?_⟩, fun x hx e he p q hp hq => ?_⟩
    · exact first.imp_of_mem fun hx hy hord p q hp hq => hord p q (old (inFront hx) hp) (old (inFront hy) hq)
    · rw [ahead, ahead, here hp]
      exact ordered e he q (old (behind he) hq)
    · exact second.imp_of_mem fun hx hy hord p q hp hq => hord p q (old (behind hx) hp) (old (behind hy) hq)
    · rcases List.mem_cons.1 he with rfl | he
      · rw [ahead, ahead, here hq]
        exact nearer x p hx (by
          rw [State.desc?_putDesc, if_neg (apart (inFront hx))]
          exact old (inFront hx) hp)
      · exact across x hx e he p q (old (inFront hx) hp) (old (behind he) hq)
  · rw [← Option.some.inj (hr.symm.trans hq)]
    exact Desc.waiting_upload hs
  · rw [desc, if_pos rfl] at hq
    cases hq
    exact Desc.waiting_held rfl

end State.ReplayHeld

theorem replayHeld_trunkRules : TrunkRules replayLawViews (State.ReplayHeld []) where
  quiet t ha h := h.of_touches t ha
  aside := by decide +kernel
  bare _ _ _ h hr ha := h.bare hr ha
  flush _ t h := h.flushReplay t
  chunk _ _ _ _ h ha he := h.sendChunk ha he
  start _ t h := h.startMultiframe t

/-! ### The rows -/

section
variable {s : State}

/-- The mark counter's settings change, but not its count. -/
theorem State.ReplayHeld.setMarks (h : s.ReplayHeld []) {m : MarkCounter} (hm : m.count = s.marks.count) :
    State.ReplayHeld [] { s with marks := m } := by
  have ahead (r : Desc) : State.ahead { s with marks := m } r = s.ahead r := by
    unfold State.ahead
    rw [← hm]
  refine ⟨.of_touches (F := [.marks]) (State.setMarks_touches s m) (by decide +kernel) h.blocks,
    ⟨h.releases.nodup, h.releases.held, fun d r hr hs => ?_, ?_⟩,
    .of_touches (F := [.marks]) (State.setMarks_touches s m) (by decide +kernel) h.queues⟩
  · rw [ahead]
    exact h.releases.window d r hr hs
  · simp only [ahead]
    exact h.releases.order

/-- The laws speak neither of segment memory nor of the grace timer. -/
theorem State.ReplayHeld.setMemory (h : s.ReplayHeld []) (m : List Host.Cell) (g : Option Time) :
    State.ReplayHeld [] { s with segMem := m, grace := g } :=
  ⟨{ h.blocks with whole := h.blocks.whole }, ⟨h.releases.nodup, h.releases.held, h.releases.window, h.releases.order⟩,
    ⟨h.queues.queues, h.queues.refs, h.queues.left, h.queues.away, h.queues.plans⟩⟩

theorem State.ReplayHeld.streamOpen (h : s.ReplayHeld []) (b : List Byte) : (streamOpenRule b s).state.ReplayHeld [] := by
  refine onStream_keeps (P := State.ReplayHeld []) b s _ h fun k => ?_
  split
  · exact h.setStream (h.blocks.setStream k rfl nofun nofun fun hn => absurd rfl hn)
  all_goals exact h

theorem State.ReplayHeld.segBegin (h : s.ReplayHeld []) (b : List Byte) : (segBeginRule b s).state.ReplayHeld [] := by
  refine onStream_keeps (P := State.ReplayHeld []) b s _ h fun k => ?_
  dsimp only
  split
  · exact h
  · next hk =>
    split
    · exact h
    · next hu =>
      split
      · exact h
      · split
        · exact h
        · split
          · exact h
          · next hs =>
            split
            · exact h
            · next hf =>
              have open_ : (s.stream k).state = .opened := by simpa [State.isOpen] using hk
              have free : s.upload? k = none := by simpa using hu
              have sizes : ¬ (numAt b 6 2 = 0 ∨ 255 < numAt b 6 2 ∨ 769 < numAt b 8 2 ∨ 1024 < numAt b 6 2 + numAt b 8 2) :=
                mt decide_eq_true hs
              obtain ⟨descs, blocks⟩ := not_or.1 hf
              have size : s.descs.size = s.descs.entries.length := rfl
              unfold State.freeDescs descCapacity at descs
              unfold State.freeBlocks blockCapacity at blocks
              exact h.beginUpload open_ free _ _ (by omega) (by omega) (by omega)

theorem State.ReplayHeld.segData (h : s.ReplayHeld []) (b : List Byte) : (segDataRule b s).state.ReplayHeld [] := by
  refine onStream_keeps (P := State.ReplayHeld []) b s _ h fun k => ?_
  split
  · exact h
  · next d r next hu =>
    obtain ⟨hr, -, hs⟩ := State.upload?_some h.blocks.descs hu
    split
    · exact h
    · dsimp only
      exact (h.setMemory (Memory.writeAll s.segMem (blockAddress (r.blocks.getD next 0)) ((b.drop 4).take 256))
        s.grace).upload hr hs (next + 1)

theorem State.ReplayHeld.segAbort (h : s.ReplayHeld []) (b : List Byte) : (segAbortRule b s).state.ReplayHeld [] := by
  refine onStream_keeps (P := State.ReplayHeld []) b s _ h fun k => ?_
  split
  · exact h
  · next d r next hu =>
    obtain ⟨hr, -, hs⟩ := State.upload?_some h.blocks.descs hu
    exact h.freeWaiting hr (Desc.waiting_upload hs) (by rw [hs]; exact nofun)

theorem State.ReplayHeld.segEnd (h : s.ReplayHeld []) (b : List Byte) : (segEndRule b s).state.ReplayHeld [] := by
  refine onStream_keeps (P := State.ReplayHeld []) b s _ h fun k => ?_
  split
  · exact h
  · next d r next hu =>
    obtain ⟨hr, -, hs⟩ := State.upload?_some h.blocks.descs hu
    have ended : (s.setStream k { s.stream k with lastSeq := some r.sequence }).ReplayHeld [] :=
      h.of_touches (F := [.streams, .stream .lastSeq]) (State.setStream_touches _ _ _ (fun v hv => by
        cases v <;> first | rfl | exact absurd (View.mem_of (by decide +kernel)) hv) (View.mem_of (by decide +kernel)))
        (by decide +kernel)
    have waiting := Desc.waiting_upload hs
    have unheld : r.state ≠ .held := by rw [hs]; exact nofun
    split
    · exact h
    · dsimp only
      split
      · exact ended.freeWaiting hr waiting unheld
      · next hd =>
        obtain ⟨near, far⟩ := not_or.1 hd
        split
        · have released := ended.release hr waiting
          rw [ended.unheld_eq fun q hq => Option.some.inj (hr.symm.trans hq) ▸ unheld] at released
          exact released
        · next early => exact ended.hold hr hs (Int.not_lt.1 far) (Int.not_le.1 early)

theorem replayClearRule_eq (b : List Byte) (s : State) :
    replayClearRule b s = ⟨s.replayCleared, .ok, [.u16 s.descs.size]⟩ := rfl

theorem State.ReplayHeld.replayClearRule (h : s.ReplayHeld []) (b : List Byte) :
    (replayClearRule b s).state.ReplayHeld [] := by
  have cleared := State.ReplayHeld.replayClear h
  rw [replayClearRule_eq]
  generalize s.replayCleared = v at cleared ⊢
  exact cleared

theorem replayHeld_rule (c : Command) (b : List Byte) (s : State)
    (hc : View.apart replayLawViews (Command.footprint c) = false) (h : s.ReplayHeld []) :
    (c.rule b s).state.ReplayHeld [] := by
  cases c with
  | trunkSet => exact replayHeld_trunkRules.trunkSet h b
  | trunkStandby => exact replayHeld_trunkRules.trunkStandby h b
  | trunkReset => exact replayHeld_trunkRules.trunkReset h b
  | streamOpen => exact h.streamOpen b
  | streamClose =>
    refine onStream_keeps (P := State.ReplayHeld []) b s _ h fun k => ?_
    split
    · dsimp only
      exact h.closeStream k
    all_goals exact h
  | segBegin => exact h.segBegin b
  | segData => exact h.segData b
  | segEnd => exact h.segEnd b
  | segAbort => exact h.segAbort b
  | mark =>
    change (markRule b s).state.ReplayHeld []
    unfold markRule
    split
    · exact h.markEvent
    · exact h
  | markSet =>
    change (markSetRule b s).state.ReplayHeld []
    unfold markSetRule
    split
    · refine h.setMarks ?_
      unfold MarkCounter.set
      split <;> rfl
    all_goals exact h
  | replayClear =>
    exact h.replayClearRule b
  | _ => exact absurd hc (by decide +kernel)

theorem replayHeld_event (i : Instr) (s u : State) (hc : portCommand i = none) (hd : i ≠ .deviceReset)
    (hl : i ≠ .resetLineAsserted) (ha : View.apart replayLawViews (rowFootprint i) = false) (h : s.ReplayHeld [])
    (hx : exec i s = .next u) : u.ReplayHeld [] := by
  cases i with
  | deviceReset => exact absurd rfl hd
  | resetLineAsserted => exact absurd rfl hl
  | upstreamSignalDetected t => exact replayHeld_trunkRules.upstreamSignalDetected h hx
  | wakeTimeout t => exact replayHeld_trunkRules.wakeTimeout h hx
  | alignTimeout t => exact replayHeld_trunkRules.alignTimeout h hx
  | lostGiveUp t => exact replayHeld_trunkRules.lostGiveUp h hx
  | idleTimerExpiry t => exact replayHeld_trunkRules.idleTimerExpiry h hx
  | frameStart t => exact replayHeld_trunkRules.frameStart h hx
  | multiframeStart t => exact replayHeld_trunkRules.multiframeStart h hx
  | upstreamFrameReceived t f => exact replayHeld_trunkRules.upstreamFrame h hx
  | generatorExpiry =>
    change execGeneratorExpiry s = _ at hx
    refine live_keeps hx h ?_
    split
    · split
      · exact h.markEvent.setMarks rfl
      · exact h
    · split
      · exact h.markEvent.setMarks rfl
      · exact h
    all_goals exact h
  | portVGraceExpiry =>
    change execPortVGraceExpiry s = _ at hx
    refine live_keeps hx h ?_
    split
    · exact h
    · split
      · exact State.each_keeps (State.ReplayHeld []) State.closeStream s.openStreams { s with grace := none }
          (fun _ k _ hs => hs.closeStream k) (h.setMemory s.segMem none)
      · exact h
  | _ => first | exact absurd hc (Option.some_ne_none _) | exact absurd (ha.symm.trans rfl) Bool.false_ne_true

theorem replayLaw_kept (s u : State) (h : s.ReplayLaw) (hx : step s = .next u) : u.ReplayLaw := by
  have reset (s : State) (held : Bool) : (s.deviceReset held).ReplayHeld [] := by
    have law := State.replayHeld_iff.2 State.replayLaw_reset
    exact ⟨{ law.blocks with whole := law.blocks.whole },
      ⟨law.releases.nodup, law.releases.held, law.releases.window, law.releases.order⟩,
      ⟨law.queues.queues, law.queues.refs, law.queues.left, law.queues.away, law.queues.plans⟩⟩
  exact State.replayHeld_iff.1 (law_step replayLawViews (fun t ha h => h.of_touches t ha) (by decide +kernel)
    (hreset := reset) (hrule := replayHeld_rule) (hevent := replayHeld_event) s u (State.replayHeld_iff.2 h) hx)

end

/-- Settles O56: every step keeps the tables canonical, and each operation of the replay side keeps its three laws. -/
theorem tablesStaySound : Obligations.TablesStaySound := ⟨tablesSound_step, replayLaw_kept⟩

end Sys2Proof.Machine
end


section
/-! PROOF. Uploads: STREAM_OPEN, SEG_BEGIN, SEG_DATA, SEG_ABORT and SEG_END (R152 to R154, R158, R160 to R163). -/
namespace Sys2Proof.Machine

/-- An accepted command has its length (R180). -/
theorem State.Taking.length {s : State} {p : PortId} {c : Command} {m : PortMessage} (h : s.Taking p c m) :
    m.body.length = c.length m.body := by
  refine Classical.byContradiction fun hl => ?_
  have hc : Command.ofCode m.code.toNat = some c := by rw [h.code, Command.ofCode_code]
  have := h.accepted
  simp only [refusal, hc, if_pos hl] at this
  repeat' split at this
  all_goals cases this

/-- A command that names a stream runs its rule for that stream. -/
theorem State.Taking.onStream {s : State} {p : PortId} {c : Command} {m : PortMessage} {i : Instr} {k : StreamId}
    {f : StreamId → Answer} (h : s.Taking p c m) (hk : byteAt m.body 0 = k.val)
    (hi : portCommand i = some (p, c)) (hr : c.rule m.body s = onStream m.body s f) {u : State} {r : Result} {b : List Field}
    (hf : f k = ⟨u, r, b⟩) (hb : r ≠ .ok → b = []) : exec i s = .next (u.answered p m r b) :=
  exec_taken hi h (hr.trans ((onStream_val f k hk).trans hf)) hb

section
variable {s : State} {p : PortId} {m : PortMessage} {k : StreamId}

/-! ### STREAM_OPEN (R152) -/

theorem exec_streamOpen (h : s.Taking p .streamOpen m) (hk : byteAt m.body 0 = k.val) :
    ((s.stream k).state = .closed → exec (.streamOpen p) s = .next (State.answered
      (s.setStream k { s.stream k with state := .opened, lastSeq := none, unwatched := 0 }) p m .ok []))
    ∧ ((s.stream k).state ≠ .closed → exec (.streamOpen p) s = .next (s.answered p m .wrongState [])) := by
  constructor
  · intro hc
    refine h.onStream hk rfl rfl ?_ fun _ => rfl
    dsimp only
    rw [hc]
  · intro hc
    refine h.onStream hk rfl rfl (u := s) (r := .wrongState) ?_ fun _ => rfl
    dsimp only
    cases hs : (s.stream k).state with
    | closed => exact absurd hs hc
    | opened | draining => rfl

/-! ### SEG_BEGIN (R160) -/

theorem badSequence_iff (o : Option Seq) (q : Seq) :
    badSequence o q = true ↔ ∃ l, o = some l ∧ ((q - l).toNat = 0 ∨ 32768 ≤ (q - l).toNat) := by
  cases o with
  | none => simp [badSequence]
  | some l => simp only [badSequence, decide_eq_true_iff, Option.some.injEq, exists_eq_left', Nat.succ_le_iff]

/-- What SEG_BEGIN answers for a stream, check by check. -/
theorem segBeginRule_eq (hk : byteAt m.body 0 = k.val) : segBeginRule m.body s =
    let q : Seq := BitVec.ofNat 16 (numAt m.body 2 2)
    let mk : Mark := BitVec.ofNat 16 (numAt m.body 4 2)
    let nL := numAt m.body 6 2
    let nX := numAt m.body 8 2
    if !s.isOpen k then ⟨s, .wrongState, []⟩
    else if (s.upload? k).isSome then ⟨s, .busy, []⟩
    else if badSequence (s.stream k).lastSeq q then ⟨s, .badSequence, []⟩
    else if markDistance s.marks.count mk < -aheadLimit then ⟨s, .badValue, []⟩
    else if badSizes nL nX then ⟨s, .badValue, []⟩
    else if s.freeDescs = 0 ∨ s.freeBlocks < nL + nX then ⟨s, .noSpace, []⟩
    else ⟨s.beginUpload (firstFree 0 s.descs.keys) k q mk nL nX (s.lowestBlocks (nL + nX)), .ok,
      [.u8 (firstFree 0 s.descs.keys), .u16 ((s.lowestBlocks (nL + nX)).headD 0),
        .u16 ((s.lowestBlocks (nL + nX)).getLastD 0)]⟩ :=
  onStream_val _ k hk

theorem exec_segBegin (h : s.Taking p .segBegin m) (hk : byteAt m.body 0 = k.val) :
    let r := s.stream k
    let q : Seq := BitVec.ofNat 16 (numAt m.body 2 2)
    let mk : Mark := BitVec.ofNat 16 (numAt m.body 4 2)
    let nL := numAt m.body 6 2
    let nX := numAt m.body 8 2
    let late := ∃ l, r.lastSeq = some l ∧ ((q - l).toNat = 0 ∨ 32768 ≤ (q - l).toNat)
    let far := (s.marks.count - mk).toInt < -1024
    let sizes := nL = 0 ∨ 255 < nL ∨ 769 < nX ∨ 1024 < nL + nX
    let exhausted := 256 ≤ s.descs.entries.length ∨ 16384 < s.used.length + (nL + nX)
    let refused := fun w => exec (.segBegin p) s = .next (s.answered p m w [])
    (r.state ≠ .opened → refused .wrongState)
    ∧ (r.state = .opened → s.upload? k ≠ none → refused .busy)
    ∧ (r.state = .opened → s.upload? k = none → late → refused .badSequence)
    ∧ (r.state = .opened → s.upload? k = none → ¬ late → (far ∨ sizes) → refused .badValue)
    ∧ (r.state = .opened → s.upload? k = none → ¬ late → ¬ far → ¬ sizes → exhausted → refused .noSpace)
    ∧ (r.state = .opened → s.upload? k = none → ¬ late → ¬ far → ¬ sizes → ¬ exhausted →
        exec (.segBegin p) s = .next (State.answered
          (s.beginUpload (firstFree 0 s.descs.keys) k q mk nL nX (s.lowestBlocks (nL + nX))) p m .ok
          [.u8 (firstFree 0 s.descs.keys), .u16 ((s.lowestBlocks (nL + nX)).headD 0),
            .u16 ((s.lowestBlocks (nL + nX)).getLastD 0)])) := by
  intro r q mk nL nX late far sizes exhausted refused
  have rule := segBeginRule_eq (s := s) hk
  have open_ : s.isOpen k = true ↔ r.state = .opened := beq_iff_eq
  have none_ : (s.upload? k).isSome = true ↔ s.upload? k ≠ none := Option.isSome_iff_ne_none
  have late_ : badSequence (s.stream k).lastSeq q = true ↔ late := badSequence_iff ..
  have sizes_ : badSizes nL nX = true ↔ sizes := decide_eq_true_iff
  have exhausted_ (hs : ¬ sizes) : (s.freeDescs = 0 ∨ s.freeBlocks < nL + nX) ↔ exhausted := by
    have size : s.descs.size = s.descs.entries.length := rfl
    have positive : nL ≠ 0 := fun h0 => hs (.inl h0)
    unfold State.freeDescs State.freeBlocks descCapacity blockCapacity exhausted
    omega
  have far_ : markDistance s.marks.count mk < -aheadLimit ↔ far := Iff.rfl
  change segBeginRule m.body s = (if !s.isOpen k then _ else if (s.upload? k).isSome then _ else
    if badSequence (s.stream k).lastSeq q then _ else if markDistance s.marks.count mk < -aheadLimit then _ else
    if badSizes nL nX then _ else if s.freeDescs = 0 ∨ s.freeBlocks < nL + nX then _ else _) at rule
  refine ⟨fun ho => ?_, fun ho hu => ?_, fun ho hu hl => ?_, fun ho hu hl hf => ?_, fun ho hu hl hf hs he => ?_,
    fun ho hu hl hf hs he => ?_⟩
  · refine exec_bare h (rule.trans (if_pos ?_))
    rw [Bool.not_eq_true', Bool.eq_false_iff]
    exact mt open_.1 ho
  all_goals have passed : ¬ (!s.isOpen k) = true := by rw [open_.2 ho]; exact Bool.false_ne_true
  · exact exec_bare h (rule.trans ((if_neg passed).trans (if_pos (none_.2 hu))))
  all_goals have idle : ¬ (s.upload? k).isSome = true := fun hn => none_.1 hn hu
  · exact exec_bare h (rule.trans ((if_neg passed).trans ((if_neg idle).trans (if_pos (late_.2 hl)))))
  all_goals have inTime : ¬ badSequence (s.stream k).lastSeq q = true := mt late_.1 hl
  · have checked := rule.trans ((if_neg passed).trans ((if_neg idle).trans (if_neg inTime)))
    by_cases hn : far
    · exact exec_bare h (checked.trans (if_pos hn))
    · exact exec_bare h (checked.trans ((if_neg hn).trans (if_pos (sizes_.2 (hf.resolve_left hn)))))
  all_goals have checked := rule.trans ((if_neg passed).trans ((if_neg idle).trans ((if_neg inTime).trans
    ((if_neg hf).trans (if_neg (mt sizes_.1 hs))))))
  · exact exec_bare h (checked.trans (if_pos ((exhausted_ hs).2 he)))
  · exact exec_ok h (checked.trans (if_neg (mt (exhausted_ hs).1 he)))

/-! ### SEG_DATA (R161) and SEG_ABORT (R163) -/

theorem exec_segData (h : s.Taking p .segData m) (hk : byteAt m.body 0 = k.val) :
    (s.upload? k = none → exec (.segData p) s = .next (s.answered p m .noSuch []))
    ∧ ∀ d x next, s.upload? k = some (d, x, next) →
      ((numAt m.body 2 2 ≠ next ∨ x.nL + x.nX ≤ next) → exec (.segData p) s = .next (s.answered p m .badSequence []))
      ∧ (numAt m.body 2 2 = next → next < x.nL + x.nX → exec (.segData p) s = .next (State.answered
        { s.putDesc d { x with state := .uploading (next + 1) } with
          segMem := Memory.writeAll s.segMem (256 * x.blocks.getD next 0) ((m.body.drop 4).take 256) } p m .ok
        [.u16 (next + 1)])) := by
  refine ⟨fun hu => ?_, fun d x next hu => ⟨fun hn => ?_, fun hn hl => ?_⟩⟩
  · refine h.onStream hk rfl rfl (u := s) (r := .noSuch) ?_ fun _ => rfl
    dsimp only
    rw [hu]
  · refine h.onStream hk rfl rfl (u := s) (r := .badSequence) ?_ fun _ => rfl
    dsimp only
    rw [hu]
    exact if_pos hn
  · refine h.onStream hk rfl rfl ?_ (absurd rfl)
    dsimp only
    rw [hu]
    exact if_neg fun hb => hb.elim (absurd hn) (Nat.not_le.2 hl)

theorem exec_segAbort (h : s.Taking p .segAbort m) (hk : byteAt m.body 0 = k.val) :
    (s.upload? k = none → exec (.segAbort p) s = .next (s.answered p m .noSuch []))
    ∧ ∀ d x next, s.upload? k = some (d, x, next) →
      exec (.segAbort p) s = .next ((s.freeDesc d).answered p m .ok []) := by
  refine ⟨fun hu => ?_, fun d x next hu => ?_⟩
  · refine h.onStream hk rfl rfl (u := s) (r := .noSuch) ?_ fun _ => rfl
    rw [hu]
  · refine h.onStream hk rfl rfl ?_ (absurd rfl)
    rw [hu]

/-- The chunk of a SEG_DATA reads back byte for byte. -/
theorem State.Taking.read_segData (h : s.Taking p .segData m) (hm : Memory.wf s.segMem = true) (base a : Nat) :
    Memory.read (Memory.writeAll s.segMem base ((m.body.drop 4).take 256)) a =
      if base ≤ a ∧ a < base + 256 then m.body.getD (4 + (a - base)) 0 else Memory.read s.segMem a := by
  have length : m.body.length = 260 := h.length
  have chunk : ((m.body.drop 4).take 256).length = 256 := by simp [length]
  rw [Memory.read_writeAll _ _ _ _ hm, chunk]
  split
  · next hr =>
    have inside : a - base < 256 := by omega
    simp [List.getD_eq_getElem?_getD, inside, List.getElem?_drop]
  · rfl

/-- Settles O49: each check of the four commands in its order, the lowest free descriptor and blocks, and the chunk. -/
theorem streamUploads : Obligations.StreamUploads := by
  intro p m s k hk r
  refine ⟨fun h => exec_streamOpen h hk, fun h => ?_, fun h => ?_, fun h => ?_⟩
  · obtain ⟨wrongState, busy, badSequence, badValue, noSpace, begun⟩ := exec_segBegin h hk
    refine ⟨wrongState, busy, badSequence, badValue, noSpace, fun ho hu hl hf hs he used hwf => ?_⟩
    obtain ⟨count, rising, fresh, lowest, -⟩ := s.lowestBlocks_iff (numAt m.body 6 2 + numAt m.body 8 2) used
    refine ⟨_, _, _, begun ho hu hl hf hs he, s.descs.get?_firstFree hwf, fun e he => Table.get?_below_firstFree _ he,
      count, rising, fresh, lowest, (State.desc?_putDesc ..).trans (if_pos rfl),
      fun e he => (State.desc?_putDesc ..).trans (if_neg he), fun b => mem_foldl_insertRising .., ?_, rfl⟩
    exact (State.stream_setStream ..).trans (if_pos rfl)
  · obtain ⟨noSuch, taken⟩ := exec_segData h hk
    refine ⟨noSuch, fun d x next hu => ⟨(taken d x next hu).1, fun hn hl hm => ⟨_, (taken d x next hu).2 hn hl, fun a =>
      h.read_segData hm _ a⟩⟩⟩
  · obtain ⟨noSuch, freed⟩ := exec_segAbort h hk
    refine ⟨noSuch, fun d x next hu hwf => ?_⟩
    obtain ⟨hr, hs, -⟩ := State.upload?_some hwf hu
    have desc := State.desc?_freeDesc hwf d
    refine ⟨s.freeDesc d, freed d x next hu, (desc d).trans (if_pos rfl), fun e he => (desc e).trans (if_neg he),
      fun b => ?_, ?_, ?_, fun j hj => ?_⟩
    · rw [State.used_freeDesc hr, List.mem_filter, decide_eq_true_iff]
    · rw [State.stream_freeDesc hr, hs, if_pos rfl]
      rfl
    · rw [State.stream_freeDesc hr, hs, if_pos rfl]
      rfl
    · rw [State.stream_freeDesc hr, hs, if_neg hj]

/-! ### SEG_END (R162) -/

/-- What SEG_END answers for an upload, check by check. -/
theorem segEndRule_eq (hk : byteAt m.body 0 = k.val) {d : DescIx} {x : Desc} {next : Nat}
    (hu : s.upload? k = some (d, x, next)) : segEndRule m.body s =
      let v := s.setStream k { s.stream k with lastSeq := some x.sequence }
      if next < x.nL + x.nX then ⟨s, .incomplete, []⟩
      else if (s.marks.stale : Int) < s.distance x ∨ s.distance x < -aheadLimit then ⟨v.freeDesc d, .stale, []⟩
      else if 0 ≤ s.distance x then ⟨v.releaseDesc d, .ok, releasedBody (v.releaseDesc d) d⟩
      else ⟨v.hold d x, .ok, [.u8 d, .u8 0]⟩ := by
  refine (onStream_val _ k hk).trans ?_
  dsimp only
  rw [hu]
  rfl

/-- The body of SEG_END for a descriptor released at once. -/
theorem releasedBody_eq {v : State} {d : DescIx} {x : Desc} (hwf : v.descs.wf = true) (hr : v.desc? d = some x) :
    ∃ body, releasedBody (v.releaseDesc d) d = .u8 d :: body
      ∧ (v.wantedOn x.stream = [] → body = [.u8 2])
      ∧ (v.wantedOn x.stream ≠ [] → body = [.u8 1, .u8 (v.wantedOn x.stream).length]
          ++ allTrunks.map fun t => .u8 (v.trunkDemand t x.stream).code) := by
  rw [State.releaseDesc_eq hr]
  by_cases hn : v.wantedOn x.stream = []
  · have gone : ((v.unwatchedOn x.stream).freeDesc d).desc? d = none :=
      (State.desc?_freeDesc (s := v.unwatchedOn x.stream) hwf d d).trans (if_pos rfl)
    refine ⟨[.u8 2], ?_, fun _ => rfl, fun h => absurd hn h⟩
    rw [if_pos hn, releasedBody, gone]
  · have kept := (v.desc?_releasedTo d x d).trans (if_pos rfl)
    refine ⟨_, ?_, fun h => absurd h hn, fun _ => rfl⟩
    rw [if_neg hn, releasedBody, kept]
    dsimp only [State.releasedAs]
    simp only [getElem_perTrunk]
    rfl

/-- The last outcome of SEG_END: the descriptor is held, behind every nearer and every equal one. -/
theorem exec_segHold (h : s.Taking p .segEnd m) (hk : byteAt m.body 0 = k.val) {d : DescIx} {x : Desc} {next : Nat}
    (hr : s.desc? d = some x) (hu : s.upload? k = some (d, x, next)) (hl : x.nL + x.nX ≤ next) (near : -1024 ≤ (s.marks.count - x.mark).toInt)
    (far : (s.marks.count - x.mark).toInt < 0) : ∃ before after, s.release = before ++ after
      ∧ (∀ e y, e ∈ before → s.desc? e = some y → (s.marks.count - x.mark).toInt ≤ (s.marks.count - y.mark).toInt)
      ∧ (∀ e y, after.head? = some e → s.desc? e = some y →
          (s.marks.count - y.mark).toInt < (s.marks.count - x.mark).toInt)
      ∧ exec (.segEnd p) s = .next (State.answered
          { State.putDesc (s.setStream k { s.stream k with lastSeq := some x.sequence }) d { x with state := .held } with
            release := before ++ d :: after } p m .ok [.u8 d, .u8 0]) := by
  have rule := segEndRule_eq hk hu
  have early : ¬ ((s.marks.stale : Int) < s.distance x ∨ s.distance x < -aheadLimit) := by
    rintro (stale | away)
    · have := Int.lt_of_le_of_lt (Int.natCast_nonneg s.marks.stale) (Int.lt_trans stale far)
      exact absurd this (Int.lt_irrefl 0)
    · exact absurd near (Int.not_le.2 away)
  have held := rule.trans ((if_neg (Nat.not_lt.2 hl)).trans ((if_neg early).trans (if_neg (Int.not_le.2 far))))
  obtain ⟨before, after, split, inserted, nearer, farther⟩ := State.ReplayHeld.insertHeld_split
    (State.putDesc (s.setStream k { s.stream k with lastSeq := some x.sequence }) d { x with state := .held })
    (s.distance x) d s.release
  have desc (e : DescIx) : (State.putDesc (s.setStream k { s.stream k with lastSeq := some x.sequence }) d
      { x with state := .held }).desc? e = if e = d then some { x with state := .held } else s.desc? e :=
    State.desc?_putDesc ..
  refine ⟨before, after, split, fun e y he hy => ?_, fun e y he hy => ?_, ?_⟩
  · by_cases hed : e = d
    · have same : x = y := Option.some.inj (hr.symm.trans (hed ▸ hy))
      exact same ▸ Int.le_refl _
    · exact nearer e y he ((desc e).trans ((if_neg hed).trans hy))
  · have apart : e ≠ d := by
      intro hed
      exact absurd (farther e _ he ((desc e).trans (if_pos hed))) (Int.lt_irrefl _)
    exact farther e y he ((desc e).trans ((if_neg apart).trans hy))
  · refine exec_ok h (held.trans ?_)
    unfold State.hold
    dsimp only
    exact congrArg (fun q : List DescIx => (⟨{ State.putDesc (s.setStream k { s.stream k with lastSeq := some x.sequence }) d
      { x with state := .held } with release := q }, .ok, [.u8 d, .u8 0]⟩ : Answer)) inserted

/-- Settles O50: each outcome of SEG_END in its order; what is held goes behind the nearer and the equal marks. -/
theorem segmentEnded : Obligations.SegmentEnded := by
  intro p m s k h hk hwf
  refine ⟨fun hu => ?_, fun d x next hu => ?_⟩
  · refine h.onStream hk rfl rfl (u := s) (r := .noSuch) ?_ fun _ => rfl
    dsimp only
    rw [hu]
  · have rule := segEndRule_eq hk hu
    obtain ⟨hr, stream, -⟩ := State.upload?_some hwf hu
    intro dist wanted v
    have wants : v.wantedOn x.stream = wanted := by
      rw [stream]
      exact List.filter_congr fun t _ => (Bool.decide_coe _).symm.trans (decide_eq_decide.2 bne_iff_ne)
    refine ⟨fun hl => exec_bare h (rule.trans (if_pos hl)), fun hl hs => ?_, fun hl hs hn => ?_, fun hl near far =>
      exec_segHold h hk hr hu hl near far⟩
    · exact exec_bare h (rule.trans ((if_neg (Nat.not_lt.2 hl)).trans (if_pos hs)))
    · have fresh : ¬ ((s.marks.stale : Int) < s.distance x ∨ s.distance x < -aheadLimit) := by
        rintro (stale | away)
        · exact absurd stale (Int.not_lt.2 hs)
        · exact absurd (Int.lt_of_le_of_lt hn away) (by decide)
      obtain ⟨body, hb, none_, some_⟩ := releasedBody_eq (v := v) hwf hr
      rw [wants] at none_ some_
      refine ⟨body, ?_, none_, fun hw => (some_ hw).trans ?_⟩
      · rw [← hb]
        exact exec_ok h (rule.trans ((if_neg (Nat.not_lt.2 hl)).trans ((if_neg fresh).trans (if_pos hn))))
      · rw [stream]
        rfl

end
end Sys2Proof.Machine
end


section
/-! PROOF. MARK, the generator expiry and MARK_SET (R155 to R157, R164). -/
namespace Sys2Proof.Machine

section
variable {s : State}

/-! ### The release queue -/

/-- Each segment that is released has left the release queue. -/
theorem State.release_releaseAll (ds : List DescIx) (s : State) :
    (s.each ds State.releaseHeld).release = s.release.filter (· ∉ ds) := by
  induction ds generalizing s with
  | nil => exact (List.filter_eq_self.2 fun _ _ => decide_eq_true List.not_mem_nil).symm
  | cons d ds ih =>
    have queue : (s.releaseHeld d).release = s.release.filter (· ≠ d) :=
      (State.releaseDesc_touches (G := releaseViews) (s.unheld d) d).release
    rw [State.each_cons, ih, queue, List.filter_filter]
    refine List.filter_congr fun e _ => ?_
    simp only [List.mem_cons, not_or, ne_eq, Bool.decide_and, Bool.and_comm]

/-! ### A stale segment is flushed (R157) -/

theorem State.wf_flushStale (h : s.descs.wf = true) (d : DescIx) : (s.flushStale d).descs.wf = true :=
  (State.flushStale_touches (G := markViews) s d).canon .descs h

theorem State.desc?_unlinkFrom (h : s.descs.wf = true) {d e : DescIx} (he : e ≠ d) (ts : List TrunkId) :
    (s.each ts fun s t => s.unlink t d).desc? e = s.desc? e :=
  (State.each_keeps (fun u => u.descs.wf = true ∧ u.desc? e = s.desc? e) _ ts s (fun u t _ hu =>
    ⟨(State.unlink_touches (G := unlinkViews) u t d).canon .descs hu.1, (State.desc?_unlink_ne hu.1 t he).trans hu.2⟩)
    ⟨h, rfl⟩).2

theorem State.desc?_flushStale_ne (h : s.descs.wf = true) {d e : DescIx} (he : e ≠ d) :
    (s.flushStale d).desc? e = s.desc? e := by
  unfold State.flushStale
  split
  · rfl
  · next r _ =>
    have note := State.notify_touches (G := [.portV]) s .V (.segmentStale r.stream r.sequence (s.holders d)) (View.mem_of rfl)
    exact (State.desc?_unlinkFrom (note.canon .descs h) he _).trans (congrArg (·.get? e) note.descs)

theorem State.replay_unlinkFrom (d : DescIx) (t : TrunkId) (ts : List TrunkId) (s : State) :
    ((s.each ts fun s t => s.unlink t d).trunk t).replay =
      if t ∈ ts then (s.trunk t).replay.filter (· ≠ d) else (s.trunk t).replay := by
  induction ts generalizing s with
  | nil => exact (if_neg List.not_mem_nil).symm
  | cons t' ts ih =>
    rw [State.each_cons, ih, State.trunk_unlink]
    by_cases h : t = t'
    · subst h
      rw [if_pos rfl, if_pos List.mem_cons_self]
      have once : ((s.trunk t).unlink d).replay = (s.trunk t).replay.filter (· ≠ d) := rfl
      rw [once, List.filter_filter, ite_eq_right_iff]
      intro _
      exact List.filter_congr fun e _ => Bool.and_self _
    · rw [if_neg h]
      simp only [List.mem_cons, h, false_or]

/-- A segment flushed is in no replay queue, and every other one stays where it is. -/
theorem State.replay_flushStale (s : State) (d : DescIx) (t : TrunkId) : ((s.flushStale d).trunk t).replay =
    if s.desc? d = none then (s.trunk t).replay else (s.trunk t).replay.filter (· ≠ d) := by
  unfold State.flushStale
  split
  · next hn => rw [if_pos hn]
  · next r hr =>
    have note := State.notify_touches (G := [.portV]) s .V (.segmentStale r.stream r.sequence (s.holders d)) (View.mem_of rfl)
    have found : ¬ s.desc? d = none := by rw [hr]; exact nofun
    rw [State.replay_unlinkFrom, note.trunkAll t, if_neg found, ite_eq_left_iff]
    intro hd
    refine (List.filter_eq_self.2 fun e he => decide_eq_true ?_).symm
    rintro rfl
    exact hd (List.mem_filter.2 ⟨mem_allTrunks t, List.contains_iff_mem.2 he⟩)

theorem State.desc?_flushAll (h : s.descs.wf = true) {ds : List DescIx} {d : DescIx} (hd : d ∉ ds) :
    (s.each ds State.flushStale).desc? d = s.desc? d :=
  (State.each_keeps (fun u => u.descs.wf = true ∧ u.desc? d = s.desc? d) _ ds s (fun u e he hu =>
    ⟨u.wf_flushStale hu.1 e, (State.desc?_flushStale_ne hu.1 (fun hed : d = e => hd (hed ▸ he))).trans hu.2⟩) ⟨h, rfl⟩).2

theorem State.replay_flushAll_subset (ds : List DescIx) (s : State) (t : TrunkId) :
    ((s.each ds State.flushStale).trunk t).replay ⊆ (s.trunk t).replay :=
  State.each_keeps (fun u => (u.trunk t).replay ⊆ (s.trunk t).replay) _ ds s (fun u d _ hu e he => by
    rw [State.replay_flushStale] at he
    split at he
    · exact hu he
    · exact hu (List.mem_filter.1 he).1) fun _ => id

/-- What the flush names is in no replay queue afterwards. -/
theorem State.not_mem_flushAll {d : DescIx} (ds : List DescIx) (s : State) (h : s.descs.wf = true) (hd : d ∈ ds)
    (hr : s.desc? d ≠ none) (t : TrunkId) : d ∉ ((s.each ds State.flushStale).trunk t).replay := by
  induction ds generalizing s with
  | nil => cases hd
  | cons e ds ih =>
    by_cases hed : d = e
    · subst hed
      intro hq
      have first := State.replay_flushAll_subset ds (s.flushStale d) t hq
      rw [State.replay_flushStale, if_neg hr] at first
      exact of_decide_eq_true (List.mem_filter.1 first).2 rfl
    · refine ih (s.flushStale e) (s.wf_flushStale h e) ((List.mem_cons.1 hd).resolve_left hed) ?_
      rw [State.desc?_flushStale_ne h hed]
      exact hr

/-- The record of `d`, where there is one, is a RELEASED one. -/
def State.OnlyReleased (s : State) (d : DescIx) : Prop := ∀ r, s.desc? d = some r → ∃ n cs, r.state = .released n cs

theorem State.OnlyReleased.flushAll {d : DescIx} (hd : s.OnlyReleased d) (h : s.descs.wf = true) (ds : List DescIx) :
    (s.each ds State.flushStale).OnlyReleased d := by
  have unlink (u : State) (hu : u.descs.wf = true ∧ u.OnlyReleased d) (t : TrunkId) (e : DescIx) :
      (u.unlink t e).descs.wf = true ∧ (u.unlink t e).OnlyReleased d := by
    refine ⟨(State.unlink_touches (G := unlinkViews) u t e).canon .descs hu.1, fun r hr => ?_⟩
    by_cases hed : d = e
    · subst hed
      cases hq : u.desc? d with
      | none =>
        have same : (u.unlink t d).desc? d = u.desc? d := by
          unfold State.unlink
          dsimp only
          rw [show (u.setTrunk t ((u.trunk t).unlink d)).desc? d = none from hq, hq]
          exact hq
        rw [same, hq] at hr
        cases hr
      | some q =>
        obtain ⟨n, cs, hs⟩ := hu.2 q hq
        rw [State.desc?_unlink hu.1 hq hs, if_pos rfl] at hr
        split at hr
        · cases hr
        · cases hr
          exact ⟨_, _, rfl⟩
    · rw [State.desc?_unlink_ne hu.1 t hed] at hr
      exact hu.2 r hr
  refine (State.each_keeps (fun u => u.descs.wf = true ∧ u.OnlyReleased d) _ ds s (fun u e _ hu => ?_) ⟨h, hd⟩).2
  unfold State.flushStale
  split
  · exact hu
  · next r _ =>
    have note := State.notify_touches (G := [.portV]) u .V (.segmentStale r.stream r.sequence (u.holders e)) (View.mem_of rfl)
    exact State.each_keeps (fun u => u.descs.wf = true ∧ u.OnlyReleased d) _ _ _ (fun w t _ hw => unlink w hw t e)
      ⟨note.canon .descs hu.1, fun r hr => hu.2 r ((congrArg (·.get? d) note.descs).symm.trans hr)⟩

/-! ### A mark event (R156, R157) -/

theorem State.holders_eq (s : State) (d : DescIx) : s.holders d = allTrunks.filter fun t => d ∈ (s.trunk t).replay :=
  List.filter_congr fun t _ => by
    rw [Bool.eq_iff_iff, List.contains_iff_mem, decide_eq_true_iff]

theorem State.reachedNow_eq (s : State) (d : DescIx) :
    s.reachedNow d = (s.desc? d).any fun r => decide (0 ≤ s.ahead r) := by
  unfold State.reachedNow
  cases s.desc? d <;> rfl

theorem State.isStale_eq (s : State) (d : DescIx) : s.isStale d = (s.desc? d).any fun r =>
    decide (s.marks.stale < s.ahead r) && (allTrunks.filter fun t => d ∈ (s.trunk t).replay) != [] := by
  unfold State.isStale
  rw [State.holders_eq]
  cases s.desc? d with
  | none => rfl
  | some r =>
    change _ = (_ && _)
    cases allTrunks.filter fun t => d ∈ (s.trunk t).replay <;> rfl

/-- The state of a mark event with the segments released and none flushed yet. -/
def State.marked (s : State) : State := s.bumpMark.releaseReached

theorem State.marked_touches (s : State) : s.bumpMark.Touches ([.release] ++ releaseViews) s.marked :=
  .each (fun s d => State.releaseHeld_touches ..) _

theorem State.markEvent_eq (s : State) :
    s.markEvent = s.marked.each (s.marked.descs.keys.filter s.marked.isStale) State.flushStale := rfl

theorem State.marks_marked (s : State) : s.marked.marks = { s.marks with count := s.marks.count + 1 } :=
  s.marked_touches.marks

theorem State.flushAll_touches (ds : List DescIx) (s : State) :
    s.Touches (.portV :: unlinkViews) (s.each ds State.flushStale) :=
  .each (fun s d => State.flushStale_touches ..) _

theorem State.marks_markEvent (s : State) : s.markEvent.marks = { s.marks with count := s.marks.count + 1 } :=
  (State.flushAll_touches _ s.marked).marks.trans s.marks_marked

theorem State.release_markEvent (s : State) :
    s.markEvent.release = s.release.filter fun d => !s.bumpMark.reachedNow d := by
  have flushed : s.markEvent.release = s.marked.release := (State.flushAll_touches _ s.marked).release
  refine flushed.trans ((State.release_releaseAll _ s.bumpMark).trans (List.filter_congr fun d hd => ?_))
  rw [decide_not, Bool.not_inj_iff, Bool.eq_iff_iff, decide_eq_true_iff, List.mem_filter]
  exact and_iff_right hd

theorem State.mem_stale {d : DescIx} : d ∈ s.descs.keys.filter s.isStale ↔ s.isStale d = true := by
  refine List.mem_filter.trans (and_iff_right_of_imp fun hd => ?_)
  rw [State.isStale_eq] at hd
  exact (mem_keys_iff _ _).2 (Option.isSome_of_any hd)

theorem State.wf_marked (h : s.descs.wf = true) : s.marked.descs.wf = true := s.marked_touches.canon .descs h

/-- After a mark event no replay queue holds a stale segment. -/
theorem State.fresh_markEvent (h : s.descs.wf = true) {t : TrunkId} {d : DescIx} {r : Desc}
    (hd : d ∈ (s.markEvent.trunk t).replay) (hr : s.markEvent.desc? d = some r) :
    s.markEvent.ahead r ≤ s.marks.stale := by
  rw [State.markEvent_eq] at hd hr
  refine Classical.byContradiction fun far => ?_
  have fresh : d ∉ s.marked.descs.keys.filter s.marked.isStale := fun hs => by
    refine State.not_mem_flushAll _ s.marked (State.wf_marked h) hs (fun hn => ?_) t hd
    have := State.mem_stale.1 hs
    rw [State.isStale_eq, hn] at this
    cases this
  rw [State.desc?_flushAll (State.wf_marked h) fresh] at hr
  refine fresh (State.mem_stale.2 ?_)
  have queued := State.replay_flushAll_subset _ _ _ hd
  have marks : s.marked.ahead r = s.markEvent.ahead r := congrArg (fun m : MarkCounter => (m.count - r.mark).toInt)
    (s.marks_marked.trans s.marks_markEvent.symm)
  rw [State.isStale_eq, hr, Option.any_some, Bool.and_eq_true, decide_eq_true_iff, bne_iff_ne, marks, s.marks_marked]
  refine ⟨Int.not_le.1 far, List.ne_nil_of_mem (List.mem_filter.2 ⟨mem_allTrunks t, decide_eq_true queued⟩)⟩

/-- Under the laws of the replay side a mark event frees what it finds stale. -/
theorem State.freed_markEvent (h : s.ReplayLaw) {d : DescIx} (hd : s.marked.isStale d = true) :
    s.markEvent.desc? d = none ∧ ∀ t, d ∉ (s.markEvent.trunk t).replay := by
  have hwf : s.marked.descs.wf = true := State.wf_marked h.blocks.descs
  have held : s.ReplayHeld [] := State.replayHeld_iff.2 h
  have stale := hd
  rw [State.isStale_eq, Option.any_eq_true] at stale
  obtain ⟨q, hq, stale⟩ := stale
  have away (t : TrunkId) : d ∉ (s.markEvent.trunk t).replay :=
    State.not_mem_flushAll _ s.marked hwf (State.mem_stale.2 hd) (by rw [hq]; exact nofun) t
  refine ⟨Option.eq_none_iff_forall_ne_some.2 fun r hr => ?_, away⟩
  obtain ⟨t, ht⟩ := List.exists_mem_of_ne_nil _ (bne_iff_ne.1 (Bool.and_eq_true_iff.1 stale).2)
  have queued := of_decide_eq_true (List.mem_filter.1 ht).2
  have only : s.marked.OnlyReleased d := fun x hx => by
    obtain ⟨y, n, cs, hy, hs⟩ := (held.releaseReached.queues.queues t).2 d queued
    exact ⟨n, cs, Option.some.inj (hx.symm.trans hy) ▸ hs⟩
  obtain ⟨n, cs, hs⟩ := only.flushAll hwf _ r hr
  obtain ⟨some_, count⟩ := held.markEvent.queues.refs d r n cs hr hs
  rw [List.filter_eq_nil_iff.2 fun t _ => mt of_decide_eq_true (away t)] at count
  exact absurd some_ (by rw [count]; exact Nat.lt_irrefl 0)

/-! ### The commands and the expiry -/

theorem exec_mark {p : PortId} {m : PortMessage} (h : s.Taking p .mark m) :
    (s.marks.source = .portV → exec (.mark p) s = .next
        (s.markEvent.answered p m .ok [.u16 (s.marks.count + 1).toNat]))
    ∧ (s.marks.source = .internal → exec (.mark p) s = .next (s.answered p m .wrongState [])) := by
  refine ⟨fun hs => exec_ok h ?_, fun hs => exec_bare h ?_⟩
  · change markRule m.body s = _
    have marks := s.marks_markEvent
    unfold markRule
    rw [hs]
    generalize s.markEvent = u at marks
    dsimp only
    rw [marks]
  · change markRule m.body s = _
    unfold markRule
    rw [hs]

theorem markSetRule_eq (b : List Byte) (s : State) {src : MarkSource} {mode : GenMode}
    (hs : sourceField (byteAt b 0) = some src) (hm : modeField (byteAt b 1) = some mode) : markSetRule b s =
      let m := s.marks.set s.now src mode (clamp 1 250 (numAt b 2 2)) (clamp 1 64 (numAt b 4 2))
      ⟨{ s with marks := m }, .ok, [.u8 m.source.code, .u8 m.mode.code, .u16 m.period, .u16 m.stale, .u16 m.count.toNat]⟩ := by
  unfold markSetRule
  rw [hs, hm]

/-- The mode that a MARK_SET names (12.1). -/
theorem modeField_lt {n : Nat} (h : n < 2) : modeField n = some (if n = 0 then .periodic else .single) := by
  match n, h with
  | 0, _ | 1, _ => rfl

theorem code_of_mode {n : Nat} (h : n < 2) : GenMode.code (if n = 0 then .periodic else .single) = n := by
  match n, h with
  | 0, _ | 1, _ => rfl

theorem sourceField_of_le {n : Nat} (h : 2 ≤ n) : sourceField n = none := by
  match n, h with
  | n + 2, _ => rfl

theorem modeField_of_le {n : Nat} (h : 2 ≤ n) : modeField n = none := by
  match n, h with
  | n + 2, _ => rfl

theorem markSetRule_bad (b : List Byte) (s : State) (h : 2 ≤ byteAt b 0 ∨ 2 ≤ byteAt b 1) :
    markSetRule b s = ⟨s, .badValue, []⟩ := by
  unfold markSetRule
  rcases h with source | mode
  · rw [sourceField_of_le source]
  · rw [modeField_of_le mode]
    cases sourceField (byteAt b 0) <;> rfl

theorem exec_markSet {p : PortId} {m : PortMessage} (h : s.Taking p .markSet m) :
    let period := max 1 (min 250 (numAt m.body 2 2))
    let stale := max 1 (min 64 (numAt m.body 4 2))
    let tail : List Field := [.u16 period, .u16 stale, .u16 s.marks.count.toNat]
    ((2 ≤ byteAt m.body 0 ∨ 2 ≤ byteAt m.body 1) → exec (.markSet p) s = .next (s.answered p m .badValue []))
    ∧ (byteAt m.body 0 = 0 → byteAt m.body 1 < 2 → exec (.markSet p) s = .next (State.answered
      { s with marks := ⟨s.marks.count, .internal, if byteAt m.body 1 = 0 then .periodic else .single,
          period, some (s.now + BitVec.ofNat 32 period), stale⟩ } p m .ok ([.u8 0, .u8 (byteAt m.body 1)] ++ tail)))
    ∧ (byteAt m.body 0 = 1 → byteAt m.body 1 < 2 → ∃ mode, exec (.markSet p) s = .next
      (State.answered { s with marks := ⟨s.marks.count, .portV, .stopped, period, none, stale⟩ } p m .ok
        ([.u8 1, .u8 mode] ++ tail))) := by
  intro period stale tail
  refine ⟨fun hb => exec_bare h (markSetRule_bad _ s hb), fun hs hm => exec_ok h ?_, fun hs hm => ⟨GenMode.stopped.code, exec_ok h ?_⟩⟩
  · refine (markSetRule_eq _ s (src := .internal) (by rw [hs]; rfl) (modeField_lt hm)).trans ?_
    dsimp only [MarkCounter.set]
    rw [code_of_mode hm]
    rfl
  · exact markSetRule_eq _ s (src := .portV) (by rw [hs]; rfl) (modeField_lt hm)

theorem exec_generatorExpiry_due (h : s.held = false) {due : Time} (hn : s.marks.next = some due)
    (hd : (s.now - due).toNat < 2 ^ 31) :
    (s.marks.mode = .periodic → exec .generatorExpiry s = .next { s.markEvent with
        marks := { s.marks with count := s.marks.count + 1
                                next := some (due + BitVec.ofNat 32 s.marks.period) } })
    ∧ (s.marks.mode = .single → exec .generatorExpiry s = .next { s.markEvent with
        marks := { s.marks with count := s.marks.count + 1, mode := .stopped, next := none } }) := by
  have reached := (timeReached_iff s.now due).2 hd
  have marks := s.marks_markEvent
  change (_ → execGeneratorExpiry s = _) ∧ (_ → execGeneratorExpiry s = _)
  unfold execGeneratorExpiry
  rw [State.live_released s h]
  generalize s.markEvent = u at marks ⊢
  refine ⟨fun hm => ?_, fun hm => ?_⟩
  · rw [hm, hn]
    dsimp only
    rw [if_pos reached, marks]
  · rw [hm, hn]
    dsimp only
    rw [if_pos reached, marks]

theorem exec_generatorExpiry_idle (h : s.held = false) (hi : s.marks.mode = .stopped ∨ s.marks.next = none
    ∨ ∃ due, s.marks.next = some due ∧ 2 ^ 31 ≤ (s.now - due).toNat) : exec .generatorExpiry s = .next s := by
  change execGeneratorExpiry s = _
  unfold execGeneratorExpiry
  rw [State.live_released s h]
  rcases hi with hm | hn | ⟨due, hn, hd⟩
  · rw [hm]
  · rw [hn]
    cases s.marks.mode <;> rfl
  · have early : ¬ timeReached s.now due = true := fun hr => absurd ((timeReached_iff _ _).1 hr) (Nat.not_lt.2 hd)
    rw [hn]
    cases s.marks.mode with
    | stopped => rfl
    | periodic => exact congrArg Host.Outcome.next (if_neg early)
    | single => exact congrArg Host.Outcome.next (if_neg early)

end

/-- Settles O51: a mark event is the count, then the releases, then the flush of what is stale, each by its own lemmas. -/
theorem marksCounted : Obligations.MarksCounted := by
  refine ⟨fun s h => ?_, fun p m s => ⟨exec_mark, exec_markSet⟩, fun s h =>
    ⟨fun due hn hd => exec_generatorExpiry_due h hn hd, exec_generatorExpiry_idle h⟩⟩
  intro u counted reached v queuesOf stale flush
  have reach : reached = s.bumpMark.reachedNow := funext fun d => (s.bumpMark.reachedNow_eq d).symm
  have hv : v = s.marked := by
    change (s.release.filter reached).foldl _ counted = _
    rw [reach]
    rfl
  have marks : s.marked.marks = counted.marks := s.marks_marked
  have hstale : stale = s.marked.isStale := funext fun d => by
    have ahead : s.marked.ahead = counted.ahead :=
      congrArg (fun (m : MarkCounter) (r : Desc) => (m.count - r.mark).toInt) marks
    rw [State.isStale_eq, marks, ahead, ← hv]
  have hflush : flush = State.flushStale := funext fun w => funext fun d => by
    change (match w.desc? d with | some r => _ | none => w) = _
    unfold State.flushStale
    rw [State.holders_eq]
    cases w.desc? d <;> rfl
  have hu : u = s.marked.each (s.marked.descs.keys.filter s.marked.isStale) State.flushStale := s.markEvent_eq
  have hr : u.release = s.release.filter (fun d => !reached d) := by rw [reach]; exact s.release_markEvent
  refine ⟨s.marks_markEvent, hr, ?_, fun d hd => ?_, fun d hd => ?_, fun t d r => State.fresh_markEvent h, fun law d hd => ?_⟩
  · rw [hu, hv, hstale, hflush]
    rfl
  · rw [hstale] at hd
    rw [hu, hv]
    exact State.desc?_flushAll (State.wf_marked h) (mt State.mem_stale.1 (by rw [hd]; exact Bool.false_ne_true))
  · rw [hr] at hd
    obtain ⟨queued, early⟩ := List.mem_filter.1 hd
    refine ⟨queued, fun r hr => ?_⟩
    rw [reach, State.reachedNow_eq, show s.bumpMark.desc? d = some r from hr, Option.any_some, Bool.not_eq_true',
      decide_eq_false_iff_not] at early
    have same : u.marks = s.bumpMark.marks := s.marks_markEvent
    rw [same]
    exact Int.not_le.1 early
  · exact State.freed_markEvent law (hstale ▸ hd)

end Sys2Proof.Machine
end


section
/-! PROOF. STATION_CLEAR (R95, R101, R136, R138, R150). -/
namespace Sys2Proof.Machine

/-! ### The DETACH of each serving trunk -/

/-- A trunk that serves no cells takes no control message. -/
theorem State.append_idle {s : State} {t : TrunkId} (h : (s.trunk t).state.serving = false) (m : Ctl) : s.append t m = s :=
  if_neg (by rw [h]; exact Bool.false_ne_true)

/-- A message told to each serving trunk is a message appended on each trunk. -/
theorem State.each_serving (m : Ctl) (ts : List TrunkId) (s : State) (f : TrunkId → Bool)
    (hf : ∀ t, (s.trunk t).state.serving = f t) :
    s.each (ts.filter f) (fun w t => w.append t m) = ts.foldl (fun w t => w.append t m) s := by
  induction ts generalizing s with
  | nil => rfl
  | cons t ts ih =>
    have kept (t' : TrunkId) : ((s.append t m).trunk t').state.serving = f t' := by
      have same : ((s.append t m).trunk t').state = (s.trunk t').state :=
        (State.append_touches (G := messageViews) s t m).trunk .state t'
      rw [same, hf]
    rw [List.foldl_cons, ← ih _ kept]
    by_cases ht : f t = true
    · rw [List.filter_cons_of_pos ht]
      rfl
    · rw [List.filter_cons_of_neg ht, State.append_idle ((hf t).trans (Bool.not_eq_true _ ▸ ht))]

/-! ### Several stations removed one after another -/

/-- The stations of a list stand in the table, each once. -/
structure State.Lists (s : State) (es : List (StationIx × Station)) : Prop where
  stations : s.stations.wf = true
  nodup : (es.map Prod.fst).Nodup
  found : ∀ e ∈ es, s.station? e.1 = some e.2

/-- The stations of a list removed by STATION_CLEAR. -/
def State.clearedOf (s : State) (es : List (StationIx × Station)) : State :=
  s.each (es.map Prod.fst) fun s i => s.remove i .cleared

section
variable {s : State} {e : StationIx × Station} {es : List (StationIx × Station)}

theorem State.clearedOf_cons : s.clearedOf (e :: es) = (s.remove e.1 .cleared).clearedOf es := rfl

theorem State.Lists.head (h : s.Lists (e :: es)) : s.station? e.1 = some e.2 := h.found e List.mem_cons_self

theorem State.Lists.tail (h : s.Lists (e :: es)) : (s.remove e.1 .cleared).Lists es := by
  obtain ⟨fresh, nodup⟩ := List.nodup_cons.1 h.nodup
  refine ⟨(State.remove_touches (G := removeViews) s ..).canon .stations h.stations, nodup, fun x hx => ?_⟩
  rw [State.station?_remove h.stations, if_neg, h.found x (List.mem_cons_of_mem _ hx)]
  exact fun hxe => fresh (List.mem_map.2 ⟨x, hx, hxe⟩)

theorem State.lists_entries (h : s.stations.wf = true) : s.Lists s.stations.entries :=
  ⟨h, (List.pairwise_map.2 (pairwise_of_rising _ h)).imp Nat.ne_of_lt, fun e he => (mem_entries_iff _ h e.1 e.2).1 he⟩

theorem State.clearedOf_touches : s.Touches removeViews (s.clearedOf es) :=
  .each (fun s _ => State.remove_touches ..) _

theorem State.station?_clearedOf (h : s.Lists es) (i : StationIx) :
    (s.clearedOf es).station? i = if i ∈ es.map Prod.fst then none else s.station? i := by
  induction es generalizing s with
  | nil => exact (if_neg List.not_mem_nil).symm
  | cons e es ih =>
    rw [State.clearedOf_cons, ih h.tail, State.station?_remove h.stations, List.map_cons]
    by_cases hi : i = e.1
    · rw [if_pos hi, hi, if_pos List.mem_cons_self, ite_self]
    · simp only [List.mem_cons, hi, false_or, if_false]

/-- The ticket that a removal makes ADMITTED. -/
theorem State.ticket?_remove {i : StationIx} {r : Station} (hr : s.station? i = some r) (cause : Cause) (k : Token) :
    (s.remove i cause).ticket? k = (s.ticket? k).map fun x =>
      { x with state := if r.binding == .bound k then .admitted else x.state } := by
  have after : (s.remove i cause).ticket? k = (s.releaseTicket i r.binding cause).ticket? k :=
    congrArg (fun x : Table Ticket => x.get? k.toNat) (State.tickets_remove hr cause).1
  rw [after, State.releaseTicket_eq]
  cases r.binding with
  | unbound | fenced => exact Option.map_id_apply.symm
  | bound k' =>
    have other (h : k ≠ k') : (Binding.bound k' == .bound k) = false :=
      beq_eq_false_iff_ne.2 fun e => h (Binding.bound.inj e).symm
    dsimp only
    cases ht : s.ticket? k' with
    | none =>
      by_cases hk : k = k'
      · rw [hk, ht]
        rfl
      · rw [other hk]
        exact Option.map_id_apply.symm
    | some t =>
      dsimp only
      have told : ((s.putTicket k' { t with state := .admitted }).notify .T
          (.ticketReleased k' i cause t.home)).ticket? k = (s.putTicket k' { t with state := .admitted }).ticket? k :=
        (congrArg (fun v : State => v.ticket? k) (State.notify_frame ..)).trans rfl
      rw [told, State.ticket?_putTicket]
      by_cases hk : k = k'
      · rw [if_pos hk, hk, ht, beq_self_eq_true]
        rfl
      · rw [if_neg hk, other hk]
        exact Option.map_id_apply.symm

theorem State.ticket?_clearedOf (h : s.Lists es) (k : Token) : (s.clearedOf es).ticket? k = (s.ticket? k).map fun x =>
    { x with state := if es.any fun e => e.2.binding == .bound k then .admitted else x.state } := by
  induction es generalizing s with
  | nil => exact Option.map_id_apply.symm
  | cons e es ih =>
    rw [State.clearedOf_cons, ih h.tail, State.ticket?_remove h.head, Option.map_map, List.any_cons]
    refine congrArg (fun f => (s.ticket? k).map f) (funext fun x => ?_)
    cases e.2.binding == .bound k <;> cases es.any fun e => e.2.binding == .bound k <;> rfl

/-- The notice of a station's ticket, with the home that the ticket has in `s`. -/
def State.ticketTold (s w : State) (e : StationIx × Station) : State :=
  match e.2.binding with
  | .bound k => match s.ticket? k with
    | some x => w.notify .T (.ticketReleased k e.1 .cleared x.home)
    | none => w
  | .unbound | .fenced => w

theorem State.portT_clearedOf (h : s.Lists es) {base w : State} (hw : s.ports.t = w.ports.t) (hn : s.now = w.now)
    (hk : ∀ k, (s.ticket? k).map Ticket.home = (base.ticket? k).map Ticket.home) :
    (s.clearedOf es).ports.t = (es.foldl base.ticketTold w).ports.t := by
  induction es generalizing s w with
  | nil => exact hw
  | cons e es ih =>
    rw [State.clearedOf_cons, List.foldl_cons]
    have told : (base.ticketTold w e).now = w.now := by
      unfold State.ticketTold
      split
      · split
        · exact (congrArg State.now (State.notify_frame ..)).trans rfl
        · rfl
      all_goals rfl
    refine ih h.tail ?_ ?_ fun k => ?_
    · rw [(State.tickets_remove h.head .cleared).2, State.releaseTicket_eq]
      unfold State.ticketTold
      cases e.2.binding with
      | unbound | fenced => exact hw
      | bound k =>
        have home := hk k
        dsimp only
        cases hs : s.ticket? k with
        | none =>
          rw [hs] at home
          rw [Option.map_eq_none_iff.1 home.symm]
          exact hw
        | some x =>
          rw [hs] at home
          obtain ⟨y, hy, same⟩ := Option.map_eq_some_iff.1 home.symm
          rw [hy]
          dsimp only
          rw [same]
          exact State.portT_notify (s := w) (v := s.putTicket k { x with state := .admitted }) hw hn _
    · rw [told, ← hn]
      exact (State.remove_touches (G := removeViews) s ..).now
    · rw [State.ticket?_remove h.head, Option.map_map, ← hk k]
      rfl

/-! ### The table emptied -/

theorem Table.entries_nil {α : Type} {t : Table α} (h : ∀ i, t.get? i = none) : t.entries = [] := by
  have keys : t.entries.map Prod.fst = [] := List.eq_nil_iff_forall_not_mem.2 fun i hi => by
    have found := (mem_keys_iff _ _).1 hi
    rw [show assocGet t.entries i = none from h i] at found
    cases found
  exact List.map_eq_nil_iff.1 keys

/-- The state with every station removed. -/
def State.cleared (s : State) : State := s.clearedOf s.stations.entries

theorem State.station?_cleared (h : s.stations.wf = true) (i : StationIx) : s.cleared.station? i = none := by
  refine (State.station?_clearedOf (State.lists_entries h) i).trans (ite_eq_left_iff.2 fun hi => ?_)
  exact Option.not_isSome_iff_eq_none.1 (mt (mem_keys_iff _ _).2 hi)

theorem State.entries_cleared (h : s.stations.wf = true) : s.cleared.stations.entries = [] :=
  Table.entries_nil fun i => State.station?_cleared h i

theorem State.stationsWith_cleared (h : s.stations.wf = true) (f : Station → Bool) : s.cleared.stationsWith f = 0 := by
  rw [State.stationsWith, State.entries_cleared h]
  rfl

theorem State.cleared_keeps {P : State → Prop} (hP : ∀ (s : State) i, s.stations.wf = true → P s → P (s.remove i .cleared))
    (h : s.stations.wf = true) (hs : P s) : P s.cleared :=
  (State.each_keeps (fun u => u.stations.wf = true ∧ P u) _ _ s (fun u i _ hu =>
    ⟨(State.remove_touches (G := removeViews) u ..).canon .stations hu.1, hP u i hu.1 hu.2⟩) ⟨h, hs⟩).2

theorem State.holder_cleared (h : s.TicketLaw) {k : Token} {x : Ticket} (hx : s.cleared.ticket? k = some x) :
    x.state.holder = none := by
  have law : s.cleared.TicketLaw := State.cleared_keeps (fun _ i _ hu => hu.remove i .cleared) h.stations h
  cases hs : x.state with
  | seated i =>
    obtain ⟨r, hr, -⟩ := law.seated k x i hx hs
    rw [State.station?_cleared h.stations] at hr
    cases hr
  | issued | admitted | exited | void => rfl

theorem State.cells_cleared (h : s.CountLaw) {c : CellId} {x : Cell} (hx : s.cleared.cells.get? c = some x) :
    x.attached = 0 ∧ x.incoming = 0 := by
  have law : s.cleared.CountLaw := State.cleared_keeps (fun _ i _ hu => hu.remove i .cleared) h.stations h
  have counts := law.counts c x hx
  rw [State.stationsWith_cleared h.stations, State.stationsWith_cleared h.stations] at counts
  exact counts

theorem State.counts_cleared (h : s.FanoutLaw) (c : CellId) (k : StreamId) : s.cleared.counts c k = ⟨0, 0⟩ := by
  have law : s.cleared.FanoutLaw := State.cleared_keeps (fun _ i _ hu => hu.remove i .cleared) h.stations h
  rw [law.counts, State.stationsWith_cleared h.stations, State.stationsWith_cleared h.stations]

theorem exec_stationClear {p : PortId} {m : PortMessage} (h : s.Taking p .stationClear m) :
    exec (.stationClear p) s = .next (State.answered
      (allTrunks.foldl (fun w t => w.append t ⟨none, .detach none .cleared⟩) s.cleared) p m .ok
      [.u16 s.stations.entries.length]) := by
  refine exec_ok h ?_
  have serving := State.each_serving ⟨none, .detach none .cleared⟩ allTrunks s.cleared
    (fun t => (s.cleared.trunk t).state.serving) fun _ => rfl
  exact congrArg (fun v : State => (⟨v, .ok, [.u16 s.stations.entries.length]⟩ : Answer)) serving

end

/-- Settles O40: the stations go one after another, and what is left follows from the laws and an empty table. -/
theorem stationClearEmpties : Obligations.StationClearEmpties := by
  intro p m s h hwf
  have lists := State.lists_entries hwf
  have touched : s.Touches removeViews s.cleared := State.clearedOf_touches
  have tickets := State.ticket?_clearedOf lists
  refine ⟨s.cleared, exec_stationClear h, State.entries_cleared hwf, ?_, touched.trunkIdle (by decide +kernel),
    fun k => ?_, fun k x hx => ?_, fun law k x => State.holder_cleared law, fun law c x => State.cells_cleared law,
    State.counts_cleared, touched.eq_frame⟩
  · exact State.portT_clearedOf lists rfl rfl fun _ => rfl
  · exact (congrArg Option.isSome (tickets k)).trans Option.isSome_map
  · exact ⟨_, (tickets k).trans (congrArg _ hx), rfl, rfl⟩

end Sys2Proof.Machine
end


section
/-! PROOF. STREAM_CLOSE and the Port V grace expiry (R148, R165, R166). -/
namespace Sys2Proof.Machine

/-! ### Descriptors of one stream freed -/

/-- Descriptors of `k` have been freed: another stream keeps its record, and where `k` is OPEN nobody is told. -/
structure State.Fewer (k : StreamId) (s u : State) : Prop where
  others : ∀ j, j ≠ k → u.stream j = s.stream j
  quiet : (s.stream k).state = .opened → (u.stream k).state = .opened ∧ u.ports.v = s.ports.v

namespace State.Fewer
variable {k : StreamId} {s u v : State}

theorem refl (k : StreamId) (s : State) : State.Fewer k s s := ⟨fun _ _ => rfl, fun h => ⟨h, rfl⟩⟩

theorem trans (h : State.Fewer k s u) (g : State.Fewer k u v) : State.Fewer k s v := by
  refine ⟨fun j hj => (g.others j hj).trans (h.others j hj), fun hs => ?_⟩
  obtain ⟨opened, port⟩ := h.quiet hs
  obtain ⟨still, portAfter⟩ := g.quiet opened
  exact ⟨still, portAfter.trans port⟩

theorem freeDesc {d : DescIx} (hd : ∀ r, s.desc? d = some r → r.stream = k) : State.Fewer k s (s.freeDesc d) := by
  cases hr : s.desc? d with
  | none =>
    have kept : s.freeDesc d = s := by rw [State.freeDesc, hr]
    rw [kept]
    exact refl k s
  | some r =>
    obtain rfl := hd r hr
    refine ⟨fun j hj => (State.stream_freeDesc hr j).trans (if_neg hj), fun hs => ?_⟩
    have going : ¬ ((s.stream r.stream).state = .draining ∧ (s.stream r.stream).inUse ≤ 1) := by
      rw [hs]
      exact fun h => by cases h.1
    refine ⟨?_, ?_⟩
    · rw [State.stream_freeDesc hr, if_pos rfl, Stream.lessOne]
      exact (if_neg going).trans hs
    · rw [State.freeDesc_eq hr, if_neg going]
      rfl

theorem freeAll {ds : List DescIx} (hwf : s.descs.wf = true) (hds : ∀ d ∈ ds, ∀ r, s.desc? d = some r → r.stream = k) :
    State.Fewer k s (s.freeAll ds) := by
  induction ds generalizing s with
  | nil => exact refl k s
  | cons d ds ih =>
    have first : State.Fewer k (s.unheld d) ((s.unheld d).freeDesc d) := freeDesc (hds d List.mem_cons_self)
    have here : State.Fewer k s ((s.unheld d).freeDesc d) := ⟨first.others, first.quiet⟩
    refine here.trans (ih (((s.unheld d).freeDesc_touches (G := freeViews) d).canon .descs hwf) fun e he r hr => ?_)
    rw [State.desc?_freeDesc (s := s.unheld d) hwf] at hr
    split at hr
    · cases hr
    · exact hds e (List.mem_cons_of_mem _ he) r hr

end State.Fewer

section
variable {s : State} {k : StreamId}

/-! ### The upload freed -/

theorem State.desc?_freeUpload (hwf : s.descs.wf = true) (d : DescIx) :
    (s.freeUpload k).desc? d = s.desc? d ∨ (s.freeUpload k).desc? d = none := by
  unfold State.freeUpload
  split
  · rw [State.desc?_freeDesc hwf]
    split
    · exact .inr rfl
    · exact .inl rfl
  · exact .inl rfl

theorem State.desc?_freeUpload_named (hwf : s.descs.wf = true) {d : DescIx} {r : Desc} {n : Nat}
    (hu : s.upload? k = some (d, r, n)) : (s.freeUpload k).desc? d = none := by
  unfold State.freeUpload
  rw [hu]
  exact (State.desc?_freeDesc hwf d d).trans (if_pos rfl)

/-- What is of another stream, or no upload, stays. -/
theorem State.desc?_freeUpload_kept (hwf : s.descs.wf = true) {d : DescIx} {r : Desc} (hr : s.desc? d = some r)
    (hk : r.stream ≠ k ∨ ∀ n, r.state ≠ .uploading n) : (s.freeUpload k).desc? d = some r := by
  unfold State.freeUpload
  split
  · next e q n hu =>
    obtain ⟨hq, stream, uploading⟩ := State.upload?_some hwf hu
    rw [State.desc?_freeDesc hwf, if_neg, hr]
    rintro rfl
    obtain rfl := Option.some.inj (hr.symm.trans hq)
    exact hk.elim (· stream) (· n uploading)
  · exact hr

theorem State.Fewer.freeUpload (hwf : s.descs.wf = true) : State.Fewer k s (s.freeUpload k) := by
  unfold State.freeUpload
  split
  · next d r n hu =>
    obtain ⟨hr, stream, -⟩ := State.upload?_some hwf hu
    exact .freeDesc fun q hq => Option.some.inj (hr.symm.trans hq) ▸ stream
  · exact .refl k s

/-! ### The held segments freed -/

theorem State.mem_heldOf {d : DescIx} :
    d ∈ s.heldOf k ↔ d ∈ s.release ∧ ∃ r, s.desc? d = some r ∧ r.stream = k := by
  rw [State.heldOf, List.mem_filter]
  refine and_congr_right fun _ => ?_
  unfold State.ofStream
  cases s.desc? d with
  | none => exact iff_of_false Bool.false_ne_true fun ⟨_, h, _⟩ => nomatch h
  | some r => exact beq_iff_eq.trans ⟨fun h => ⟨r, rfl, h⟩, fun ⟨_, hr, h⟩ => Option.some.inj hr ▸ h⟩

/-- The state of a closing stream before its drain starts. -/
def State.stripped (s : State) (k : StreamId) : State := ((s.withdraw k).freeUpload k).freeHeld k

theorem State.closeStream_eq (s : State) (k : StreamId) : s.closeStream k = (s.stripped k).startDrain k := rfl

theorem State.stripped_fewer (hwf : s.descs.wf = true) : State.Fewer k (s.withdraw k) (s.stripped k) := by
  have wfw : (s.withdraw k).descs.wf = true := (State.withdraw_touches (G := subscriptionViews) s k).canon .descs hwf
  have first : State.Fewer k (s.withdraw k) ((s.withdraw k).freeUpload k) := .freeUpload wfw
  have wfu := ((s.withdraw k).freeUpload_touches (G := freeViews) k).canon .descs wfw
  refine first.trans (.freeAll wfu fun d hd r hr => ?_)
  obtain ⟨-, q, hq, stream⟩ := State.mem_heldOf.1 hd
  exact Option.some.inj (hr.symm.trans hq) ▸ stream

theorem State.stripped_touches (s : State) (k : StreamId) :
    (s.withdraw k).Touches (.release :: freeViews) (s.stripped k) :=
  .trans (State.freeUpload_touches ..) (State.freeAll_touches ..)

theorem State.stripped_desc? (hwf : s.descs.wf = true) (d : DescIx) : (s.stripped k).desc? d =
    if d ∈ ((s.withdraw k).freeUpload k).heldOf k then none else ((s.withdraw k).freeUpload k).desc? d := by
  have wfw : (s.withdraw k).descs.wf = true := (State.withdraw_touches (G := subscriptionViews) s k).canon .descs hwf
  exact State.desc?_freeAll _ _ (((s.withdraw k).freeUpload_touches (G := freeViews) k).canon .descs wfw) d

theorem State.release_withdrawn (s : State) (k : StreamId) : ((s.withdraw k).freeUpload k).release = s.release :=
  ((s.withdraw k).freeUpload_touches (G := freeViews) k).release.trans
    (State.withdraw_touches (G := subscriptionViews) s k).release

theorem State.release_stripped (s : State) (k : StreamId) : (s.stripped k).release =
    s.release.filter (· ∉ ((s.withdraw k).freeUpload k).heldOf k) := by
  rw [State.stripped, State.freeHeld_eq, State.release_freeAll, State.release_withdrawn]

theorem State.desc?_withdraw (s : State) (k : StreamId) (d : DescIx) : (s.withdraw k).desc? d = s.desc? d :=
  congrArg (·.get? d) (State.withdraw_touches (G := subscriptionViews) s k).descs

theorem State.stream_withdraw (s : State) (k j : StreamId) : (s.withdraw k).stream j = s.stream j := by
  rw [State.stream, (State.withdraw_touches (G := subscriptionViews) s k).streams]
  rfl

theorem Stream.state_drained (r : Stream) :
    r.drained.state = if r.drained.inUse = 0 then .closed else .draining := rfl

/-- The record of a stream that closes. -/
theorem State.stream_closeStream (hwf : s.descs.wf = true) (j : StreamId) : (s.closeStream k).stream j =
    if j = k then ((s.stripped k).stream k).drained else s.stream j := by
  have fewer : State.Fewer k (s.withdraw k) (s.stripped k) := State.stripped_fewer hwf
  have others := fewer.others j
  rw [State.closeStream_eq]
  generalize s.stripped k = u at others ⊢
  have started : (u.startDrain k).stream j = if j = k then (u.stream k).drained else u.stream j := by
    rw [State.startDrain_eq]
    split
    · refine Eq.trans ?_ (State.stream_setStream ..)
      rw [State.stream, State.notify_frame]
      rfl
    · exact State.stream_setStream ..
  rw [started]
  by_cases hj : j = k
  · rw [if_pos hj, if_pos hj]
  · rw [if_neg hj, if_neg hj, others hj, State.stream_withdraw]

/-! ### Streams closed one after another -/

end

/-- What the closing of the streams `ks` leaves of lists, counts, demand, trunks, streams and descriptors. -/
structure State.Closes (ks : List StreamId) (s u : State) : Prop where
  ended : State.Ended ks s u
  drained : ∀ k ∈ ks, (u.stream k).state = if (u.stream k).inUse = 0 then .closed else .draining
  others : ∀ k ∉ ks, u.stream k = s.stream k
  sub : ∀ d r, u.desc? d = some r → s.desc? d = some r
  kept : ∀ d r, s.desc? d = some r → (r.stream ∉ ks ∨ d ∉ s.release ∧ ∀ n, r.state ≠ .uploading n) → u.desc? d = some r
  gone : ∀ d r, d ∈ s.release → s.desc? d = some r → r.stream ∈ ks → r.state = .held → u.desc? d = none ∧ d ∉ u.release
  release : u.release.Sublist s.release
  queued : ∀ d r, d ∈ s.release → s.desc? d = some r → r.stream ∉ ks → d ∈ u.release

namespace State.Closes
variable {k : StreamId} {ks : List StreamId} {s u v : State}

theorem refl (s : State) : State.Closes [] s s :=
  ⟨.refl s, nofun, fun _ _ => rfl, fun _ _ => id, fun _ _ h _ => h, nofun, .refl _, fun _ _ h _ _ => h⟩

theorem cons (h : State.Closes [k] s u) (g : State.Closes ks u v) (hk : k ∉ ks) : State.Closes (k :: ks) s v := by
  have own {j : StreamId} (hj : j ∉ ks) (h : j ∈ k :: ks) : j ∈ [k] := by
    rcases List.mem_cons.1 h with rfl | h
    · exact List.mem_singleton.2 rfl
    · exact absurd h hj
  have apart {j : StreamId} (h : j ∉ k :: ks) : j ∉ [k] ∧ j ∉ ks :=
    ⟨fun e => h (List.mem_cons.2 (.inl (List.mem_singleton.1 e))), fun e => h (List.mem_cons_of_mem _ e)⟩
  refine ⟨h.ended.cons g.ended, fun j hj => ?_, fun j hj => ?_, fun d r hr => h.sub d r (g.sub d r hr), fun d r hr hd => ?_,
    fun d r hd hr hj hs => ?_, g.release.trans h.release, fun d r hd hr hj => ?_⟩
  · by_cases later : j ∈ ks
    · exact g.drained j later
    · rw [g.others j later]
      exact h.drained j (own later hj)
  · rw [g.others j (apart hj).2, h.others j (apart hj).1]
  · refine g.kept d r (h.kept d r hr (hd.imp_left fun hj => (apart hj).1)) ?_
    exact hd.imp (fun hj => (apart hj).2) fun hn => ⟨fun hu => hn.1 (h.release.subset hu), hn.2⟩
  · by_cases first : r.stream ∈ [k]
    · obtain ⟨none_, away⟩ := h.gone d r hd hr first hs
      refine ⟨Option.eq_none_iff_forall_ne_some.2 fun q hq => ?_, fun hv => away (g.release.subset hv)⟩
      rw [g.sub d q hq] at none_
      cases none_
    · have later : r.stream ∈ ks := by
        refine Classical.byContradiction fun hn => ?_
        exact first (own hn hj)
      exact g.gone d r (h.queued d r hd hr first) (h.kept d r hr (.inl first)) later hs
  · exact g.queued d r (h.queued d r hd hr (apart hj).1) (h.kept d r hr (.inl (apart hj).1)) (apart hj).2

/-- One stream closed. -/
theorem closeStream (hwf : s.descs.wf = true) (k : StreamId) : State.Closes [k] s (s.closeStream k) := by
  have wfw : (s.withdraw k).descs.wf = true := (State.withdraw_touches (G := subscriptionViews) s k).canon .descs hwf
  have rest : (s.stripped k).Touches [.streams, .stream .state, .portV] (s.closeStream k) := State.startDrain_touches ..
  have ended : State.Ended [k] s (s.closeStream k) := (State.Ended.withdraw s k).of_touches
    ((s.stripped_touches k).trans (rest.mono (View.subset_of (by decide +kernel))))
  have desc (d : DescIx) : (s.closeStream k).desc? d = _ :=
    (congrArg (·.get? d) rest.descs).trans (State.stripped_desc? hwf d)
  have release : (s.closeStream k).release = _ := rest.release.trans (s.release_stripped k)
  have stream := State.stream_closeStream (k := k) hwf
  have upload {d : DescIx} {r : Desc} (hr : s.desc? d = some r) (h : r.stream ≠ k ∨ ∀ n, r.state ≠ .uploading n) :
      ((s.withdraw k).freeUpload k).desc? d = some r :=
    State.desc?_freeUpload_kept wfw ((s.desc?_withdraw k d).trans hr) h
  have back (d : DescIx) : ((s.withdraw k).freeUpload k).desc? d = s.desc? d ∨ ((s.withdraw k).freeUpload k).desc? d = none :=
    (State.desc?_freeUpload wfw d).imp_left fun h => h.trans (s.desc?_withdraw k d)
  have named {d : DescIx} : d ∈ ((s.withdraw k).freeUpload k).heldOf k ↔ d ∈ s.release
      ∧ ∃ r, ((s.withdraw k).freeUpload k).desc? d = some r ∧ r.stream = k := by
    rw [State.mem_heldOf, State.release_withdrawn]
  have drained : ((s.closeStream k).stream k).state = if ((s.closeStream k).stream k).inUse = 0 then .closed else .draining := by
    rw [(stream k).trans (if_pos rfl)]
    exact Stream.state_drained _
  have others (j : StreamId) (hj : j ≠ k) : (s.closeStream k).stream j = s.stream j := (stream j).trans (if_neg hj)
  clear stream rest
  generalize s.closeStream k = u at ended desc release drained others
  generalize (s.withdraw k).freeUpload k = v at desc release upload back named
  have foreign {d : DescIx} {r : Desc} (hr : s.desc? d = some r) (hk : r.stream ≠ k) : d ∉ v.heldOf k := fun hd => by
    obtain ⟨-, q, hq, same⟩ := named.1 hd
    exact hk (Option.some.inj ((upload hr (.inl hk)).symm.trans hq) ▸ same)
  refine ⟨ended, fun j hj => ?_, fun j hj => others j fun h => hj (List.mem_singleton.2 h), fun d r hr => ?_,
    fun d r hr hd => ?_, fun d r hd hr hj hs => ?_, ?_, fun d r hd hr hj => ?_⟩
  · rw [List.mem_singleton.1 hj]
    exact drained
  · rw [desc] at hr
    split at hr
    · cases hr
    · rcases back d with same | none_
      · exact same.symm.trans hr
      · rw [none_] at hr
        cases hr
  · rw [List.mem_singleton] at hd
    rw [desc, upload hr (hd.imp_right fun h => h.2), if_neg]
    rcases hd with other | ⟨away, -⟩
    · exact foreign hr other
    · exact fun h => away (named.1 h).1
  · have here : v.desc? d = some r := upload hr (.inr fun n hn => by rw [hs] at hn; cases hn)
    have held := named.2 ⟨hd, r, here, List.mem_singleton.1 hj⟩
    refine ⟨by rw [desc, if_pos held], ?_⟩
    rw [release]
    exact fun h => of_decide_eq_true (List.mem_filter.1 h).2 held
  · rw [release]
    exact List.filter_sublist
  · rw [List.mem_singleton] at hj
    rw [release]
    exact List.mem_filter.2 ⟨hd, decide_eq_true (foreign hr hj)⟩

theorem each (hwf : s.descs.wf = true) {ks : List StreamId} (hks : ks.Nodup) :
    State.Closes ks s (s.each ks State.closeStream) := by
  induction ks generalizing s with
  | nil => exact refl s
  | cons k ks ih =>
    obtain ⟨hk, hks⟩ := List.nodup_cons.1 hks
    have next : (s.closeStream k).descs.wf = true := (State.closeStream_touches (G := closeViews) s k).canon .descs hwf
    have one := closeStream hwf k
    rw [State.each_cons]
    generalize s.closeStream k = u at one next ⊢
    exact one.cons (ih next hks) hk

end State.Closes
end Sys2Proof.Machine
end


section
/-! PROOF. The rows of STREAM_CLOSE and the Port V grace expiry (R165, R166). -/
namespace Sys2Proof.Machine

section
variable {s u : State} {k : StreamId} {ks : List StreamId} {m : PortMessage}

/-! ### Port V after a stream closed -/

theorem Stream.inUse_drained (r : Stream) : r.drained.inUse = r.inUse := rfl

theorem State.portV_closeStream (hwf : s.descs.wf = true) (hk : (s.stream k).state = .opened) :
    (s.closeStream k).ports.v = (if ((s.closeStream k).stream k).inUse = 0
      then (s.silence s.sectorDemand k).notify .V (.streamDrained k) else s.silence s.sectorDemand k).ports.v := by
  have inUse : ((s.closeStream k).stream k).inUse = ((s.stripped k).stream k).inUse :=
    (congrArg Stream.inUse ((State.stream_closeStream hwf k).trans (if_pos rfl))).trans (Stream.inUse_drained _)
  have fewer : State.Fewer k (s.withdraw k) (s.stripped k) := State.stripped_fewer hwf
  have port : (s.stripped k).ports.v = (s.silence s.sectorDemand k).ports.v :=
    (fewer.quiet (by rw [State.stream_withdraw]; exact hk)).2.trans (s.portV_withdraw k)
  have now : (s.stripped k).now = (s.silence s.sectorDemand k).now := by
    rw [State.now_silence, (s.stripped_touches k).now, (State.withdraw_touches (G := subscriptionViews) s k).now]
  rw [inUse, State.closeStream_eq]
  generalize s.stripped k = v at port now ⊢
  rw [State.startDrain_eq]
  by_cases hz : (v.stream k).inUse = 0
  · rw [if_pos hz, if_pos hz]
    exact State.portV_notify (v := v.setStream k (v.stream k).drained) port now _
  · rw [if_neg hz, if_neg hz]
    exact port

/-- An answer on Port V changes that port alone, and by that port alone. -/
theorem State.portV_answered {v : State} (h : u.ports.v = v.ports.v) (r : Result) (b : List Field) :
    (u.answered .V m r b).ports.v = (v.answered .V m r b).ports.v := by
  unfold State.answered State.setPort State.port
  dsimp only
  rw [h]

/-! ### STREAM_CLOSE -/

theorem State.desc?_closeStream_upload (hwf : s.descs.wf = true) {d : DescIx} {r : Desc} {n : Nat}
    (hu : s.upload? k = some (d, r, n)) : (s.closeStream k).desc? d = none := by
  have withdrawn := State.withdraw_touches (G := subscriptionViews) s k
  have wfw : (s.withdraw k).descs.wf = true := withdrawn.canon .descs hwf
  have named : (s.withdraw k).upload? k = some (d, r, n) := by
    rw [State.upload?, withdrawn.descs]
    exact hu
  have rest : (s.stripped k).Touches [.streams, .stream .state, .portV] (s.closeStream k) := State.startDrain_touches ..
  rw [State.desc?, rest.descs]
  exact (State.stripped_desc? hwf d).trans ((ite_eq_left_iff).2 fun _ => State.desc?_freeUpload_named wfw named)

theorem State.closeFrees_eq (s : State) (k : StreamId) : s.closeFrees k =
    (s.release.filter fun d => (s.desc? d).any fun r => r.stream == k).length + bit (s.upload? k).isSome := by
  have same : s.heldOf k = s.release.filter fun d => (s.desc? d).any fun r => r.stream == k :=
    List.filter_congr fun d _ => by
      unfold State.ofStream
      cases s.desc? d <;> rfl
  rw [State.closeFrees, same]

theorem exec_streamClose_wrong (h : s.Taking p .streamClose m) (hk : byteAt m.body 0 = k.val)
    (hs : (s.stream k).state ≠ .opened) : exec (.streamClose p) s = .next (s.answered p m .wrongState []) := by
  refine h.onStream hk rfl rfl ?_ fun _ => rfl
  dsimp only
  cases hc : (s.stream k).state with
  | opened => exact absurd hc hs
  | closed | draining => rfl

theorem exec_streamClose (h : s.Taking p .streamClose m) (hk : byteAt m.body 0 = k.val)
    (hs : (s.stream k).state = .opened) : exec (.streamClose p) s = .next ((s.closeStream k).answered p m .ok
      [.u16 (s.closeFrees k), .u16 ((s.closeStream k).stream k).inUse]) := by
  refine h.onStream hk rfl rfl ?_ fun hn => absurd rfl hn
  dsimp only
  rw [hs]

/-- The trunks after a stream closed: STREAM_END on each ACTIVE one that has room. -/
theorem State.trunk_closeStream (s : State) (k : StreamId) (t : TrunkId) : (s.closeStream k).trunk t =
    if (s.trunk t).state ≠ .active then s.trunk t
    else if (s.trunk t).control.length < 512 then
      { s.trunk t with control := (s.trunk t).control ++ [⟨none, .streamEnd k⟩] }
    else { s.trunk t with flags := { (s.trunk t).flags with controlOverflow := true } } := by
  have rest : (s.withdraw k).Touches (.release :: freeViews) (s.closeStream k) :=
    .trans (s.stripped_touches k) (State.startDrain_touches ..)
  rw [rest.trunkAll t, State.trunk_withdraw]
  by_cases ha : (s.trunk t).state = .active
  · have serving : (s.trunk t).state.serving = true := by rw [ha]; rfl
    rw [if_pos ha, if_neg (not_not_intro ha), Trunk.told, if_pos serving]
    rfl
  · rw [if_neg ha, if_pos ha]

/-! ### The Port V grace expiry -/

theorem exec_portVGraceExpiry (h : s.held = false) : exec .portVGraceExpiry s = .next (match s.grace with
    | none => s
    | some g => if 500 ≤ elapsed s.now g then State.each { s with grace := none } s.openStreams State.closeStream
      else s) := by
  change execPortVGraceExpiry s = _
  unfold execPortVGraceExpiry graceUnits
  refine (State.live_released s h _).trans ?_
  cases s.grace <;> rfl

/-- A record that no list of the streams closed is left in. -/
theorem State.Closes.unlisted (h : State.Closes ks s u) (hk : k ∈ ks) {i : StationIx} {r : Station}
    (hr : u.station? i = some r) : k ∉ r.subs := by
  rw [h.ended.stations i] at hr
  obtain ⟨q, -, rfl⟩ := Option.map_eq_some_iff.1 hr
  exact fun hm => of_decide_eq_true (List.mem_filter.1 hm).2 hk

/-- A RELEASED descriptor outside the release queue stays. -/
theorem State.Closes.keeps (h : State.Closes ks s u) {d : DescIx} {r : Desc} {refs : Nat} {cs : Vector Carry 8}
    (hr : s.desc? d = some r) (hs : r.state = .released refs cs) (hd : d ∉ s.release) : u.desc? d = some r :=
  h.kept d r hr (.inr ⟨hd, fun n hn => by rw [hs] at hn; cases hn⟩)

end

/-- Settles O48: STREAM_CLOSE closes one stream, the grace expiry each OPEN one, ascending. -/
theorem streamsClosed : Obligations.StreamsClosed := by
  intro s hwf kept
  refine ⟨fun p m k h hk => ⟨exec_streamClose_wrong h hk, fun hs => ?_⟩, fun hh hg => ?_, fun g hh hg he => ?_,
    fun g hh hg he => ?_⟩
  · obtain rfl : p = .V := beq_iff_eq.1 h.permitted
    have run := exec_streamClose h hk hs
    have closes := State.Closes.closeStream hwf k
    have trunk := s.trunk_closeStream k
    have port := State.portV_closeStream hwf hs
    have touched := s.closeStream_touches (G := closeViews) k
    rw [s.closeFrees_eq] at run
    have gone (d : DescIx) (r : Desc) (n : Nat) (hu : s.upload? k = some (d, r, n)) :
        (s.closeStream k).desc? d = none := State.desc?_closeStream_upload hwf hu
    generalize s.closeStream k = v at run closes trunk port touched gone
    have one : k ∈ [k] := List.mem_singleton.2 rfl
    have stations (i : StationIx) : v.station? i = (s.station? i).map fun r => { r with subs := r.subs.filter (· ≠ k) } := by
      rw [closes.ended.stations i]
      simp only [List.mem_singleton, ne_eq]
    refine ⟨_, run, closes.drained k one, fun i r => closes.unlisted one, stations,
      fun c => (closes.ended.counts c k).trans (if_pos one), (closes.ended.demand k).trans (if_pos one), gone,
      fun d r hd hr hj hs => closes.gone d r hd hr (List.mem_singleton.2 hj) hs, closes.release, fun d r hd hr hj => ?_,
      fun d r refs cs => closes.keeps, trunk, ?_, fun j hj => ?_, touched.tickets, touched.cells, touched.marks,
      touched.segMem⟩
    · have other : r.stream ∉ [k] := fun h => hj (List.mem_singleton.1 h)
      exact ⟨closes.queued d r hd hr other, closes.kept d r hr (.inl other)⟩
    · exact State.portV_answered port .ok _
    · have other : j ∉ [k] := fun h => hj (List.mem_singleton.1 h)
      exact ⟨closes.others j other, (closes.ended.demand j).trans (if_neg other),
        fun c => (closes.ended.counts c j).trans (if_neg other)⟩
  · rw [exec_portVGraceExpiry hh, hg]
  · rw [exec_portVGraceExpiry hh, hg]
    exact congrArg _ (if_neg (Nat.not_le.2 he))
  · have run := exec_portVGraceExpiry hh
    rw [hg] at run
    dsimp only at run
    rw [if_pos he] at run
    have nodup : s.openStreams.Nodup := nodup_allStreams.filter _
    have closes := State.Closes.each (s := { s with grace := none }) hwf nodup
    have touched : State.Touches closeViews { s with grace := none } _ :=
      .each (fun v k => State.closeStream_touches v k) (xs := s.openStreams) { s with grace := none }
    generalize State.each { s with grace := none } s.openStreams State.closeStream = u at run closes touched
    have open_ (k : StreamId) : k ∈ s.openStreams ↔ (s.stream k).state = .opened := State.mem_openStreams
    have list : s.openStreams = allStreams.filter fun k => (s.stream k).state = .opened :=
      List.filter_congr fun k _ => by rw [State.isOpen, Bool.eq_iff_iff, beq_iff_eq, decide_eq_true_iff]
    refine ⟨u, run, touched.grace, fun k hk => ?_, fun k hk => closes.others k (mt (open_ k).1 hk), fun i => ?_,
      fun d r refs cs => closes.keeps, fun t => ⟨closes.ended.away t, fun ha hl => ?_⟩, touched.tickets, touched.cells,
      touched.marks, touched.segMem⟩
    · have one := (open_ k).2 hk
      exact ⟨closes.drained k one, fun i r => closes.unlisted one, fun c => (closes.ended.counts c k).trans (if_pos one),
        (closes.ended.demand k).trans (if_pos one),
        fun d r hd hr hj hs => closes.gone d r hd hr (hj ▸ one) hs⟩
    · rw [closes.ended.stations i]
      simp only [open_]
      rfl
    · rw [List.length_map, ← list] at hl
      rw [← list]
      exact closes.ended.ends t ha hl

end Sys2Proof.Machine
end
